-- ==== Sys2Proof/Word.lean ====
section
/-! DEFINITION. The word types of the part: bytes, 32-bit registers and fields, 64-bit addresses,
and the bounded indices of its ports and patterns. -/

namespace Sys2Proof

/-- A byte of a text, a record or a line. -/
abbrev Byte := BitVec 8

/-- A 32-bit register or field (R185, R190). -/
abbrev Word := BitVec 32

/-- An address of the processor's memory (R187: ANCHOR_HI and ANCHOR_LO together). -/
abbrev Addr := BitVec 64

/-- One of the 24 console lines. -/
abbrev PortId := Fin 24

/-- One of the 32 entries of the pattern table (R107). -/
abbrev PatternId := Fin 32

end Sys2Proof
end

