-- ==== Sys2Proof/Syntax.lean ====
section
/-! DEFINITION. The commands of the part: one constructor per row of spec/opcode_table.json, with the
operands that the sender gives (the value written, the answer to a read, the port and what was seen
on its line). -/

namespace Sys2Proof

/-- The eight registers of the register window (R187), in the order of their offsets. -/
inductive Register
  | ident | control | status | anchorLo | anchorHi | attention | attnEnable | attnForce
deriving DecidableEq, Repr

/-- What the receiver sampled of one character (R85): the data bits, least significant first in
`data`, the parity bit, and the two stop bits, where true is MARK. Samples that the format does not
have are not looked at. -/
structure RxSamples where
  data   : Byte
  parity : Bool
  stop1  : Bool
  stop2  : Bool
deriving DecidableEq, Repr

/-- A command or an event. `phase` is the tick phase at which a change on a receive line is seen
within the current part-time value (log 6). -/
inductive Instr
  | enable
  | stop
  | sweep
  | softReset
  | attentionWrite (value : Word)
  | attnEnableWrite (value : Word)
  | attnForceWrite (value : Word)
  /-- `bytes` is how many bytes the write carries: 4, or fewer for a narrow write (R185). -/
  | registerWrite (reg : Register) (bytes : Nat) (value : Word)
  | hardReset
  /-- The new settings of bus mastering enable and message enable (R173). -/
  | busMasterConfigChange (busMaster message : Bool)
  | partTimeIncrement
  | sweepTimerExpiry
  | hmeGrant
  | writePieceLeaves
  | readPieceLeaves
  /-- `answer` is the bytes of the answer, or none for an error or data marked as bad (R171). -/
  | readPieceAnswer (tag : Nat) (answer : Option (List Byte))
  | readPieceTimeout (tag : Nat)
  | tsuTakeCompletion
  | rateWaitLimitExpiry (port : PortId)
  | responseDeadlineExpiry (port : PortId)
  | retryPauseExpiry (port : PortId)
  | breakTimerExpiry (port : PortId)
  | breakGuardEnd (port : PortId)
  | txCharacterEnd (port : PortId)
  | txGapEnd (port : PortId)
  | txPauseEnd (port : PortId)
  | holdIdleTimerExpiry (port : PortId)
  /-- `samples` is read at the last stop sample; `phase` is when the line returned to MARK, for a
  zero character that waits (R85, R86). -/
  | rxByteDelivered (port : PortId) (samples : RxSamples) (phase : Nat)
  | rxBreakDetected (port : PortId)
  | rxBreakEnd (port : PortId) (phase : Nat)
  | quietTimerExpiry (port : PortId)
  | rfIntervalEnd (port : PortId) (phase : Nat)
  | caMeetInput (port : PortId)
  | statusWriteIssue (port : PortId)
  | senseIntervalExpiry
  /-- The 12-bit code of the conversion that completes (R158). -/
  | senseSampleDone (code : BitVec 12)
  | startEdge (port : PortId) (phase : Nat)
  | falseStart (port : PortId)
  | armingLineReturnsToMark (port : PortId) (phase : Nat)
deriving DecidableEq, Repr

end Sys2Proof
end

