-- ==== Sys2Proof/Decode.lean ====
section
/-! DEFINITION. The decoder the interface asks for. spec/opcode_table.json gives no row any bits, so no
word spells a command (log 29). -/

namespace Sys2Proof

/-- The command that a word spells by the table's bits: none, since no row of the table has bits. -/
def decodeTableWord (_nbits _w : Nat) : Option Instr := none

end Sys2Proof
end

