-- ==== Sys2Proof/Config.lean ====
section
/-! DEFINITION. The fixed numbers of the part, each with the rule that gives it, and the one free
value that the spec leaves open. -/

namespace Sys2Proof.Config

/-- The reference frequency, 36.864 MHz (chapter 4 introduction, R69). -/
abbrev referenceHz : Nat := 36864000

/-- Reference ticks in one part-time increment (R64). -/
abbrev ticksPerMs : Nat := 36864

/-- The most entries a line queue holds (R25). -/
abbrev queueCapacity : Nat := 8

/-- The size of the staging buffer (R83). -/
abbrev stagingCapacity : Nat := 64

/-- The most entries the receive FIFO holds (R89). -/
abbrev fifoCapacity : Nat := 64

/-- The most ordinary items the event list holds (R130). -/
abbrev eventCapacity : Nat := 16

/-- The most data bytes of a capture record (R126). -/
abbrev recordCapacity : Nat := 240

/-- The most pieces the write queue holds (R169). -/
abbrev writeQueueCapacity : Nat := 16

/-- The entries of the outstanding read table (R170). -/
abbrev readTableCapacity : Nat := 32

/-- The timeout of a read piece, in ms (R171). -/
abbrev readTimeoutMs : Nat := 50

/-- The ticks of one conversion of the Line Sense Scanner (R157). -/
abbrev conversionTicks : Nat := 1475

/-- The ceiling of a 16-bit error counter (R91). -/
abbrev counterMax : Nat := 65535

/-- The ceiling of a measured duration and of the pending gap (R67, R137). -/
abbrev countMax : Nat := 4294967295

/-- FREE VALUE (log 7): whether a receive line reads MARK at the moment a character being sampled is
abandoned (R88, R93). No command tells the level inside a character, so nothing constrains it: it is
applied to the port and to the counter `State.freeCount`. -/
opaque lineLevel : Nat → Nat → Bool

end Sys2Proof.Config
end

