-- ==== Sys2Proof/Machine/State.lean ====
section
/-! DEFINITION. Everything the spec lets the part hold, as plain data, and its value after a hard reset.
Stamps that the processor sees are 32-bit part times; instants that intervals are measured from are
counted in reference ticks or in part-time increments since the hard reset. -/

namespace Sys2Proof.Machine

/-! ### Time (chapter 4) -/

/-- The Time Base (R64). `ticks` counts reference ticks and `increments` part-time increments since the
hard reset. Part time and tick phase are its two views, `State.partTime` and `State.phase` (log 2). -/
structure TimeBase where
  ticks      : Nat
  increments : Nat
deriving DecidableEq, Repr

/-- A timer armed by the deadline rule (R66): the increments and the tick phase at its arming, and its
length T in ms. -/
structure Timer where
  armedAt : Nat
  phase   : Nat
  span    : Nat
deriving DecidableEq, Repr

/-! ### Control states and causes (chapters 11 and 12) -/

/-- The control state of the part (R177). -/
inductive ControlState
  | off | running | draining | stopped
deriving DecidableEq, Repr

/-- The anchor error code (R178, R187). -/
inductive AnchorError
  | noError | align | readFault | tag | version | ports | slots | capture
deriving DecidableEq, Repr

/-- The ten causes of ATTENTION, in bit order (R174, R187). -/
inductive Cause
  | task | watch | presence | rate | freeze | hold | full | fault | anchor | stopped
deriving DecidableEq, Repr

/-- The last notice kind of a port (R176). -/
inductive NoticeKind
  | noNotice | watch | presenceUp | presenceDown | rateLocked | rateFailed | frozen | holdLost | full
deriving DecidableEq, Repr

/-! ### Tasks (chapters 1 and 2) -/

/-- The task kinds (R190). -/
inductive TaskKind
  | send | exchange | brk | line | hold | release | watch | thaw | guard | broadcast
  | abort | pattern | sense
deriving DecidableEq, Repr

/-- The result codes (R190), in the order of their values. -/
inductive ResultCode
  | ok | noMatch | cancelled | held | notHolder | lineLost | badTask | guarded | memoryFault
  | notFound | partialResult | noRate | drained
deriving DecidableEq, Repr

/-- The fields that a queue entry carries from its slot (R13), besides slot index, kind and port. -/
structure TaskFields where
  originator   : BitVec 4
  orderKey     : Nat
  flags        : BitVec 16
  textAddress  : Addr
  textLength   : Nat
  patternId    : Nat
  retries      : Nat
  responseTime : Nat
  retryPause   : Nat
  paramA       : Word
  paramB       : Word
  paramC       : Word
  paramD       : Word
deriving DecidableEq, Repr

/-- A POSTED slot as the whole-slot read returned it (R8). -/
structure TaskSlot where
  stateByte : Byte
  kindCode  : Nat
  port      : Nat
  fields    : TaskFields
deriving DecidableEq, Repr

/-- An entry of a line queue, or a share of a BROADCAST (R25). -/
structure QueueEntry where
  slot   : Nat
  kind   : TaskKind
  fields : TaskFields
deriving DecidableEq, Repr

/-- The exchange states (chapter 2 introduction). -/
inductive ExchangeState
  | idle | rateWait | sending | draining | awaiting | pausing | breaking
deriving DecidableEq, Repr

/-- Why a task in SENDING or DRAINING stops at the end of the character on the line (R30, R31, R39). -/
inductive StopCause
  | cancelled | lineLost | memoryFault
deriving DecidableEq, Repr

/-- The Exchange Controller of a port. -/
structure Exc where
  state     : ExchangeState
  attempts  : Nat
  bytesSent : Nat
  startTime : Word
  timer     : Option Timer
  stopping  : Option StopCause
deriving DecidableEq, Repr

/-- The hold record of a port (R52). -/
structure Hold where
  owner       : Option (BitVec 4)
  idleSeconds : Nat
  timer       : Option Timer
deriving DecidableEq, Repr

/-- A completion handed to the TSU (R22, R27). -/
structure Completion where
  slot          : Nat
  notify        : Bool
  code          : ResultCode
  attempts      : Nat
  bytesSent     : Nat
  matchSequence : Word
  startTime     : Word
  endTime       : Word
  outcomeA      : Word
  outcomeB      : Word
deriving DecidableEq, Repr

/-- What the TSU holds of a BROADCAST slot until its last share has ended (R47). `total` shares were
placed and `left` have not ended; `nDrained` ended DRAINED. -/
structure Broadcast where
  slot       : Nat
  textLength : Nat
  notify     : Bool
  total      : Nat
  left       : Nat
  nDrained   : Nat
  sent       : BitVec 24
  refused    : BitVec 24
  drained    : BitVec 24
  characters : Nat
  start      : Option Word
  cancelled  : Bool
  fault      : Bool
deriving DecidableEq, Repr

/-! ### Serial Line Unit (chapter 5) -/

/-- FIXED or AUTO (R78). -/
inductive LineMode
  | fixed | auto
deriving DecidableEq, Repr

/-- The parity of a format (R78, R81). -/
inductive Parity
  | noParity | even | odd
deriving DecidableEq, Repr

/-- Data bits, parity and stop bits of a port (R71, R78). -/
structure LineFormat where
  dataBits : Nat
  parity   : Parity
  stopBits : Nat
deriving DecidableEq, Repr

/-- The line settings of a port (R78). -/
structure LineSettings where
  mode          : LineMode
  period        : Nat
  format        : LineFormat
  gap           : Nat
  fallbackRate  : Nat
  pauseEnable   : Bool
  lineEndCode   : Byte
  pauseMs       : Nat
  endCodeEnable : Bool
  endCode       : Byte
  quiet         : Nat
deriving DecidableEq, Repr

/-- A character on the transmit line (R81): its bits in line order (true is MARK), the tick and the part
time of its start bit, its period, and whether a line-end pause follows it. -/
structure TxCharacter where
  byte         : Byte
  bits         : List Bool
  startTick    : Nat
  startTime    : Word
  period       : Nat
  pauseFollows : Bool
deriving DecidableEq, Repr

/-- The transmitter's six states (R81), each timed one with the tick at which it ends. -/
inductive Transmitter
  | free
  | character (c : TxCharacter)
  | gap (endTick : Nat) (pauseFollows : Bool)
  | pause (endTick : Nat)
  | breakSpace
  | breakGuard (endTick : Nat)
deriving DecidableEq, Repr

/-- A character being received: the tick and the increments of its start edge, and the period and format
taken there (R85). -/
structure RxCharacter where
  edgeTick : Nat
  edgeTime : Nat
  period   : Nat
  format   : LineFormat
deriving DecidableEq, Repr

/-- The receiver (R85): its four decoding states, the wait on a zero character (R86), and not decoding
while the port is SEEKING (R88). `silent` marks a BREAK detected while bytes are discarded (R92). -/
inductive Receiver
  | arming
  | hunting
  | sampling (c : RxCharacter)
  | zeroWait (c : RxCharacter)
  | brk (edgeTime : Nat) (silent : Bool)
  | notDecoding
deriving DecidableEq, Repr

/-- The match note of a byte (R120): how many watched patterns it completed, the lowest of them, and the
trigger id. -/
structure MatchNote where
  count   : Nat
  lowest  : Option PatternId
  trigger : Option PatternId
deriving DecidableEq, Repr

/-- An entry of the receive FIFO (R89). -/
structure FifoEntry where
  byte     : Byte
  sequence : Word
  framing  : Bool
  parity   : Bool
  time     : Word
  note     : MatchNote
deriving DecidableEq, Repr

/-- The four error counters (R91). -/
structure ErrorCounters where
  framing  : Nat
  parity   : Nat
  overruns : Nat
  breaks   : Nat
deriving DecidableEq, Repr

/-- The Serial Line Unit of a port. `textRead` names the text read outstanding for the current sending
(R83); `lineMark` is the level of the receive line as last told (true is MARK). -/
structure Slu where
  line         : LineSettings
  tx           : Transmitter
  staging      : List Byte
  fetchOffset  : Nat
  textRead     : Option Nat
  rx           : Receiver
  lineMark     : Bool
  receiveCount : Word
  fifo         : List FifoEntry
  errors       : ErrorCounters
  quietEnd     : Option Nat
deriving DecidableEq, Repr

/-! ### Rate Finder (chapter 6) -/

/-- The rate states (R95). -/
inductive RateState
  | fixed | seeking | verifying | locked | failed
deriving DecidableEq, Repr

/-- The Rate Finder of a port (R95). `interval` is the tick at which the line went to SPACE. -/
structure RateFinder where
  state         : RateState
  attempts      : Nat
  samples       : List Nat
  interval      : Option Nat
  verifySeen    : Nat
  verifyFraming : Nat
deriving DecidableEq, Repr

/-! ### Pattern Matcher (chapter 7) -/

/-- The element kinds (R108). -/
inductive ElementKind
  | exact | fold | any | digit | blank
deriving DecidableEq, Repr

/-- An element of a pattern (R107). -/
structure Element where
  kind  : ElementKind
  value : Byte
deriving DecidableEq, Repr

/-- The last watch record (R118). -/
structure LastWatch where
  pattern  : Byte
  sequence : Word
  time     : Word
deriving DecidableEq, Repr

/-- The matching state of a port (R110). `eligible` is 0 for a pattern that is not armed (log 27). -/
structure PortMatch where
  watch     : BitVec 32
  trigger   : BitVec 32
  await     : Option PatternId
  tail      : List Byte
  eligible  : Vector Nat 32
  lastWatch : LastWatch
deriving DecidableEq, Repr

/-! ### Capture Assembler and freeze (chapters 8 and 9) -/

/-- The capture modes (R124). -/
inductive CaptureMode
  | history | keep | off
deriving DecidableEq, Repr

/-- The capture states (R125). -/
inductive CaptureState
  | normal | full | off
deriving DecidableEq, Repr

/-- The gap causes (R137, R191). -/
inductive GapCause
  | overrun | full | frozen | stopped
deriving DecidableEq, Repr

/-- The mark kinds (R136, R191). -/
inductive MarkKind
  | presenceUp | presenceDown | rateLocked | rateRejected | rateFailed | settings
  | breakRx | frozen | thawed | breakTx | enabled
deriving DecidableEq, Repr

/-- The four closing flags of a DATA record (R134). -/
inductive CloseCause
  | endCode | quiet | fullLength | event
deriving DecidableEq, Repr

/-- The open DATA record (R133). -/
structure DataRecord where
  bytes      : List Byte
  framing    : Bool
  parity     : Bool
  matched    : Bool
  multiMatch : Bool
  tag        : Byte
  time       : Word
  sequence   : Word
  errors     : Nat
deriving DecidableEq, Repr

/-- A TX record (R135). -/
structure TxRecord where
  slot  : Nat
  time  : Word
  bytes : List Byte
deriving DecidableEq, Repr

/-- The pending gap, when its count is not 0 (R137). -/
structure PendingGap where
  count    : Nat
  cause    : GapCause
  sequence : Word
  time     : Word
deriving DecidableEq, Repr

/-- A run of bytes lost to overrun (R129): its first sequence number, how many, and its first trigger
with the place of the trigger's byte in the run. -/
structure LossRun where
  sequence : Word
  count    : Nat
  trigger  : Option (PatternId × Nat)
deriving DecidableEq, Repr

/-- What an event item does after closing the open DATA record (R130, R150, R153). -/
inductive ItemAction
  | close (marks : List (MarkKind × Word))
  | quiet
  | txClosed (record : TxRecord)
  | freeze
  | thaw (count : Nat)
  | settle
deriving DecidableEq, Repr

/-- An event item with its position in the receive sequence and the part time of its handing (R128, R130). -/
structure EventItem where
  position : Word
  time     : Word
  action   : ItemAction
deriving DecidableEq, Repr

/-- A record with every field of its header decided, still without its place in the area (R126). -/
inductive CaptureRecord
  | data (record : DataRecord) (cause : CloseCause)
  | tx (record : TxRecord) (sequence : Word)
  | mark (kind : MarkKind) (value : Word) (time sequence : Word)
deriving DecidableEq, Repr

/-- One write of a write unit (R127, R131, R138). -/
inductive UnitRecord
  | pad (size : Nat)
  | gap (gap : PendingGap)
  | record (record : CaptureRecord)
deriving DecidableEq, Repr

/-- The record in hand with what must precede it (R131). `passed` says that the room test of R140 has been
passed, so that only grants are awaited. -/
structure WriteUnit where
  records : List UnitRecord
  passed  : Bool
deriving DecidableEq, Repr

/-- What the CA has still to do for the input it has met (log 18). `joinGap` is false for the ENABLED mark
alone (R144); `met` is the part time at which a loss run was met (R137). -/
inductive CaptureStep
  | write (record : CaptureRecord) (joinGap : Bool)
  | writeGap
  | loseRun (run : LossRun) (met : Word)
deriving DecidableEq, Repr

/-- A read-mark fetch: none, waiting for its grant, or outstanding under a read number (R140). -/
inductive MarkFetch
  | idle
  | wanted
  | outstanding (read : Nat)
deriving DecidableEq, Repr

/-- The Capture Assembler of a port (R124, R125). `runGrows` says that no item has been handed since the
last lost byte (R129); `txTaken` that a freeze has closed a TX record of the running sending, whose own
TX-closed item is still to be handed (R150, log 40). -/
structure Capture where
  areaAddress   : Addr
  areaSize      : Nat
  mode          : CaptureMode
  writePosition : Word
  readMark      : Word
  state         : CaptureState
  openData      : Option DataRecord
  openTx        : Option TxRecord
  txTaken       : Bool
  lossRuns      : List LossRun
  runGrows      : Bool
  events        : List EventItem
  agenda        : List CaptureStep
  inHand        : Option WriteUnit
  gap           : Option PendingGap
  lastFetch     : Option Word
  fetch         : MarkFetch
  settled       : Bool
deriving DecidableEq, Repr

/-- The freeze states (R147). -/
inductive FreezeState
  | live | counting | frozen
deriving DecidableEq, Repr

/-- The freeze of a port (R147). -/
structure Freeze where
  state     : FreezeState
  postCount : Nat
  remaining : Nat
  trigger   : Option PatternId
deriving DecidableEq, Repr

/-- The status writer's state of a port (R146, R176). `request` is a status write waiting for its grant,
true when it is the final write of R143; `finalIssued` says that one has been issued, which is also the
CA's report that the port is settled. -/
structure StatusWriter where
  changed     : Bool
  lastWrite   : Option Word
  request     : Option Bool
  finalIssued : Bool
  noticeCount : BitVec 16
  lastNotice  : NoticeKind
deriving DecidableEq, Repr

/-! ### Line Sense Scanner (chapter 10) -/

/-- Presence (R156). -/
inductive Presence
  | unknown | present | absent
deriving DecidableEq, Repr

/-- The class of a run (R156). -/
inductive RunClass
  | noRun | high | low
deriving DecidableEq, Repr

/-- The scanner's items of a port (R156); the level is in mV. -/
structure PortSense where
  level    : Int
  presence : Presence
  runClass : RunClass
  runCount : Nat
deriving DecidableEq, Repr

/-- A sense sweep in progress: the tick it began at and the port whose conversion is next (R157). -/
structure SenseSweep where
  startTick : Nat
  port      : Nat
deriving DecidableEq, Repr

/-- The settings and the sweep of the scanner (R156, R157). `firstDue` says that the first sweep after a
reset begins at the next increment. -/
structure Scanner where
  presentMv : Nat
  absentMv  : Nat
  debounce  : Nat
  interval  : Nat
  scanPorts : Nat
  timer     : Option Timer
  sweep     : Option SenseSweep
  firstDue  : Bool
deriving DecidableEq, Repr

/-! ### A port -/

/-- All the state that exists once per port. -/
structure Port where
  queue  : List QueueEntry
  exc    : Exc
  hold   : Hold
  guard  : BitVec 3
  slu    : Slu
  rf     : RateFinder
  pm     : PortMatch
  ca     : Capture
  freeze : Freeze
  sense  : PortSense
  status : StatusWriter
deriving DecidableEq, Repr

/-! ### Host Memory Engine (chapter 11) -/

/-- Who asked for a read (R167). -/
inductive Requester
  | slotHeader | wholeSlot | patternText | anchorHeader | descriptors
  | readMark (port : PortId)
  | text (port : PortId)
deriving DecidableEq, Repr

/-- A write piece (R168). `raisesTask` marks the DONE write of a slot with NOTIFY set (R23). -/
structure WritePiece where
  address    : Addr
  bytes      : List Byte
  raisesTask : Bool
deriving DecidableEq, Repr

/-- What goes out on the link, in grant order (R169, R175). -/
inductive LinkItem
  | write (piece : WritePiece)
  | read (tag : Nat) (address : Addr) (length : Nat)
  | message
deriving DecidableEq, Repr

/-- An entry of the outstanding read table (R170). `read` is shared by the pieces of one read; `data` holds
the answer to this piece while others of the read are awaited. -/
structure ReadEntry where
  tag       : Nat
  read      : Nat
  requester : Requester
  address   : Addr
  length    : Nat
  left      : Bool
  timer     : Option Timer
  discarded : Bool
  data      : Option (List Byte)
deriving DecidableEq, Repr

/-- The Host Memory Engine (R169 to R173). `outgoing` is the write queue together with the reads and
messages whose place in the grant order lies among its writes; `sent` is what has left, newest first
(log 13). -/
structure Hme where
  busMaster     : Bool
  message       : Bool
  outgoing      : List LinkItem
  sent          : List LinkItem
  reads         : List ReadEntry
  nextTag       : Nat
  nextRead      : Nat
  statusPointer : PortId
  markPointer   : PortId
  textPointer   : PortId
  capturePointer : PortId
  tsuTurn       : Bool
deriving DecidableEq, Repr

/-! ### Task Sweep Unit (chapter 1) -/

/-- The table geometry latched at enable (R1). -/
structure Geometry where
  tableAddress : Addr
  slotCount    : Nat
  portCount    : Nat
  sweepPeriod  : Nat
deriving DecidableEq, Repr

/-- A write of a slot that waits for its grant (R167). -/
structure SlotWrite where
  address    : Addr
  bytes      : List Byte
  raisesTask : Bool
deriving DecidableEq, Repr

/-- What a running sweep is doing with the slot at its index (R7, R8, R15, R6). -/
inductive SweepStage
  | headerWanted
  | headerOut (read : Nat)
  | wholeWanted
  | wholeOut (read : Nat)
  | patternWanted (slot : TaskSlot) (start : Word)
  | patternOut (slot : TaskSlot) (start : Word) (read : Nat)
  | writing
deriving DecidableEq, Repr

/-- A running sweep: its cause, its position and its stage (R4, R7). -/
structure Sweep where
  requested : Bool
  index     : Nat
  stage     : SweepStage
deriving DecidableEq, Repr

/-- The Task Sweep Unit. -/
structure Tsu where
  geometry       : Geometry
  inFlight       : List Nat
  sweep          : Option Sweep
  pendingRequest : Bool
  timer          : Option Timer
  completions    : List Completion
  broadcasts     : List Broadcast
  writes         : List SlotWrite
deriving DecidableEq, Repr

/-! ### Bus Port (chapter 12) -/

/-- The anchor header (R188). -/
structure AnchorHeader where
  tag          : Word
  version      : Nat
  portCount    : Nat
  slotCount    : Nat
  sweepPeriod  : Nat
  tableAddress : Addr
deriving DecidableEq, Repr

/-- The read that an enable in progress is at (R178). -/
inductive EnableStage
  | headerWanted
  | headerOut (read : Nat)
  | descriptorsWanted (header : AnchorHeader)
  | descriptorsOut (header : AnchorHeader) (read : Nat)
deriving DecidableEq, Repr

/-- An enable in progress, with the address it latched (R177, R178). -/
structure Enabling where
  anchor : Addr
  stage  : EnableStage
deriving DecidableEq, Repr

/-- The Bus Port. `anchor` is the address latched by the last successful enable; `settleHanded` says that
the settle requests of this drain have been handed (R182). -/
structure BusPort where
  control      : ControlState
  anchorError  : AnchorError
  anchorLo     : Word
  anchorHi     : Word
  anchor       : Addr
  enabling     : Option Enabling
  settleHanded : Bool
deriving DecidableEq, Repr

/-! ### The whole part -/

/-- The state of the part. `pending` is the queue of commands (log 1) and `freeCount` the counter that free
values are drawn with (log 7). -/
structure State where
  pending    : List Instr
  time       : TimeBase
  bus        : BusPort
  attention  : BitVec 10
  attnEnable : BitVec 10
  hme        : Hme
  tsu        : Tsu
  patterns   : Vector (Option (List Element)) 32
  scanner    : Scanner
  ports      : Vector Port 24
  freeCount  : Nat
deriving DecidableEq, Repr

/-- No command of this block faults: what the spec calls a read fault is an event that the part handles
(R171), so the type has no value. -/
inductive Fault
deriving DecidableEq, Repr

/-- Why a command has no meaning. -/
inductive Refusal
  /-- Raised by `exec` alone, for a row of the table that has no meaning yet; no arm does. Safe. -/
  | notModelled (mnemonic : String)
deriving DecidableEq, Repr

/-! ### Reset values -/

/-- The Exchange Controller at rest (R50). -/
def Exc.idle : Exc :=
  { state := .idle, attempts := 0, bytesSent := 0, startTime := 0, timer := none, stopping := none }

/-- A cleared hold record (R52, R59). -/
def Hold.clear : Hold := { owner := none, idleSeconds := 0, timer := none }

/-- 8N1 (R78). -/
def LineFormat.reset : LineFormat := { dataBits := 8, parity := .noParity, stopBits := 1 }

/-- The settings after a hard reset (R78). -/
def LineSettings.reset : LineSettings :=
  { mode := .fixed, period := 3840, format := LineFormat.reset, gap := 0, fallbackRate := 9600,
    pauseEnable := false, lineEndCode := 0x0D, pauseMs := 0, endCodeEnable := true,
    endCode := 0x0A, quiet := 4 }

/-- All counters 0 (R91). -/
def ErrorCounters.zero : ErrorCounters := { framing := 0, parity := 0, overruns := 0, breaks := 0 }

/-- The Serial Line Unit after a hard reset (R94), its receive line at MARK (log 8). -/
def Slu.reset : Slu :=
  { line := LineSettings.reset, tx := .free, staging := [], fetchOffset := 0, textRead := none,
    rx := .hunting, lineMark := true, receiveCount := 0, fifo := [], errors := ErrorCounters.zero,
    quietEnd := none }

/-- The Rate Finder after a hard reset (R95). -/
def RateFinder.reset : RateFinder :=
  { state := .fixed, attempts := 0, samples := [], interval := none, verifySeen := 0,
    verifyFraming := 0 }

/-- The last watch record after either reset (R118). -/
def LastWatch.reset : LastWatch := { pattern := 0xFF, sequence := 0, time := 0 }

/-- The matching state after a hard reset (R110, R123). -/
def PortMatch.reset : PortMatch :=
  { watch := 0, trigger := 0, await := none, tail := [], eligible := Vector.replicate 32 0,
    lastWatch := LastWatch.reset }

/-- The Capture Assembler at power-on (R145); area and mode, which no enable has given yet, as log 9 says. -/
def Capture.reset : Capture :=
  { areaAddress := 0, areaSize := 4096, mode := .off, writePosition := 0, readMark := 0,
    state := .normal, openData := none, openTx := none, txTaken := false, lossRuns := [],
    runGrows := false, events := [], agenda := [], inHand := none, gap := none, lastFetch := none,
    fetch := .idle, settled := false }

/-- The freeze after a hard reset (R147). -/
def Freeze.reset : Freeze := { state := .live, postCount := 0, remaining := 0, trigger := none }

/-- The scanner's items of a port after a hard reset (R156). -/
def PortSense.reset : PortSense :=
  { level := 0, presence := .unknown, runClass := .noRun, runCount := 0 }

/-- The status writer after a hard reset (R146, R176). -/
def StatusWriter.reset : StatusWriter :=
  { changed := false, lastWrite := none, request := none, finalIssued := false, noticeCount := 0,
    lastNotice := .noNotice }

/-- A port after a hard reset (R184). -/
def Port.reset : Port :=
  { queue := [], exc := Exc.idle, hold := Hold.clear, guard := 0, slu := Slu.reset,
    rf := RateFinder.reset, pm := PortMatch.reset, ca := Capture.reset, freeze := Freeze.reset,
    sense := PortSense.reset, status := StatusWriter.reset }

/-- The Host Memory Engine after a hard reset (R172, R173). -/
def Hme.reset : Hme :=
  { busMaster := false, message := false, outgoing := [], sent := [], reads := [], nextTag := 0,
    nextRead := 0, statusPointer := 0, markPointer := 0, textPointer := 0, capturePointer := 0,
    tsuTurn := true }

/-- The Task Sweep Unit at power-on (R24); the geometry, which no enable has given yet, as log 9 says. -/
def Tsu.reset : Tsu :=
  { geometry := { tableAddress := 0, slotCount := 0, portCount := 0, sweepPeriod := 0 },
    inFlight := [], sweep := none, pendingRequest := false, timer := none, completions := [],
    broadcasts := [], writes := [] }

/-- The scanner after a hard reset (R156, R166). -/
def Scanner.reset : Scanner :=
  { presentMv := 3000, absentMv := 2000, debounce := 3, interval := 10, scanPorts := 24,
    timer := none, sweep := none, firstDue := true }

/-- The Bus Port after a hard reset (R177, R184). -/
def BusPort.reset : BusPort :=
  { control := .off, anchorError := .noError, anchorLo := 0, anchorHi := 0, anchor := 0,
    enabling := none, settleHanded := false }

/-- The part right after a hard reset (R184). -/
def State.reset : State :=
  { pending := [], time := { ticks := 0, increments := 0 }, bus := BusPort.reset,
    attention := 0, attnEnable := 0, hme := Hme.reset, tsu := Tsu.reset,
    patterns := Vector.replicate 32 none, scanner := Scanner.reset,
    ports := Vector.replicate 24 Port.reset, freeCount := 0 }

end Sys2Proof.Machine
end

