-- ==== Sys2Proof/Machine/Flags.lean ====
section
/-! DEFINITION. Flag bits and codes of the layouts (R187 to R191): causes, slot flags, guard flags, record
flags, and the number of every named value. -/

namespace Sys2Proof.Machine

/-- The bit number of a cause in ATTENTION (R187). -/
def Cause.index : Cause → Nat
  | .task => 0 | .watch => 1 | .presence => 2 | .rate => 3 | .freeze => 4
  | .hold => 5 | .full => 6 | .fault => 7 | .anchor => 8 | .stopped => 9

/-- A cause as a bit of ATTENTION (R187). -/
def Cause.bit (c : Cause) : BitVec 10 := 1#10 <<< c.index

/-- The cause that a notice of a kind raises (R176); NONE raises nothing. -/
def NoticeKind.cause : NoticeKind → Option Cause
  | .noNotice => none
  | .watch => some .watch
  | .presenceUp | .presenceDown => some .presence
  | .rateLocked | .rateFailed => some .rate
  | .frozen => some .freeze
  | .holdLost => some .hold
  | .full => some .full

/-! ### Slot flags (R190) -/

def TaskFields.notify (f : TaskFields) : Bool := f.flags.getLsbD 0
def TaskFields.requirePresence (f : TaskFields) : Bool := f.flags.getLsbD 1
def TaskFields.logTx (f : TaskFields) : Bool := f.flags.getLsbD 2
def TaskFields.force (f : TaskFields) : Bool := f.flags.getLsbD 3

/-! ### Guard flags (R60, R189) -/

def Port.noBreak (v : Port) : Bool := v.guard.getLsbD 0
def Port.noLine (v : Port) : Bool := v.guard.getLsbD 1
def Port.noSend (v : Port) : Bool := v.guard.getLsbD 2

/-! ### Codes -/

def ControlState.code : ControlState → Nat
  | .off => 0 | .running => 1 | .draining => 2 | .stopped => 3

def AnchorError.code : AnchorError → Nat
  | .noError => 0 | .align => 1 | .readFault => 2 | .tag => 3 | .version => 4
  | .ports => 5 | .slots => 6 | .capture => 7

def NoticeKind.code : NoticeKind → Nat
  | .noNotice => 0 | .watch => 1 | .presenceUp => 2 | .presenceDown => 3 | .rateLocked => 4
  | .rateFailed => 5 | .frozen => 6 | .holdLost => 7 | .full => 8

def Presence.code : Presence → Nat
  | .unknown => 0 | .present => 1 | .absent => 2

def RateState.code : RateState → Nat
  | .fixed => 0 | .seeking => 1 | .verifying => 2 | .locked => 3 | .failed => 4

def ExchangeState.code : ExchangeState → Nat
  | .idle => 0 | .rateWait => 1 | .sending => 2 | .draining => 3 | .awaiting => 4
  | .pausing => 5 | .breaking => 6

def FreezeState.code : FreezeState → Nat
  | .live => 0 | .counting => 1 | .frozen => 2

def CaptureState.code : CaptureState → Nat
  | .normal => 0 | .full => 1 | .off => 2

def ResultCode.code : ResultCode → Nat
  | .ok => 0 | .noMatch => 1 | .cancelled => 2 | .held => 3 | .notHolder => 4 | .lineLost => 5
  | .badTask => 6 | .guarded => 7 | .memoryFault => 8 | .notFound => 9 | .partialResult => 10
  | .noRate => 11 | .drained => 12

def GapCause.code : GapCause → Nat
  | .overrun => 1 | .full => 2 | .frozen => 3 | .stopped => 4

def MarkKind.code : MarkKind → Nat
  | .presenceUp => 1 | .presenceDown => 2 | .rateLocked => 3 | .rateRejected => 4
  | .rateFailed => 5 | .settings => 6 | .breakRx => 7 | .frozen => 8 | .thawed => 9
  | .breakTx => 10 | .enabled => 11

/-- The task kind of a kind code, if known (R190). -/
def TaskKind.ofCode : Nat → Option TaskKind
  | 1 => some .send | 2 => some .exchange | 3 => some .brk | 4 => some .line | 5 => some .hold
  | 6 => some .release | 7 => some .watch | 8 => some .thaw | 9 => some .guard
  | 10 => some .broadcast | 16 => some .abort | 17 => some .pattern | 18 => some .sense
  | _ => none

/-- The element kind of a code, if known (R108). -/
def ElementKind.ofCode : Nat → Option ElementKind
  | 0 => some .exact | 1 => some .fold | 2 => some .any | 3 => some .digit | 4 => some .blank
  | _ => none

/-- The capture mode of a descriptor's byte; above 2 is OFF (R124). -/
def CaptureMode.ofCode : Nat → CaptureMode
  | 0 => .history | 1 => .keep | _ => .off

/-- A flag as its bit of a byte. -/
def flagBit (on : Bool) (bit : Nat) : Byte := if on then 1#8 <<< bit else 0

/-- The closing flag of a DATA record (R134, R191). -/
def CloseCause.flag : CloseCause → Byte
  | .endCode => flagBit true 4
  | .quiet => flagBit true 5
  | .fullLength => flagBit true 6
  | .event => flagBit true 7

/-- The flags of a DATA record's header (R133, R191). -/
def DataRecord.flags (r : DataRecord) (cause : CloseCause) : Byte :=
  flagBit r.framing 0 ||| flagBit r.parity 1 ||| flagBit r.matched 2 ||| flagBit r.multiMatch 3
    ||| cause.flag

end Sys2Proof.Machine
end

