-- ==== Sys2Proof/Machine/Timing.lean ====
section
/-! DEFINITION. Line timing arithmetic (chapter 4): the deadline rule, rates and periods, characters,
pacing, response and quiet times, and the framing of a character (R81). -/

namespace Sys2Proof.Machine

/-! ### The deadline rule -/

/-- The timer has reached its T-th increment when `increments` part-time increments have been taken
since the hard reset (R66). -/
def Timer.dueAt (t : Timer) (increments : Nat) : Bool := t.armedAt + t.span ≤ increments

/-- The real wait of a timer, in reference ticks (R66). -/
def Timer.realWait (t : Timer) : Nat := t.span * Config.ticksPerMs - t.phase

/-- The part time at which a timer expires (R66). -/
def Timer.expiryTime (t : Timer) : Word := BitVec.ofNat 32 (t.armedAt + t.span)

/-! ### Rates and periods -/

/-- A requested rate, clamped (R68). -/
def clampRate (rate : Nat) : Nat := max 600 (min rate 1152000)

/-- The period of a requested rate: clamped, then rounded to the nearest tick, a half up (R68, R69). -/
def periodOfRate (rate : Nat) : Nat :=
  (Config.referenceHz + clampRate rate / 2) / clampRate rate

/-- The achieved rate of a period, rounded to the nearest rate, a half up (R70). -/
def achievedRate (period : Nat) : Nat := (Config.referenceHz + period / 2) / period

/-! ### Characters -/

/-- The number of parity bits of a format (R71). -/
def Parity.bits : Parity → Nat
  | .noParity => 0
  | .even | .odd => 1

/-- The number of bits of a character, b (R71). -/
def LineFormat.charBits (f : LineFormat) : Nat := 1 + f.dataBits + f.parity.bits + f.stopBits

/-- The character time c of a period and format, in ticks (R71). -/
def charTicks (period : Nat) (f : LineFormat) : Nat := period * f.charBits

/-- The data bits of a byte as a port's format sends them, least significant first (R71, R81). -/
def LineFormat.dataOf (f : LineFormat) (b : Byte) : List Bool :=
  (List.range f.dataBits).map fun i => b.getLsbD i

/-- Whether a list holds an odd number of trues. -/
def oddOnes (bits : List Bool) : Bool := bits.foldl xor false

/-- The parity bit over data bits: even parity makes the number of MARK bits even, odd parity odd (R81). -/
def Parity.bitFor : Parity → List Bool → List Bool
  | .noParity, _ => []
  | .even, data => [oddOnes data]
  | .odd, data => [!oddOnes data]

/-- The bits of a character in line order, true for MARK (R71, R81): start bit, data, parity, stop bits. -/
def LineFormat.frame (f : LineFormat) (b : Byte) : List Bool :=
  false :: (f.dataOf b ++ f.parity.bitFor (f.dataOf b) ++ List.replicate f.stopBits true)

/-- The tick at which a character's last stop bit ends (R74). -/
def TxCharacter.endTick (c : TxCharacter) : Nat := c.startTick + c.period * c.bits.length

/-- The level of the transmit line at a tick of a character: true is MARK (R81). -/
def TxCharacter.level (c : TxCharacter) (tick : Nat) : Bool :=
  (c.bits[(tick - c.startTick) / c.period]?).getD true

/-- The level of the transmit line at a tick: SPACE in BREAK_SPACE, the bits of a character, MARK
otherwise (R81). -/
def Transmitter.level (t : Transmitter) (tick : Nat) : Bool :=
  match t with
  | .character c => c.level tick
  | .breakSpace => false
  | .free | .gap _ _ | .pause _ | .breakGuard _ => true

/-! ### Pacing, response and quiet times -/

/-- The pacing gap in ticks (R72). -/
def LineSettings.gapTicks (l : LineSettings) : Nat := l.gap * l.period

/-- The line-end pause in ticks (R73). -/
def LineSettings.pauseTicks (l : LineSettings) : Nat := l.pauseMs * Config.ticksPerMs

/-- The character time of a port's settings (R71). -/
def LineSettings.charTime (l : LineSettings) : Nat := charTicks l.period l.format

/-- The guard time after a break in ticks (R75). -/
def LineSettings.guardTicks (l : LineSettings) : Nat := 2 * l.charTime

/-- The quiet time in ticks (R77). -/
def LineSettings.quietTicks (l : LineSettings) : Nat := l.quiet * l.charTime

/-- The default response time in ms: 200 characters, rounded up, from 50 to 65535 (R76). -/
def LineSettings.defaultResponse (l : LineSettings) : Nat :=
  min 65535 (max 50 ((200 * l.charTime + (Config.ticksPerMs - 1)) / Config.ticksPerMs))

/-- The response deadline's T (R33): the field, or the default where it is 0. -/
def LineSettings.responseMs (l : LineSettings) (field : Nat) : Nat :=
  if field = 0 then l.defaultResponse else field

/-- The rate-wait limit's T (R29). -/
def rateWaitMs (field : Nat) : Nat := if field = 0 then 10000 else field

/-- The break duration D from parameter A, in ms (R40). -/
def breakMs (paramA : Word) : Nat := if paramA = 0 then 250 else min paramA.toNat 5000

/-- The idle seconds S from parameter A of a HOLD (R53). -/
def holdSeconds (paramA : Word) : Nat := if paramA = 0 then 300 else min paramA.toNat 3600

/-! ### Reception -/

/-- The tick at which the start bit of a character being received is sampled (R85). -/
def RxCharacter.startSample (c : RxCharacter) : Nat := c.edgeTick + c.period / 2

/-- The tick of the last stop sample, the character's completion (R85). -/
def RxCharacter.lastSample (c : RxCharacter) : Nat :=
  c.edgeTick + c.period * (c.format.charBits - 1) + c.period / 2

/-- The tick of the 2c limit of a zero character (R86). -/
def RxCharacter.zeroLimit (c : RxCharacter) : Nat := c.edgeTick + 2 * charTicks c.period c.format

/-- The byte of the data samples; with 7 data bits its most significant bit is 0 (R85). -/
def LineFormat.byteOf (f : LineFormat) (data : Byte) : Byte :=
  if f.dataBits = 7 then data &&& 0x7F else data

/-- A framing error: any stop sample of the format is SPACE (R85). -/
def LineFormat.framingError (f : LineFormat) (r : RxSamples) : Bool :=
  !r.stop1 || (f.stopBits = 2 && !r.stop2)

/-- A parity error: the format has parity and the sample disagrees with the data (R81, R85). -/
def LineFormat.parityError (f : LineFormat) (r : RxSamples) : Bool :=
  match f.parity.bitFor (f.dataOf r.data) with
  | [] => false
  | bit :: _ => bit != r.parity

/-- The data and parity samples are all SPACE (R85). -/
def LineFormat.allSpace (f : LineFormat) (r : RxSamples) : Bool :=
  f.byteOf r.data = 0 && (f.parity.bits = 0 || !r.parity)

/-- The level of the line at the last stop sample (R85). -/
def LineFormat.endsAtMark (f : LineFormat) (r : RxSamples) : Bool :=
  if f.stopBits = 2 then r.stop2 else r.stop1

/-- The samples of a zero character's data and parity (R86). -/
def zeroSamples : RxSamples := { data := 0, parity := false, stop1 := false, stop2 := false }

end Sys2Proof.Machine
end

