-- ==== Sys2Proof/Machine/Operands.lean ====
section
/-! DEFINITION. The structures of the processor's memory (R186 to R191): little-endian fields, what a slot,
an anchor header, a descriptor, a pattern text and the packed parameters of LINE and SENSE say, and the
bytes of results, status records and capture records. -/

namespace Sys2Proof.Machine

/-! ### Bytes -/

/-- A number as `n` little-endian bytes (R186). -/
def leBytes : Nat → Nat → List Byte
  | 0, _ => []
  | n + 1, v => BitVec.ofNat 8 v :: leBytes n (v / 256)

/-- The number of little-endian bytes (R186). -/
def leNat : List Byte → Nat
  | [] => 0
  | b :: bs => b.toNat + 256 * leNat bs

/-- The number in the `size` bytes at `offset` of a structure (R186). -/
def field (bytes : List Byte) (offset size : Nat) : Nat := leNat ((bytes.drop offset).take size)

/-- The byte `n` of a word. -/
def byteAt (w : Word) (n : Nat) : Byte := (w >>> (8 * n)).setWidth 8

/-- An address a number of bytes further on. -/
def addrPlus (a : Addr) (n : Nat) : Addr := a + BitVec.ofNat 64 n

/-! ### Task slots (R190) -/

/-- The fields of a whole slot (R8, R190). The originator is the low 4 bits of its byte (R11). -/
def TaskSlot.parse (b : List Byte) : TaskSlot :=
  { stateByte := BitVec.ofNat 8 (field b 0 1)
    kindCode := field b 1 1
    port := field b 2 1
    fields :=
      { originator := BitVec.ofNat 4 (field b 3 1)
        orderKey := field b 4 2
        flags := BitVec.ofNat 16 (field b 6 2)
        textAddress := BitVec.ofNat 64 (field b 8 8)
        textLength := field b 16 2
        patternId := field b 18 1
        retries := field b 19 1
        responseTime := field b 20 2
        retryPause := field b 22 2
        paramA := BitVec.ofNat 32 (field b 24 4)
        paramB := BitVec.ofNat 32 (field b 28 4)
        paramC := BitVec.ofNat 32 (field b 32 4)
        paramD := BitVec.ofNat 32 (field b 36 4) } }

/-- The state byte POSTED (R2, R190). Any byte but 1, 2 and 3 reads as FREE. -/
def isPosted (b : Byte) : Bool := b = 1

/-- The address of a slot (R1). -/
def Geometry.slotAddress (g : Geometry) (slot : Nat) : Addr := addrPlus g.tableAddress (64 * slot)

/-- Bytes 40 to 63 of a slot, the result fields (R23, R190). -/
def Completion.resultBytes (c : Completion) : List Byte :=
  leBytes 1 c.code.code ++ leBytes 1 c.attempts ++ leBytes 2 c.bytesSent
    ++ leBytes 4 c.matchSequence.toNat ++ leBytes 4 c.startTime.toNat ++ leBytes 4 c.endTime.toNat
    ++ leBytes 4 c.outcomeA.toNat ++ leBytes 4 c.outcomeB.toNat

/-- The two writes that complete a slot, in order (R23). -/
def Completion.writes (g : Geometry) (c : Completion) : List SlotWrite :=
  [ { address := addrPlus (g.slotAddress c.slot) 40, bytes := c.resultBytes, raisesTask := false },
    { address := g.slotAddress c.slot, bytes := [3], raisesTask := c.notify } ]

/-- The write of TAKEN at an admission (R13). -/
def takenWrite (g : Geometry) (slot : Nat) : SlotWrite :=
  { address := g.slotAddress slot, bytes := [2], raisesTask := false }

/-! ### Pattern text (R15, R190) -/

/-- The elements of a pattern text, or none where an element kind is above 4 (R15). -/
def parseElements : List Byte → Option (List Element)
  | kind :: value :: rest =>
    match ElementKind.ofCode kind.toNat, parseElements rest with
    | some k, some es => some ({ kind := k, value := value } :: es)
    | _, _ => none
  | _ => some []

/-! ### The anchor block (R188) -/

/-- The anchor header (R188). -/
def AnchorHeader.parse (b : List Byte) : AnchorHeader :=
  { tag := BitVec.ofNat 32 (field b 0 4)
    version := field b 4 2
    portCount := field b 6 1
    slotCount := field b 8 2
    sweepPeriod := field b 10 2
    tableAddress := BitVec.ofNat 64 (field b 16 8) }

/-- An address is a multiple of `n`. -/
def addrAligned (a : Addr) (n : Nat) : Bool := a.toNat % n = 0

/-- The header checks 3 to 7 of an enable, in order: the first that fails (R178). -/
def AnchorHeader.check (h : AnchorHeader) : Option AnchorError :=
  if h.tag ≠ 0x57430001 then some .tag
  else if h.version ≠ 1 then some .version
  else if ¬(1 ≤ h.portCount ∧ h.portCount ≤ 24) then some .ports
  else if ¬(16 ≤ h.slotCount ∧ h.slotCount ≤ 128 ∧ h.slotCount % 16 = 0) then some .slots
  else if ¬ addrAligned h.tableAddress 4096 then some .align
  else none

/-- The geometry that the TSU latches from a header (R1). -/
def AnchorHeader.geometry (h : AnchorHeader) : Geometry :=
  { tableAddress := h.tableAddress, slotCount := h.slotCount, portCount := h.portCount,
    sweepPeriod := min h.sweepPeriod 1000 }

/-- A port descriptor: area address, size code and mode byte (R188). -/
structure Descriptor where
  areaAddress : Addr
  sizeCode    : Nat
  modeCode    : Nat
deriving DecidableEq, Repr

/-- The descriptor of a port in the descriptors read (R178, R188). -/
def Descriptor.parse (b : List Byte) (port : Nat) : Descriptor :=
  { areaAddress := BitVec.ofNat 64 (field b (16 * port) 8)
    sizeCode := field b (16 * port + 8) 1
    modeCode := field b (16 * port + 9) 1 }

/-- Check 9 of an enable for one port (R178). -/
def Descriptor.ok (d : Descriptor) : Bool :=
  12 ≤ d.sizeCode && d.sizeCode ≤ 20 && addrAligned d.areaAddress (2 ^ d.sizeCode)

/-- The address of a port's read mark (R188). -/
def readMarkAddress (anchor : Addr) (p : PortId) : Addr := addrPlus anchor (448 + 8 * p.val)

/-- The address of a port's status record (R188). -/
def statusAddress (anchor : Addr) (p : PortId) : Addr := addrPlus anchor (1024 + 64 * p.val)

/-! ### Packed parameters -/

/-- The format of a LINE's parameter C (R79, R190). -/
def lineFormatOf (paramC : Word) : LineFormat :=
  { dataBits := if byteAt paramC 0 = 7 then 7 else 8
    parity := if byteAt paramC 1 = 1 then .even else if byteAt paramC 1 = 2 then .odd else .noParity
    stopBits := if byteAt paramC 2 = 2 then 2 else 1 }

/-- The settings that a LINE task puts in effect (R79, R190): AUTO keeps the period. -/
def LineSettings.ofTask (old : LineSettings) (f : TaskFields) : LineSettings :=
  { mode := if f.paramA = 0 then .auto else .fixed
    period := if f.paramA = 0 then old.period else periodOfRate f.paramA.toNat
    format := lineFormatOf f.paramC
    gap := (byteAt f.paramC 3).toNat
    fallbackRate := f.paramB.toNat % 2 ^ 24
    pauseEnable := f.paramB.getLsbD 24
    lineEndCode := byteAt f.paramD 0
    pauseMs := min 1000 (4 * (byteAt f.paramD 3).toNat)
    endCodeEnable := f.paramB.getLsbD 25
    endCode := byteAt f.paramD 1
    quiet := if byteAt f.paramD 2 = 0 then 4 else (byteAt f.paramD 2).toNat }

/-- A SENSE parameter: its default for 0, then clamped (R16). -/
def senseSetting (param : Word) (default low high : Nat) : Nat :=
  max low (min (if param = 0 then default else param.toNat) high)

/-- The four sense settings of a SENSE task: Tp, Ta, K, I, in that order (R16). -/
def senseSettings (f : TaskFields) : Nat × Nat × Nat × Nat :=
  let present := senseSetting f.paramA 3000 1000 12000
  (present, senseSetting f.paramB 2000 500 (present - 200), senseSetting f.paramC 3 1 15,
    senseSetting f.paramD 10 1 255)

/-- The member ports of a BROADCAST: the bits of parameter A below the port count (R14). -/
def memberPorts (f : TaskFields) (portCount : Nat) : List PortId :=
  (List.finRange 24).filter fun p => f.paramA.getLsbD p.val && p.val < portCount

/-! ### Status record (R189) -/

/-- The published fields of a port (R146). -/
structure StatusFields where
  writePosition : Word
  noticeCount   : BitVec 16
  lastNotice    : NoticeKind
  presence      : Presence
  rateState     : RateState
  exchange      : ExchangeState
  period        : Nat
  queueDepth    : Nat
  holdOwner     : Option (BitVec 4)
  freeze        : FreezeState
  guard         : BitVec 3
  capture       : CaptureState
  lastWatch     : LastWatch
  level         : Int
  receiveCount  : Word
  errors        : ErrorCounters
  pendingGap    : Nat
deriving DecidableEq, Repr

/-- The published fields as they stand. The achieved rate follows from the period (R70). -/
def Port.published (v : Port) : StatusFields :=
  { writePosition := v.ca.writePosition
    noticeCount := v.status.noticeCount
    lastNotice := v.status.lastNotice
    presence := v.sense.presence
    rateState := v.rf.state
    exchange := v.exc.state
    period := v.slu.line.period
    queueDepth := v.queue.length
    holdOwner := v.hold.owner
    freeze := v.freeze.state
    guard := v.guard
    capture := v.ca.state
    lastWatch := v.pm.lastWatch
    level := v.sense.level
    receiveCount := v.slu.receiveCount
    errors := v.slu.errors
    pendingGap := match v.ca.gap with | none => 0 | some g => g.count }

/-- The 64 bytes of a status record (R189). -/
def StatusFields.bytes (f : StatusFields) : List Byte :=
  leBytes 4 f.writePosition.toNat ++ leBytes 2 f.noticeCount.toNat ++ leBytes 1 f.lastNotice.code
    ++ leBytes 1 f.presence.code ++ leBytes 1 f.rateState.code ++ leBytes 1 f.exchange.code
    ++ leBytes 2 f.period ++ leBytes 4 (achievedRate f.period) ++ leBytes 1 f.queueDepth
    ++ leBytes 1 (match f.holdOwner with | none => 255 | some o => o.toNat)
    ++ leBytes 1 f.freeze.code ++ leBytes 1 f.guard.toNat ++ leBytes 1 f.capture.code
    ++ leBytes 1 f.lastWatch.pattern.toNat ++ leBytes 2 (BitVec.ofInt 16 f.level).toNat
    ++ leBytes 4 f.receiveCount.toNat ++ leBytes 4 f.lastWatch.sequence.toNat
    ++ leBytes 4 f.lastWatch.time.toNat ++ leBytes 2 f.errors.framing ++ leBytes 2 f.errors.parity
    ++ leBytes 2 f.errors.overruns ++ leBytes 2 f.errors.breaks ++ leBytes 4 f.pendingGap
    ++ leBytes 16 0

/-! ### Capture records (R126, R191) -/

/-- A data length rounded up to a multiple of 16 (R126). -/
def roundUp16 (n : Nat) : Nat := (n + 15) / 16 * 16

/-- The 16 bytes of a capture record's header (R191). -/
def recordHeader (type length : Nat) (flags tag : Byte) (time sequence : Word) (aux : Nat) :
    List Byte :=
  leBytes 1 type ++ leBytes 1 length ++ [flags, tag] ++ leBytes 4 time.toNat
    ++ leBytes 4 sequence.toNat ++ leBytes 4 aux

/-- Data bytes followed by zero bytes up to the rounded size (R126). -/
def padded (bytes : List Byte) : List Byte :=
  bytes ++ List.replicate (roundUp16 bytes.length - bytes.length) 0

/-- The bytes written for a DATA, TX or MARK record (R126). -/
def CaptureRecord.bytes : CaptureRecord → List Byte
  | .data r cause =>
    recordHeader 1 r.bytes.length (r.flags cause) r.tag r.time r.sequence r.errors ++ padded r.bytes
  | .tx r sequence =>
    recordHeader 2 r.bytes.length 0 0 r.time sequence r.slot ++ padded r.bytes
  | .mark kind value time sequence =>
    recordHeader 4 0 0 (BitVec.ofNat 8 kind.code) time sequence value.toNat

/-- The size of a DATA, TX or MARK record (R126). -/
def CaptureRecord.size : CaptureRecord → Nat
  | .data r _ => 16 + roundUp16 r.bytes.length
  | .tx r _ => 16 + roundUp16 r.bytes.length
  | .mark _ _ _ _ => 16

/-- How far W advances over a record of a unit; a PAD fills the space it was given (R127). -/
def UnitRecord.size : UnitRecord → Nat
  | .pad size => size
  | .gap _ => 16
  | .record r => r.size

/-- The bytes written for a record of a unit, a PAD as its header alone, with the part time and the receive
count at the issue (R126). -/
def UnitRecord.bytes (r : UnitRecord) (now receiveCount : Word) : List Byte :=
  match r with
  | .pad size => recordHeader 5 (size - 16) 0 0 now receiveCount 0
  | .gap g => recordHeader 3 0 0 (BitVec.ofNat 8 g.cause.code) g.time g.sequence g.count
  | .record r => r.bytes

/-- A unit's records at a write position, a PAD put before each that would cross the area's end (R127). -/
def placeRecords (areaSize : Nat) : Nat → List UnitRecord → List UnitRecord
  | _, [] => []
  | w, r :: rs =>
    let space := areaSize - w % areaSize
    if r.size ≤ space then r :: placeRecords areaSize (w + r.size) rs
    else .pad space :: r :: placeRecords areaSize (w + space + r.size) rs

/-- The advance of a unit, PADs included (R131, R140). -/
def WriteUnit.advance (u : WriteUnit) : Nat := (u.records.map UnitRecord.size).sum

end Sys2Proof.Machine
end

