-- ==== Sys2Proof/Machine/Ops.lean ====
section
/-! DEFINITION. The named operations that every block shares: time and timers, reading and changing a
port, raising causes and sending messages, recording notices, putting requests on the link, discarding
reads, and handing completions. -/

namespace Sys2Proof.Machine

/-! ### Time -/

/-- Part time: the increments since the hard reset, modulo 2^32 (R64). -/
def State.partTime (s : State) : Word := BitVec.ofNat 32 s.time.increments

/-- The tick at which the next part-time increment falls (R64). -/
def State.nextIncrement (s : State) : Nat := (s.time.increments + 1) * Config.ticksPerMs

/-- The tick phase (R64). An event that falls on the next increment's tick and is taken before the
increment sees phase 36,863 (R66). -/
def State.phase (s : State) : Nat :=
  min (s.time.ticks - s.time.increments * Config.ticksPerMs) (Config.ticksPerMs - 1)

/-- A timer armed now with T ms (R66). -/
def State.arm (s : State) (span : Nat) : Timer :=
  { armedAt := s.time.increments, phase := s.phase, span := span }

/-- A timer that may be disarmed has expired (R66). -/
def State.expired (s : State) (t : Option Timer) : Bool :=
  match t with
  | none => false
  | some t => t.dueAt s.time.increments

/-- The part-time increments taken since an instant, up to 2^32 - 1 (R67). -/
def State.measured (s : State) (since : Nat) : Word :=
  BitVec.ofNat 32 (min (s.time.increments - since) Config.countMax)

/-- The clock has gone on to tick `tick`; it never goes back. -/
def State.reachTick (s : State) (tick : Nat) : State :=
  { s with time := { s.time with ticks := max s.time.ticks tick } }

/-- An interval that ends at `tick` ends within the current part-time value (log 4). -/
def State.endsNow (s : State) (tick : Nat) : Bool := tick ≤ s.nextIncrement

/-- The clock has gone on to a phase of the current part-time value (log 6). -/
def State.reachPhase (s : State) (phase : Nat) : State :=
  s.reachTick (s.time.increments * Config.ticksPerMs + min phase Config.ticksPerMs)

/-- A part-time increment: the phase returns to 0 and part time increases by one (R64). -/
def State.increment (s : State) : State :=
  { s with time := { ticks := s.nextIncrement, increments := s.time.increments + 1 } }

/-! ### Ports -/

/-- The state of a port. -/
def State.port (s : State) (p : PortId) : Port := s.ports[p]

/-- The part with one port's state replaced. -/
def State.setPort (s : State) (p : PortId) (v : Port) : State :=
  { s with ports := s.ports.set p v }

/-- The port after a change, its changed flag set where a published field has changed (R146). -/
def Port.noting (old new : Port) : Port :=
  if new.published = old.published then new
  else { new with status := { new.status with changed := true } }

/-- A change of one port, noted for the status writer (R146). -/
def State.modPort (s : State) (p : PortId) (f : Port → Port) : State :=
  s.setPort p ((s.port p).noting (f (s.port p)))

/-- A change of every port, noted for the status writer (R146). -/
def State.modPorts (s : State) (f : PortId → Port → Port) : State :=
  { s with ports := Vector.ofFn fun p => (s.port p).noting (f p (s.port p)) }

/-- An operation made on every port in rising order. -/
def State.forPorts (s : State) (f : PortId → State → State) : State :=
  (List.finRange 24).foldl (fun s p => f p s) s

/-- The port is in use: below the port count latched at the last successful enable (R180). -/
def State.inUse (s : State) (p : PortId) : Bool := p.val < s.tsu.geometry.portCount

/-- The receiver's bytes count and reach the other blocks: not in OFF, not on an unused port (R92, R180). -/
def State.listening (s : State) (p : PortId) : Bool := s.bus.control ≠ .off && s.inUse p

/-- The control state is one in which tasks run (R181). -/
def State.active (s : State) : Bool := s.bus.control = .running || s.bus.control = .draining

/-! ### The link and its messages -/

/-- Messages at the front of the grant order leave with no event of their own (log 13). -/
def flushMessages : List LinkItem → List LinkItem → List LinkItem × List LinkItem
  | .message :: rest, sent => flushMessages rest (.message :: sent)
  | rest, sent => (rest, sent)

/-- The HME with the messages at the front of its grant order gone onto the link; while bus mastering is
disabled nothing goes (R173). -/
def Hme.flush (h : Hme) : Hme :=
  if h.busMaster then
    { h with
      outgoing := (flushMessages h.outgoing h.sent).1
      sent := (flushMessages h.outgoing h.sent).2 }
  else h

/-- The number of pieces in the write queue (R169). -/
def Hme.queuedWrites (h : Hme) : Nat :=
  (h.outgoing.filter fun i => match i with | .write _ => true | _ => false).length

/-- An interrupt message takes its place behind everything granted before it; while messages or bus
mastering are disabled it is not sent and not held (R175). -/
def State.sendMessage (s : State) : State :=
  if s.hme.busMaster && s.hme.message then
    { s with hme := Hme.flush { s.hme with outgoing := s.hme.outgoing ++ [LinkItem.message] } }
  else s

/-- The live set: the causes both pending and enabled (R175). -/
def State.liveSet (s : State) : BitVec 10 := s.attention &&& s.attnEnable

/-- Causes raised at one event: they become pending, and a message is sent if the live set goes from empty
to non-empty (R174, R175). -/
def State.raiseBits (s : State) (bits : BitVec 10) : State :=
  let raised := { s with attention := s.attention ||| bits }
  if s.liveSet = 0 && raised.liveSet ≠ 0 then raised.sendMessage else raised

/-- One cause raised (R174). -/
def State.raise (s : State) (c : Cause) : State := s.raiseBits c.bit

/-- A notice recorded: the count goes up modulo 65536, the last kind is set, the cause is raised (R176). -/
def State.notice (s : State) (p : PortId) (kind : NoticeKind) : State :=
  let noted := s.modPort p fun v =>
    { v with status := { v.status with noticeCount := v.status.noticeCount + 1, lastNotice := kind } }
  match kind.cause with
  | none => noted
  | some c => noted.raise c

/-! ### Requests -/

/-- The pieces of a request, cut at multiples of 1024 and at 512 bytes (R168); `fuel` bounds their number. -/
def cutPieces : Nat → Addr → Nat → List (Addr × Nat)
  | 0, _, _ => []
  | fuel + 1, a, len =>
    if len = 0 then [] else
      let n := min len (min (1024 - a.toNat % 1024) 512)
      (a, n) :: cutPieces fuel (addrPlus a n) (len - n)

/-- The pieces of a request (R168). A request is at most 512 bytes long, so at most three. -/
def piecesOf (a : Addr) (len : Nat) : List (Addr × Nat) := cutPieces 4 a len

/-- The write pieces of a write; the cause of a DONE goes with its last piece. -/
def writePieces : Addr → List Byte → Bool → List (Addr × Nat) → List LinkItem
  | _, _, _, [] => []
  | base, bytes, task, (a, n) :: rest =>
    .write { address := a, bytes := bytes.take n, raisesTask := task && rest.isEmpty }
      :: writePieces base (bytes.drop n) task rest

/-- A write can be granted: the write queue has room for its pieces (R168). -/
def State.writeFits (s : State) (a : Addr) (len : Nat) : Bool :=
  s.hme.queuedWrites + (piecesOf a len).length ≤ Config.writeQueueCapacity

/-- A read can be granted: the read table has entries for its pieces (R168). -/
def State.readFits (s : State) (a : Addr) (len : Nat) : Bool :=
  s.hme.reads.length + (piecesOf a len).length ≤ Config.readTableCapacity

/-- A granted write joins the back of the write queue (R169). -/
def State.grantWrite (s : State) (a : Addr) (bytes : List Byte) (task : Bool) : State :=
  { s with hme :=
    { s.hme with outgoing := s.hme.outgoing ++ writePieces a bytes task (piecesOf a bytes.length) } }

/-- The table entries of a read's pieces, named from `tag` on (R170). -/
def readEntries (requester : Requester) (read : Nat) : Nat → List (Addr × Nat) → List ReadEntry
  | _, [] => []
  | tag, (a, n) :: rest =>
    { tag := tag, read := read, requester := requester, address := a, length := n, left := false,
      timer := none, discarded := false, data := none } :: readEntries requester read (tag + 1) rest

/-- A granted read takes an entry for each piece and a place in the grant order; the read's number is
`nextRead` (R170, log 11). -/
def State.grantRead (s : State) (requester : Requester) (a : Addr) (len : Nat) : State :=
  let entries := readEntries requester s.hme.nextRead s.hme.nextTag (piecesOf a len)
  { s with hme :=
    { s.hme with
      outgoing := s.hme.outgoing ++ entries.map fun e => .read e.tag e.address e.length
      reads := s.hme.reads ++ entries
      nextTag := s.hme.nextTag + entries.length
      nextRead := s.hme.nextRead + 1 } }

/-- The read table with a read discarded: its pieces are marked, and those already answered are freed at once (R170).
That the entries of a discarded read are freed one by one is the model's choice (DESIGN CHOICE, log 44). -/
def discardEntries (read : Nat) (reads : List ReadEntry) : List ReadEntry :=
  (reads.filter fun e => !(e.read = read && e.data.isSome)).map fun e =>
    if e.read = read then { e with discarded := true } else e

/-- A read discarded by its requester, if there is one (R170). -/
def State.discardRead (s : State) (read : Option Nat) : State :=
  match read with
  | none => s
  | some r => { s with hme := { s.hme with reads := discardEntries r s.hme.reads } }

/-! ### Completions -/

/-- A completion is handed to the TSU's completion store (R22). -/
def State.handCompletion (s : State) (c : Completion) : State :=
  { s with tsu := { s.tsu with completions := s.tsu.completions ++ [c] } }

/-- A completion of a task that never had work begun: its times are the present (R12, R18, R49). -/
def State.unbegun (s : State) (slot : Nat) (notify : Bool) (code : ResultCode) : Completion :=
  { slot := slot, notify := notify, code := code, attempts := 0, bytesSent := 0, matchSequence := 0,
    startTime := s.partTime, endTime := s.partTime, outcomeA := 0, outcomeB := 0 }

/-! ### Free values -/

/-- The level of a receive line inside an abandoned character: a free value (log 7). -/
def State.freeLevel (s : State) (p : PortId) : Bool := Config.lineLevel p.val s.freeCount

/-- The counter of free values moves on. -/
def State.drawn (s : State) : State := { s with freeCount := s.freeCount + 1 }

end Sys2Proof.Machine
end

