-- ==== Sys2Proof/Machine/Match.lean ====
section
/-! DEFINITION. The Pattern Matcher (chapter 7): elements, progress, arming, the taking of a byte, watch
notices, match notes and triggers, and the resets of progress. -/

namespace Sys2Proof.Machine

/-- An ASCII capital letter. -/
def isUpper (b : Byte) : Bool := 0x41 ≤ b.toNat && b.toNat ≤ 0x5A

/-- An ASCII small letter. -/
def isLower (b : Byte) : Bool := 0x61 ≤ b.toNat && b.toNat ≤ 0x7A

/-- Whether an element matches a byte (R108). -/
def Element.matchesByte (e : Element) (b : Byte) : Bool :=
  match e.kind with
  | .exact => b = e.value
  | .fold =>
    b = e.value || (isUpper e.value && b = e.value + 0x20) || (isLower e.value && b = e.value - 0x20)
  | .any => true
  | .digit => 0x30 ≤ b.toNat && b.toNat ≤ 0x39
  | .blank => b = 0x20 || b = 0x09

/-- Bytes matched element by element by the first elements of a pattern (R114). -/
def matchesPrefix : List Element → List Byte → Bool
  | _, [] => true
  | [], _ :: _ => false
  | e :: es, b :: bs => e.matchesByte b && matchesPrefix es bs

/-- The last `k` bytes of the tail window, oldest first (R114). -/
def lastBytes (tail : List Byte) (k : Nat) : List Byte := tail.drop (tail.length - k)

/-- `k` satisfies the three conditions of progress (R114). -/
def progressAt (pattern : List Element) (eligible : Nat) (tail : List Byte) (k : Nat) : Bool :=
  k ≤ eligible && k ≤ pattern.length && k ≤ tail.length && matchesPrefix pattern (lastBytes tail k)

/-- The largest number below `n + 1` that satisfies a condition, or 0. -/
def largestUpTo (ok : Nat → Bool) : Nat → Nat
  | 0 => 0
  | n + 1 => if ok (n + 1) then n + 1 else largestUpTo ok n

/-- The progress of an armed pattern (R114). -/
def progress (pattern : List Element) (eligible : Nat) (tail : List Byte) : Nat :=
  largestUpTo (progressAt pattern eligible tail) pattern.length

/-- The pattern completes a match at the byte just taken (R114); an undefined entry never does. -/
def completes (entry : Option (List Element)) (eligible : Nat) (tail : List Byte) : Bool :=
  match entry with
  | none => false
  | some [] => false
  | some p => progress p eligible tail = p.length

/-- A pattern is armed on the port: watched, awaited, or both (R110). -/
def PortMatch.armed (m : PortMatch) (i : PatternId) : Bool :=
  m.watch.getLsbD i.val || m.await = some i

/-- The port's matching with new eligible counts. -/
def PortMatch.withEligible (m : PortMatch) (f : PatternId → Nat) : PortMatch :=
  { m with eligible := Vector.ofFn f }

/-- All progress on the port is reset (R116). -/
def PortMatch.resetProgress (m : PortMatch) : PortMatch :=
  { m with tail := [], eligible := Vector.replicate 32 0 }

/-- A pattern's progress on the port is reset, where it is armed (R109). -/
def PortMatch.resetOne (m : PortMatch) (i : PatternId) : PortMatch :=
  m.withEligible fun j => if j = i then 0 else m.eligible[j]

/-- The await is armed with zero progress, a shared watch losing its own (R113). -/
def PortMatch.armAwait (m : PortMatch) (i : PatternId) : PortMatch :=
  { m.resetOne i with await := some i }

/-- The await is disarmed; a pattern outside the watch set loses its count (R113). -/
def PortMatch.disarmAwait (m : PortMatch) : PortMatch :=
  match m.await with
  | none => m
  | some i =>
    if m.watch.getLsbD i.val then { m with await := none }
    else { m.resetOne i with await := none }

/-- A WATCH sets the watch set and the trigger set: patterns in both watch sets keep their counts, the others
start from 0 or are disarmed (R43, R112). -/
def PortMatch.setWatch (m : PortMatch) (watch trigger : BitVec 32) : PortMatch :=
  { m.withEligible fun i =>
      if (watch.getLsbD i.val && m.watch.getLsbD i.val) || m.await = some i then m.eligible[i] else 0
    with
      watch := watch
      trigger := trigger &&& watch }

/-- The tail window with a byte taken: its last 24 bytes (R111). -/
def pushTail (tail : List Byte) (b : Byte) : List Byte := lastBytes (tail ++ [b]) 24

/-- The eligible counts with a byte taken: each armed pattern's goes up by one, to at most 24 (R111). -/
def PortMatch.counted (m : PortMatch) (i : PatternId) : Nat :=
  if m.armed i then min 24 (m.eligible[i] + 1) else 0

/-- The armed patterns that complete a match at a byte, in rising order (R114, R115). -/
def PortMatch.completedBy (m : PortMatch) (table : Vector (Option (List Element)) 32) (b : Byte) :
    List PatternId :=
  (List.finRange 32).filter fun i =>
    m.armed i && completes table[i] (m.counted i) (pushTail m.tail b)

/-- The port's matching after a byte whose completed patterns are given: their counts become 0 (R111, R115). -/
def PortMatch.took (m : PortMatch) (b : Byte) (completed : List PatternId) : PortMatch :=
  { m.withEligible fun i => if completed.contains i then 0 else m.counted i
    with tail := pushTail m.tail b }

/-- The watched patterns among those completed (R115). -/
def PortMatch.watchMatches (m : PortMatch) (completed : List PatternId) : List PatternId :=
  completed.filter fun i => m.watch.getLsbD i.val

/-- The match note of a byte (R120, R121). -/
def PortMatch.note (m : PortMatch) (completed : List PatternId) : MatchNote :=
  { count := (m.watchMatches completed).length
    lowest := (m.watchMatches completed).head?
    trigger := (m.watchMatches completed).find? fun i => m.trigger.getLsbD i.val }

/-- A watch notice for each watch match, in rising order of pattern id (R119). -/
def State.watchNotices (s : State) (p : PortId) (sequence : Word) : List PatternId → State
  | [] => s
  | i :: rest =>
    let recorded := s.modPort p fun v =>
      { v with pm := { v.pm with lastWatch :=
        { pattern := BitVec.ofNat 8 i.val, sequence := sequence, time := s.partTime } } }
    (recorded.notice p .watch).watchNotices p sequence rest

/-- The PM takes a byte of a port: matching, watch notices, and the byte's note (R111). Whether the await was
matched is told apart, for the Exchange Controller (R115). -/
def State.takeByte (s : State) (p : PortId) (b : Byte) (sequence : Word) :
    State × MatchNote × Bool :=
  let m := (s.port p).pm
  let completed := m.completedBy s.patterns b
  let taken := s.modPort p fun v => { v with pm := v.pm.took b completed }
  (taken.watchNotices p sequence (m.watchMatches completed), m.note completed,
    match m.await with | none => false | some i => completed.contains i)

/-- A PATTERN task hands new contents: the entry takes them, and its progress is reset on every port (R109). -/
def State.setPattern (s : State) (i : PatternId) (contents : Option (List Element)) : State :=
  { s with patterns := s.patterns.set i contents }.modPorts fun _ v =>
    { v with pm := v.pm.resetOne i }

/-- The PM's port state after a soft reset (R118, R123). -/
def PortMatch.afterReset (m : PortMatch) : PortMatch :=
  { m.resetProgress with await := none, lastWatch := LastWatch.reset }

end Sys2Proof.Machine
end

