-- ==== Sys2Proof/Machine/Capture.lean ====
section
/-! DEFINITION. The Capture Assembler and the freeze (chapters 8 and 9): handing items and lost bytes,
TX records, meeting inputs, the agenda of records that an input produces, the room test of KEEP mode,
the pending gap, trigger, counting, FROZEN and THAW. -/

namespace Sys2Proof.Machine

/-! ### Event items and loss runs -/

/-- A settle request or a freeze item, which is never dropped (R130). -/
def ItemAction.always : ItemAction → Bool
  | .settle | .freeze => true
  | .close _ | .quiet | .txClosed _ | .thaw _ => false

/-- Whether an item is the freeze item (R150). -/
def EventItem.isFreeze (it : EventItem) : Bool := it.action = .freeze

/-- The number of items in the event list other than a settle request and a freeze item (R130). -/
def Capture.ordinaryItems (ca : Capture) : Nat :=
  (ca.events.filter fun it => !it.action.always).length

/-- An item joins the event list, or is dropped where 16 ordinary items wait; it ends the growth of the last
loss run either way (R129, R130). -/
def Capture.placeItem (ca : Capture) (it : EventItem) : Capture :=
  let events :=
    if it.action.always then (ca.events.filter fun x => x.action ≠ it.action) ++ [it]
    else if ca.ordinaryItems < Config.eventCapacity then ca.events ++ [it]
    else ca.events
  { ca with events := events, runGrows := false }

/-- A block hands the port's CA an item, at the port's receive count. Items handed in OFF are dropped (R130),
and so are those of a port that is not in use (R180, log 28). -/
def State.handItem (s : State) (p : PortId) (action : ItemAction) : State :=
  if s.listening p then
    s.modPort p fun v =>
      let it : EventItem := { position := v.slu.receiveCount, time := s.partTime, action := action }
      { v with ca := v.ca.placeItem it }
  else s

/-- The loss runs with one more lost byte: it extends the last run, or begins a new one (R129). -/
def Capture.loseByte (ca : Capture) (sequence : Word) (trigger : Option PatternId) : Capture :=
  let fresh : LossRun := { sequence := sequence, count := 1, trigger := trigger.map fun t => (t, 0) }
  match ca.lossRuns.getLast? with
  | some last =>
    if ca.runGrows && last.sequence + BitVec.ofNat 32 last.count = sequence then
      let grown : LossRun :=
        { last with
          count := last.count + 1
          trigger := match last.trigger with
            | some t => some t
            | none => trigger.map fun t => (t, last.count) }
      { ca with lossRuns := ca.lossRuns.dropLast ++ [grown] }
    else { ca with lossRuns := ca.lossRuns ++ [fresh], runGrows := true }
  | none => { ca with lossRuns := [fresh], runGrows := true }

/-! ### TX records -/

/-- The open TX record closes, if there is one, and its item is handed (R135). -/
def State.closeTxRecord (s : State) (p : PortId) : State :=
  match (s.port p).ca.openTx with
  | none => s
  | some r =>
    (s.modPort p fun v => { v with ca := { v.ca with openTx := none } }).handItem p (.txClosed r)

/-- The end of a sending: it hands the TX-closed item of a record that a freeze has closed, which finds no
record and only closes (R150, log 40), and closes the open one (R135). -/
def State.closeTx (s : State) (p : PortId) : State :=
  if (s.port p).ca.txTaken then
    ((s.modPort p fun v => { v with ca := { v.ca with txTaken := false } }).handItem p
      (.close [])).closeTxRecord p
  else s.closeTxRecord p

/-- A transmitted byte is handed at its character end, with the part time of its start bit (R82, R135). In
mode OFF and while FROZEN it is dropped. -/
def State.logTxByte (s : State) (p : PortId) (slot : Nat) (byte : Byte) (startTime : Word) : State :=
  let v := s.port p
  if v.ca.mode = .off || v.freeze.state = .frozen then s else
    match v.ca.openTx with
    | none =>
      (s.handItem p (.close [])).modPort p fun v =>
        { v with ca := { v.ca with
            openTx := some { slot := slot, time := startTime, bytes := [byte] } } }
    | some r =>
      let grown : TxRecord := { r with bytes := r.bytes ++ [byte] }
      let added := s.modPort p fun v => { v with ca := { v.ca with openTx := some grown } }
      if Config.recordCapacity ≤ grown.bytes.length then added.closeTxRecord p else added

/-! ### The pending gap -/

/-- Bytes added to the pending gap: the first take cause, sequence and time; the count holds at 2^32 - 1 (R137). -/
def Capture.addGap (ca : Capture) (cause : GapCause) (sequence time : Word) (n : Nat) : Capture :=
  if n = 0 then ca else
    match ca.gap with
    | none =>
      { ca with gap := some { count := min n Config.countMax, cause := cause, sequence := sequence,
                              time := time } }
    | some g => { ca with gap := some { g with count := min (g.count + n) Config.countMax } }

/-- Nothing is written for a mark, a TX record or a gap met now: mode OFF, settled, or FROZEN (R136, R138). -/
def Port.captureMuted (v : Port) : Bool :=
  v.ca.mode = .off || v.ca.settled || v.freeze.state = .frozen

/-! ### Room, write units and the agenda -/

/-- The unread span u (R140). -/
def Capture.unread (ca : Capture) : Nat := (ca.writePosition - ca.readMark).toNat

/-- A unit has room (R140). -/
def Capture.hasRoom (ca : Capture) (u : WriteUnit) : Bool := ca.unread + u.advance ≤ ca.areaSize

/-- The pending gap with the bytes of a discarded unit's DATA record (R141). -/
def Capture.gapOfDiscarded (ca : Capture) : List UnitRecord → Capture
  | [] => ca
  | .record (.data r _) :: rest =>
    (ca.addGap .full r.sequence r.time r.bytes.length).gapOfDiscarded rest
  | _ :: rest => ca.gapOfDiscarded rest

/-- A unit without room is discarded; from NORMAL the capture state becomes FULL, with its notice (R141). -/
def State.discardUnit (s : State) (p : PortId) (u : WriteUnit) : State :=
  let dropped := s.modPort p fun v =>
    { v with ca := { v.ca.gapOfDiscarded u.records with inHand := none } }
  if (s.port p).ca.state = .normal then
    (dropped.modPort p fun v => { v with ca := { v.ca with state := .full } }).notice p .full
  else dropped

/-- A unit passes its room test and waits for its grants; in FULL that is the recovery (R140, R142). -/
def State.passUnit (s : State) (p : PortId) (u : WriteUnit) : State :=
  s.modPort p fun v =>
    { v with ca := { v.ca with inHand := some { u with passed := true }, state := .normal } }

/-- The first room test of a unit: room, a read-mark fetch, or in FULL with a fetch already issued at this
part time a discard (R140, R142). -/
def State.testUnit (s : State) (p : PortId) (u : WriteUnit) : State :=
  let ca := (s.port p).ca
  if ca.hasRoom u then s.passUnit p u
  else if ca.state = .full && ca.lastFetch = some s.partTime then s.discardUnit p u
  else s.modPort p fun v => { v with ca := { v.ca with inHand := some u, fetch := .wanted } }

/-- Records come into hand as one unit, the pending gap's GAP ahead of them (R131, R138, R139). -/
def State.takeInHand (s : State) (p : PortId) (record : Option CaptureRecord) (joinGap : Bool) :
    State :=
  let ca := (s.port p).ca
  let gap := if joinGap then ca.gap.toList.map UnitRecord.gap else []
  let records := placeRecords ca.areaSize ca.writePosition.toNat
    (gap ++ record.toList.map UnitRecord.record)
  if records.isEmpty then s else
    match ca.mode with
    | .off => s
    | .history =>
      s.modPort p fun v =>
        { v with ca := { v.ca with inHand := some { records := records, passed := true } } }
    | .keep => s.testUnit p { records := records, passed := false }

/-! ### The freeze -/

/-- The freeze item at the position after the byte of sequence `s` (R150). -/
def Port.handFreeze (v : Port) (sequence now : Word) : Port :=
  let it : EventItem := { position := sequence + 1, time := now, action := .freeze }
  { v with ca := v.ca.placeItem it }

/-- The freeze acts on a port's bytes: not in mode OFF, not while settled (R147, R148, R154). -/
def Port.freezeActs (v : Port) : Bool := v.ca.mode ≠ .off && !v.ca.settled

/-- The freeze meets a captured byte and its trigger, after the byte has been treated (R148, R149). -/
def Port.freezeByte (v : Port) (sequence now : Word) (trigger : Option PatternId) : Port :=
  if v.freezeActs then
    match v.freeze.state, trigger with
    | .live, some t =>
      let counting : Port :=
        { v with freeze := { v.freeze with state := .counting, remaining := v.freeze.postCount,
                                           trigger := some t } }
      if v.freeze.postCount = 0 then counting.handFreeze sequence now else counting
    | .counting, _ =>
      if v.freeze.remaining = 0 then v else
        let counted : Port :=
          { v with freeze := { v.freeze with remaining := v.freeze.remaining - 1 } }
        if v.freeze.remaining = 1 then counted.handFreeze sequence now else counted
    | .live, none | .frozen, _ => v
  else v

/-- What the freeze makes of a loss run: the freeze after it, how many of the run's bytes it takes in, and
whether the freeze is entered after them (R148, R149). -/
def Freeze.meetRun (f : Freeze) (run : LossRun) : Freeze × Nat × Bool :=
  match f.state with
  | .frozen => (f, run.count, false)
  | .counting =>
    if f.remaining = 0 then (f, run.count, false)
    else if f.remaining ≤ run.count then ({ f with remaining := 0 }, f.remaining, true)
    else ({ f with remaining := f.remaining - run.count }, run.count, false)
  | .live =>
    match run.trigger with
    | none => (f, run.count, false)
    | some (t, place) =>
      let after := run.count - (place + 1)
      let started : Freeze := { f with state := .counting, trigger := some t, remaining := f.postCount }
      if f.postCount ≤ after then ({ started with remaining := 0 }, place + 1 + f.postCount, true)
      else ({ started with remaining := f.postCount - after }, run.count, false)

/-- The rest of a loss run after its first `n` bytes (R149). -/
def LossRun.after (run : LossRun) (n : Nat) : List LossRun :=
  if n < run.count then
    [{ sequence := run.sequence + BitVec.ofNat 32 n
       count := run.count - n
       trigger := match run.trigger with
         | some (t, place) => if n ≤ place then some (t, place - n) else none
         | none => none }]
  else []

/-- A loss run that was met at `now`, once the record it closed has left the CA's hand: its bytes go to the
pending gap, and the freeze meets its trigger and its bytes (R129, R137, R149, log 19). -/
def Port.loseRun (v : Port) (run : LossRun) (now : Word) : Port :=
  if v.ca.mode = .off then v
  else if v.ca.settled then { v with ca := v.ca.addGap .overrun run.sequence now run.count }
  else
    let (freeze, taken, entered) := v.freeze.meetRun run
    let ca := v.ca.addGap .overrun run.sequence now taken
    let met : Port :=
      { v with freeze := freeze, ca := { ca with lossRuns := run.after taken ++ ca.lossRuns } }
    if entered then met.handFreeze (run.sequence + BitVec.ofNat 32 taken - 1) now else met

/-! ### The agenda -/

/-- One step of what a met input still has to do. -/
def State.captureStep (s : State) (p : PortId) : CaptureStep → State
  | .write record joinGap => s.takeInHand p (some record) joinGap
  | .writeGap => s.takeInHand p none true
  | .loseRun run met => s.modPort p fun v => v.loseRun run met

/-- The steps of a met input, until one leaves a unit in hand; the rest wait in the agenda (R131, R134). -/
def State.runAgenda (s : State) (p : PortId) : List CaptureStep → State
  | [] => s.modPort p fun v => { v with ca := { v.ca with agenda := [] } }
  | step :: rest =>
    let done := s.captureStep p step
    if (done.port p).ca.inHand.isSome then
      done.modPort p fun v => { v with ca := { v.ca with agenda := rest } }
    else done.runAgenda p rest

/-- The unit has left the CA's hand: the agenda goes on. -/
def State.resumeAgenda (s : State) (p : PortId) : State := s.runAgenda p (s.port p).ca.agenda

/-- The unit in hand, tested again after a read-mark fetch (R140, R142). -/
def State.retestUnit (s : State) (p : PortId) : State :=
  match (s.port p).ca.inHand with
  | none => s
  | some u =>
    if u.passed then s
    else if (s.port p).ca.hasRoom u then s.passUnit p u
    else (s.discardUnit p u).resumeAgenda p

/-- A fetched read mark is taken as R, an impossible value as W (R140). -/
def Capture.takeReadMark (ca : Capture) (mark : Word) : Capture :=
  { ca with
    fetch := .idle
    readMark := if (ca.writePosition - mark).toNat ≤ ca.areaSize then mark else ca.writePosition }

/-! ### Meeting inputs -/

/-- The next input of a CA. -/
inductive CaptureInput
  | byte (entry : FifoEntry)
  | run (run : LossRun)
  | item (item : EventItem)
deriving DecidableEq, Repr

/-- How far behind the receive count a position lies (R128). -/
def Port.distance (v : Port) (position : Word) : Nat := (v.slu.receiveCount - position).toNat

/-- The input that lies farthest behind the receive count, an event item before the byte of its position; a
freeze item before everything (R128, R150). -/
def Port.nextInput (v : Port) : Option CaptureInput :=
  match v.ca.events.find? EventItem.isFreeze with
  | some it => some (.item it)
  | none =>
    let byte := v.slu.fifo.head?
    let run := v.ca.lossRuns.head?
    let byteAt := (byte.map fun e => v.distance e.sequence + 1).getD 0
    let runAt := (run.map fun r => v.distance r.sequence + 1).getD 0
    let itemFirst : Bool := match v.ca.events.head? with
      | some it => max byteAt runAt ≤ v.distance it.position + 1
      | none => false
    if itemFirst then v.ca.events.head?.map .item
    else if runAt ≤ byteAt then byte.map .byte
    else run.map .run

/-- The open DATA record closes with a cause and becomes a record to write (R134). -/
def Port.closeData (v : Port) (cause : CloseCause) : List CaptureStep :=
  match v.ca.openData with
  | none => []
  | some r => [.write (.data r cause) true]

/-- A byte is added to the open DATA record, or opens one (R133, R120). -/
def DataRecord.add (open? : Option DataRecord) (e : FifoEntry) : DataRecord :=
  let r := open?.getD
    { bytes := [], framing := false, parity := false, matched := false, multiMatch := false,
      tag := 0xFF, time := e.time, sequence := e.sequence, errors := 0 }
  { r with
    bytes := r.bytes ++ [e.byte]
    framing := r.framing || e.framing
    parity := r.parity || e.parity
    errors := if e.framing || e.parity then r.errors + 1 else r.errors
    matched := r.matched || e.note.count ≠ 0
    multiMatch := r.multiMatch || 2 ≤ e.note.count || (r.matched && e.note.count ≠ 0)
    tag := if r.matched then r.tag else
      match e.note.lowest with | none => r.tag | some i => BitVec.ofNat 8 i.val }

/-- Whether a byte just added closes the record, and how (R133). -/
def DataRecord.closesAt (r : DataRecord) (l : LineSettings) (byte : Byte) : Option CloseCause :=
  if l.endCodeEnable && l.endCode = byte then some .endCode
  else if Config.recordCapacity ≤ r.bytes.length then some .fullLength
  else none

/-- A FIFO entry is met: the byte is treated by the port's state, then the freeze meets it (R132, R148). The
steps are the write of the record that it closed, if any. The end code is that of the settings at the meeting, for
a byte delivered before a LINE too (DESIGN CHOICE, log 43). -/
def Port.meetByte (v : Port) (e : FifoEntry) (now : Word) : Port × List CaptureStep :=
  let v := { v with slu := { v.slu with fifo := v.slu.fifo.tail } }
  if v.ca.mode = .off then (v, [])
  else if v.ca.settled then
    ({ v with ca := v.ca.addGap .stopped e.sequence e.time 1 }, [])
  else if v.freeze.state = .frozen then
    ({ v with ca := v.ca.addGap .frozen e.sequence e.time 1 }, [])
  else
    let r := DataRecord.add v.ca.openData e
    match r.closesAt v.slu.line e.byte with
    | some cause =>
      (({ v with ca := { v.ca with openData := none } } : Port).freezeByte e.sequence now e.note.trigger,
        [.write (.data r cause) true])
    | none =>
      (({ v with ca := { v.ca with openData := some r } } : Port).freezeByte e.sequence now
        e.note.trigger, [])

/-- The marks of an item as records to write (R136). -/
def EventItem.markSteps (it : EventItem) (marks : List (MarkKind × Word)) : List CaptureStep :=
  marks.map fun m => .write (.mark m.1 m.2 it.time it.position) true

/-- What follows the close of an item that is written only where the capture is not muted (R130, R136, R138). The
TX record that a freeze closes takes the freeze item's position as its sequence (DESIGN CHOICE, log 38). -/
def EventItem.followUp (it : EventItem) (v : Port) (now : Word) : List CaptureStep :=
  match it.action with
  | .close marks => if v.captureMuted then [] else it.markSteps marks
  | .quiet => if v.captureMuted then [] else [.writeGap]
  | .txClosed r => if v.captureMuted then [] else [.write (.tx r it.position) true]
  | .thaw c =>
    if v.captureMuted then []
    else .writeGap :: it.markSteps [(.thawed, BitVec.ofNat 32 c)]
  | .settle => if v.captureMuted then [] else [.writeGap]
  | .freeze =>
    if v.captureMuted then [] else
      (v.ca.openTx.toList.map fun r => CaptureStep.write (.tx r it.position) true)
        ++ [.write (.mark .frozen (BitVec.ofNat 32 ((v.freeze.trigger.map Fin.val).getD 0)) now
              it.position) true]

/-- The closing flag of an item (R130). -/
def EventItem.closeCause (it : EventItem) : CloseCause :=
  match it.action with
  | .quiet => .quiet
  | .close _ | .txClosed _ | .freeze | .thaw _ | .settle => .event

/-- The event list without an item that is met: the freeze item wherever it stands, another at the front. -/
def Capture.removeItem (ca : Capture) (it : EventItem) : List EventItem :=
  if it.isFreeze then ca.events.filter fun x => !x.isFreeze else ca.events.tail

/-- An event item is met (R130, R134, R143, R150, R153): the open DATA record closes, and the item's records
follow it. FROZEN with its notice, and settled, come about at the meeting (log 18). The freeze takes an open TX
record from its sending (log 40). -/
def State.meetItem (s : State) (p : PortId) (it : EventItem) : State :=
  let v := s.port p
  let steps := v.closeData it.closeCause ++ it.followUp v s.partTime
  let closed := s.modPort p fun v =>
    { v with ca := { v.ca with events := v.ca.removeItem it, openData := none } }
  let met := match it.action with
    | .settle => closed.modPort p fun v => { v with ca := { v.ca with settled := true } }
    | .freeze =>
      (closed.modPort p fun v =>
        { v with
          ca := { v.ca with openTx := none, txTaken := v.ca.txTaken || v.ca.openTx.isSome }
          freeze := { v.freeze with state := .frozen } }).notice p .frozen
    | .close _ | .quiet | .txClosed _ | .thaw _ => closed
  met.runAgenda p steps

/-- The CA meets a given input (R128). -/
def State.meetInput (s : State) (p : PortId) : CaptureInput → State
  | .byte e =>
    let met := s.modPort p fun v => (v.meetByte e s.partTime).1
    met.runAgenda p ((s.port p).meetByte e s.partTime).2
  | .run r =>
    let steps := (s.port p).closeData .event ++ [.loseRun r s.partTime]
    (s.modPort p fun v =>
      { v with ca := { v.ca with lossRuns := v.ca.lossRuns.tail, openData := none } }).runAgenda p steps
  | .item it => s.meetItem p it

/-- The CA holds no record in hand and nothing of an earlier input is left to do (R128). -/
def Capture.ready (ca : Capture) : Bool := ca.inHand.isNone && ca.agenda.isEmpty

/-! ### Thaw -/

/-- The count of the pending gap, as published (R125, R137). -/
def Capture.gapCount (ca : Capture) : Nat := match ca.gap with | none => 0 | some g => g.count

/-- A THAW reaches the freeze: the state and the count it answers with (R44, R152). -/
def State.thaw (s : State) (p : PortId) : State × Nat :=
  let v := s.port p
  let live := s.modPort p fun v =>
    { v with freeze := { v.freeze with state := .live, remaining := 0, trigger := none } }
  match v.freeze.state with
  | .live => (s, 0)
  | .counting =>
    (live.modPort p fun v =>
      { v with ca := { v.ca with events := v.ca.events.filter fun x => !x.isFreeze } }, 0)
  | .frozen => (live.handItem p (.thaw v.ca.gapCount), v.ca.gapCount)

/-! ### Enable and reset -/

/-- The CA takes up its area and mode at an enable (R124, R125, R144); FIFO, loss runs and, but in mode OFF,
the pending gap are kept. -/
def Capture.takeUp (ca : Capture) (d : Descriptor) : Capture :=
  let mode := CaptureMode.ofCode d.modeCode
  { ca with
    areaAddress := d.areaAddress
    areaSize := 2 ^ d.sizeCode
    mode := mode
    writePosition := 0
    readMark := 0
    state := if mode = .off then .off else .normal
    openTx := none
    txTaken := false
    runGrows := false
    events := []
    agenda := []
    inHand := none
    gap := if mode = .off then none else ca.gap
    lastFetch := none
    fetch := .idle
    settled := false }

/-- The freeze at an enable: LIVE in mode OFF, kept otherwise (R147, R154). -/
def Freeze.atEnable (f : Freeze) (mode : CaptureMode) : Freeze :=
  if mode = .off then { f with state := .live, remaining := 0, trigger := none } else f

/-- The ENABLED mark, then the pending gap's GAP, unless mode OFF or a FROZEN freeze holds them back (R144, R154). -/
def State.markEnabled (s : State) (p : PortId) : State :=
  let v := s.port p
  s.runAgenda p
    (if v.captureMuted then [] else
      [.write (.mark .enabled 0 s.partTime v.slu.receiveCount) false, .writeGap])

/-- The CA after either reset (R145). Area and mode stand until the next enable. -/
def Capture.afterReset (ca : Capture) : Capture :=
  { Capture.reset with areaAddress := ca.areaAddress, areaSize := ca.areaSize, mode := ca.mode }

/-- The freeze after a soft reset (R155). -/
def Freeze.afterReset (f : Freeze) : Freeze :=
  { f with state := .live, remaining := 0, trigger := none }

end Sys2Proof.Machine
end

