-- ==== Sys2Proof/Machine/Serial.lean ====
section
/-! DEFINITION. The Serial Line Unit (chapter 5): handing bytes and breaks to the transmitter, the staging
buffer and its text reads, the receiver's change of state, the error counters and the settings. -/

namespace Sys2Proof.Machine

/-! ### The transmitter -/

/-- The level of a port's transmit line at a tick: true is MARK (R81). -/
def Port.transmitLine (v : Port) (tick : Nat) : Bool := v.slu.tx.level tick

/-- A character is on the line. -/
def Transmitter.inCharacter : Transmitter → Bool
  | .character _ => true
  | .free | .gap _ _ | .pause _ | .breakSpace | .breakGuard _ => false

/-- The character that a byte makes at the port's settings, its start bit beginning now (R81, R82). -/
def State.characterOf (s : State) (l : LineSettings) (b : Byte) : TxCharacter :=
  { byte := b, bits := l.format.frame b, startTick := s.time.ticks, startTime := s.partTime,
    period := l.period, pauseFollows := l.pauseEnable && l.lineEndCode = b }

/-- The text length of the head of the queue. -/
def Port.headLength (v : Port) : Nat :=
  match v.queue with | [] => 0 | e :: _ => e.fields.textLength

/-- Nothing of the text remains behind the bytes staged (R82, R83). -/
def Port.textFetched (v : Port) : Bool :=
  v.slu.textRead.isNone && v.headLength ≤ v.slu.fetchOffset

/-- The oldest staged byte is handed to the transmitter; handing the last byte of the text enters the DRAINING
exchange state (R30, R82). -/
def State.handByte (s : State) (p : PortId) : State :=
  match (s.port p).slu.staging with
  | [] => s
  | b :: rest =>
    s.modPort p fun v =>
      { v with
        slu := { v.slu with tx := .character (s.characterOf v.slu.line b), staging := rest }
        exc := { v.exc with
          state := if rest.isEmpty && v.textFetched then .draining else v.exc.state } }

/-- The break duration of the head of the queue (R40). -/
def Port.headBreakMs (v : Port) : Nat :=
  match v.queue with | [] => 0 | e :: _ => breakMs e.fields.paramA

/-- The transmit line goes to SPACE and the break timer is armed (R40, R84). -/
def State.startSpace (s : State) (p : PortId) : State :=
  s.modPort p fun v =>
    { v with
      slu := { v.slu with tx := .breakSpace }
      exc := { v.exc with timer := some (s.arm v.headBreakMs) } }

/-- A FREE transmitter takes what waits for it: the next byte of a sending, or a break (R74, R82, R84). -/
def State.serveTransmitter (s : State) (p : PortId) : State :=
  let v := s.port p
  if v.slu.tx = .free then
    match v.exc.state with
    | .sending => if v.exc.stopping.isNone then s.handByte p else s
    | .breaking => if v.exc.timer.isNone then s.startSpace p else s
    | .idle | .rateWait | .draining | .awaiting | .pausing => s
  else s

/-- What follows the end of a character now: the gap, the pause, or FREE (R72, R73, R81). -/
def State.afterCharacter (s : State) (l : LineSettings) (pauseFollows : Bool) : Transmitter :=
  if 0 < l.gapTicks then .gap (s.time.ticks + l.gapTicks) pauseFollows
  else if pauseFollows && 0 < l.pauseTicks then .pause (s.time.ticks + l.pauseTicks)
  else .free

/-- What follows the end of a gap now (R73). -/
def State.afterGap (s : State) (l : LineSettings) (pauseFollows : Bool) : Transmitter :=
  if pauseFollows && 0 < l.pauseTicks then .pause (s.time.ticks + l.pauseTicks) else .free

/-! ### The staging buffer -/

/-- The text read that the SLU asks for, at the head's text address: its test and its length as the buffer
stands (R83, log 10). -/
def Port.textRequest (v : Port) : Option (Addr × Nat) :=
  match v.queue with
  | [] => none
  | e :: _ =>
    let remaining := e.fields.textLength - v.slu.fetchOffset
    let free := Config.stagingCapacity - v.slu.staging.length
    if v.exc.state = .sending && v.exc.stopping.isNone && v.slu.textRead.isNone
        && 0 < remaining && (32 ≤ free || remaining ≤ free) then
      some (addrPlus e.fields.textAddress v.slu.fetchOffset, min free remaining)
    else none

/-- A sending ends: the staging buffer is emptied and a text read in flight is discarded (R82, R84). -/
def State.stopFetch (s : State) (p : PortId) : State :=
  (s.discardRead (s.port p).slu.textRead).modPort p fun v =>
    { v with slu := { v.slu with staging := [], textRead := none } }

/-- A text read is answered in full: its bytes join the buffer, and a FREE transmitter takes one (R82, R83). -/
def State.textArrives (s : State) (p : PortId) (read : Nat) (bytes : List Byte) : State :=
  if (s.port p).slu.textRead = some read then
    (s.modPort p fun v =>
      { v with slu := { v.slu with staging := v.slu.staging ++ bytes, textRead := none } }).serveTransmitter
      p
  else s

/-! ### The receiver -/

/-- HUNTING where the line is at MARK, ARMING where it is at SPACE (R85, R88, R93). -/
def receiverAt (mark : Bool) : Receiver := if mark then .hunting else .arming

/-- A character is being sampled, so that no command has told the level of the line. -/
def Receiver.midCharacter : Receiver → Bool
  | .sampling _ => true
  | .arming | .hunting | .zeroWait _ | .brk _ _ | .notDecoding => false

/-- A BREAK has been detected and runs on. -/
def Receiver.inBreak : Receiver → Bool
  | .brk _ _ => true
  | .arming | .hunting | .sampling _ | .zeroWait _ | .notDecoding => false

/-- The level of the receive line as far as the receiver tells it; `free` is the level inside a character. -/
def Slu.levelNow (u : Slu) (free : Bool) : Bool :=
  match u.rx with
  | .sampling _ => free
  | .zeroWait _ | .brk _ _ => false
  | .arming | .hunting | .notDecoding => u.lineMark

/-- The port enters SEEKING: what is being received is abandoned, but a detected BREAK runs on (R88). -/
def Slu.silence (u : Slu) (free : Bool) : Slu :=
  { u with
    rx := if u.rx.inBreak then u.rx else .notDecoding
    lineMark := u.levelNow free }

/-- The port leaves SEEKING: the receiver decodes again (R88). -/
def Slu.listen (u : Slu) : Slu :=
  { u with rx := if u.rx.inBreak then u.rx else receiverAt u.lineMark }

/-- A counter that holds at 65535 (R91). -/
def countUp (n : Nat) (on : Bool) : Nat := if on then min (n + 1) Config.counterMax else n

/-- The error counters with a delivered byte counted (R91). -/
def ErrorCounters.countByte (c : ErrorCounters) (framing parity lost : Bool) : ErrorCounters :=
  { c with
    framing := countUp c.framing framing
    parity := countUp c.parity parity
    overruns := countUp c.overruns lost }

/-- The error counters with a BREAK counted (R91). -/
def ErrorCounters.countBreak (c : ErrorCounters) : ErrorCounters :=
  { c with breaks := countUp c.breaks true }

/-- A decoded byte goes into the FIFO, or is lost to overrun and handed to the CA (R89, R90). -/
def Port.storeByte (v : Port) (e : FifoEntry) : Port :=
  if v.slu.fifo.length < Config.fifoCapacity then
    { v with slu := { v.slu with fifo := v.slu.fifo ++ [e] } }
  else { v with ca := v.ca.loseByte e.sequence e.note.trigger }

/-! ### Resets -/

/-- The settings and the receive line stand; everything else of the SLU is as after a reset (R93). `seeking`
says that the port is in AUTO mode, so that the receiver does not decode. -/
def Slu.afterReset (u : Slu) (free seeking : Bool) : Slu :=
  { Slu.reset with
    line := u.line
    rx := if seeking then .notDecoding else receiverAt (u.levelNow free)
    lineMark := u.levelNow free }

end Sys2Proof.Machine
end

