-- ==== Sys2Proof/Machine/Rate.lean ====
section
/-! DEFINITION. The Rate Finder (chapter 6): seeking and its intervals, the estimate, verifying, locking,
rejection and failure, presence, and the reset. -/

namespace Sys2Proof.Machine

/-- The standard periods, longest first (R98). -/
def standardPeriods : List Nat :=
  [61440, 30720, 15360, 7680, 3840, 1920, 960, 640, 320, 160, 80, 40]

/-- The distance between two periods. -/
def periodDistance (a b : Nat) : Nat := (a - b) + (b - a)

/-- The standard period nearest to an estimate, the larger where two are as near (R98). -/
def nearestStandard (estimate : Nat) : Nat :=
  standardPeriods.foldl
    (fun best q => if periodDistance estimate q < periodDistance estimate best then q else best) 61440

/-- The period that an estimate gives: the nearest standard period within its tolerance, or the estimate
clamped (R98). -/
def periodOfEstimate (estimate : Nat) : Nat :=
  let q := nearestStandard estimate
  if 100 * periodDistance estimate q ≤ 6 * q then q else max 32 (min estimate 61440)

/-- The smallest of the accepted intervals (R98). -/
def smallest : List Nat → Nat
  | [] => 0
  | [n] => n
  | n :: rest => min n (smallest rest)

/-- An interval of SPACE that is accepted (R97). -/
def intervalAccepted (length : Nat) : Bool := 32 ≤ length && length ≤ 122880

/-- The search starts again: samples, interval and tally are cleared (R96). -/
def RateFinder.seek (r : RateFinder) (attempts : Nat) : RateFinder :=
  { r with state := .seeking, attempts := attempts, samples := [], interval := none, verifySeen := 0,
           verifyFraming := 0 }

/-- FIXED, with no trace of a search (R104). -/
def RateFinder.fix (r : RateFinder) : RateFinder :=
  { r with state := .fixed, attempts := 0, samples := [], interval := none, verifySeen := 0,
           verifyFraming := 0 }

/-- The port's rate state becomes SEEKING and its receiver stops decoding (R88, R96). -/
def State.seek (s : State) (p : PortId) (attempts : Nat) : State :=
  let drawn := if (s.port p).slu.rx.midCharacter then s.drawn else s
  drawn.modPort p fun v =>
    { v with rf := v.rf.seek attempts, slu := v.slu.silence (s.freeLevel p) }

/-- An entry into SEEKING that the RF makes: progress is reset and the open record closes, with the marks of
the change (R96, R105). -/
def State.enterSeeking (s : State) (p : PortId) (attempts : Nat) (marks : List (MarkKind × Word)) :
    State :=
  ((s.seek p attempts).modPort p fun v => { v with pm := v.pm.resetProgress }).handItem p
    (.close marks)

/-- The estimate has been made: VERIFYING at its period (R98, R99). -/
def State.enterVerifying (s : State) (p : PortId) (period : Nat) : State :=
  (s.modPort p fun v =>
    { v with
      rf := { v.rf with state := .verifying, verifySeen := 0, verifyFraming := 0 }
      slu := ({ v.slu with line := { v.slu.line with period := period } } : Slu).listen }).handItem p
    (.close [])

/-- An interval of SPACE has ended: it is judged, and the eighth accepted one makes the estimate (R97, R98). -/
def State.judgeInterval (s : State) (p : PortId) (length : Nat) : State :=
  let ended := s.modPort p fun v =>
    { v with rf := { v.rf with interval := none }, slu := { v.slu with lineMark := true } }
  if intervalAccepted length then
    let samples := (s.port p).rf.samples ++ [length]
    let sampled := ended.modPort p fun v => { v with rf := { v.rf with samples := samples } }
    if 8 ≤ samples.length then sampled.enterVerifying p (periodOfEstimate (smallest samples))
    else sampled
  else ended

/-- The port locks (R100, R105). -/
def State.lockRate (s : State) (p : PortId) : State :=
  let rate := BitVec.ofNat 32 (achievedRate (s.port p).slu.line.period)
  ((s.modPort p fun v => { v with rf := { v.rf with state := .locked, attempts := 0 } }).handItem p
    (.close [(.rateLocked, rate)])).notice p .rateLocked

/-- The third rejection: FAILED at the fallback rate (R101, R102, R105). -/
def State.failRate (s : State) (p : PortId) : State :=
  let period := periodOfRate (s.port p).slu.line.fallbackRate
  ((s.modPort p fun v =>
    { v with
      rf := { v.rf with state := .failed }
      slu := { v.slu with line := { v.slu.line with period := period } } }).handItem p
    (.close [(.rateRejected, 0), (.rateFailed, BitVec.ofNat 32 (achievedRate period))])).notice p
    .rateFailed

/-- A verification is rejected (R101). -/
def State.rejectRate (s : State) (p : PortId) : State :=
  if (s.port p).rf.attempts < 2 then
    s.enterSeeking p ((s.port p).rf.attempts + 1) [(.rateRejected, 0)]
  else s.failRate p

/-- A character delivered in VERIFYING counts; the fourth decides (R100). -/
def State.verifyByte (s : State) (p : PortId) (framing : Bool) : State :=
  if (s.port p).rf.state = .verifying then
    let counted := s.modPort p fun v =>
      { v with rf := { v.rf with
          verifySeen := v.rf.verifySeen + 1
          verifyFraming := v.rf.verifyFraming + (if framing then 1 else 0) } }
    if (counted.port p).rf.verifySeen < 4 then counted
    else if (counted.port p).rf.verifyFraming < 2 then counted.lockRate p
    else counted.rejectRate p
  else s

/-- The LSS hands the RF a change of presence (R103). -/
def State.ratePresence (s : State) (p : PortId) (presence : Presence) : State :=
  match presence, (s.port p).rf.state with
  | .absent, .seeking =>
    s.modPort p fun v =>
      { v with rf := { v.rf with samples := [], interval := none, attempts := 0 } }
  | .absent, .verifying => s.enterSeeking p 0 []
  | .absent, .locked => s.enterSeeking p 0 []
  | .present, .failed => s.enterSeeking p 0 []
  | .absent, .fixed | .absent, .failed => s
  | .present, .fixed | .present, .seeking | .present, .verifying | .present, .locked => s
  | .unknown, _ => s

/-- The RF after a soft reset: SEEKING in AUTO mode, FIXED otherwise (R106). -/
def RateFinder.afterReset (r : RateFinder) (mode : LineMode) : RateFinder :=
  match mode with
  | .auto => r.seek 0
  | .fixed => r.fix

end Sys2Proof.Machine
end

