-- ==== Sys2Proof/Machine/Exchange.lean ====
section
/-! DEFINITION. Line queues, the Exchange Controller, holds and guards (chapters 2 and 3): placing entries,
head checks, the kinds at the head, the timed states, stopping, broadcast shares, cancels and draining. -/

namespace Sys2Proof.Machine

/-! ### The queue -/

/-- A new entry goes after the last entry whose order key is no larger, or at the front (R26). -/
def placeByKey (e : QueueEntry) : List QueueEntry → List QueueEntry
  | [] => [e]
  | x :: rest =>
    if x.fields.orderKey ≤ e.fields.orderKey
        || rest.any fun y => y.fields.orderKey ≤ e.fields.orderKey then
      x :: placeByKey e rest
    else e :: x :: rest

/-- The queue with a new entry; a started head keeps its place (R26). -/
def placeEntry (started : Bool) (e : QueueEntry) (queue : List QueueEntry) : List QueueEntry :=
  match started, queue with
  | true, head :: rest => head :: placeByKey e rest
  | _, queue => placeByKey e queue

/-- The head of the queue has started: the EXC is not IDLE (R27). -/
def Port.started (v : Port) : Bool := v.exc.state ≠ .idle

/-! ### The hold record -/

/-- The hold record hears of the start of an entry (R55). -/
def Hold.onStart (h : Hold) (originator : BitVec 4) : Hold :=
  if h.owner = some originator then { h with timer := none } else h

/-- The hold record hears of the end of an entry (R55). -/
def Hold.onEnd (h : Hold) (originator : BitVec 4) (arm : Nat → Timer) : Hold :=
  if h.owner = some originator then { h with timer := some (arm (h.idleSeconds * 1000)) } else h

/-- The port is held by an originator other than this one (R28). -/
def Hold.against (h : Hold) (originator : BitVec 4) : Bool :=
  match h.owner with
  | none => false
  | some o => o ≠ originator

/-! ### Ends -/

/-- How a task ends: its code and the results that its kind reports (R27). -/
structure TaskEnd where
  code          : ResultCode
  matchSequence : Word
  outcomeA      : Word
  outcomeB      : Word
deriving DecidableEq, Repr

/-- An end whose other results are 0 (R22). -/
def endWith (code : ResultCode) : TaskEnd :=
  { code := code, matchSequence := 0, outcomeA := 0, outcomeB := 0 }

/-- The result code of a task that was stopped (R19, R31, R39). -/
def StopCause.code : StopCause → ResultCode
  | .cancelled => .cancelled
  | .lineLost => .lineLost
  | .memoryFault => .memoryFault

/-- The set that a port joins at the end of its share (R47). -/
inductive ShareSet
  | sent | refused | neither | drained
deriving DecidableEq, Repr

/-- The set joined by a share that ends with a code, having completed all its text or not (R46, R47). -/
def shareSet (code : ResultCode) (complete : Bool) : ShareSet :=
  match code with
  | .ok => .sent
  | .cancelled => if complete then .sent else .neither
  | .drained => .drained
  | .noMatch | .held | .notHolder | .lineLost | .badTask | .guarded | .memoryFault | .notFound
  | .partialResult | .noRate => .refused

/-- A port as a bit of a port set (R48). -/
def portBit (p : PortId) : BitVec 24 := 1#24 <<< p.val

/-- The number of ports of a set. -/
def portsIn (set : BitVec 24) : Nat := ((List.finRange 24).filter fun p => set.getLsbD p.val).length

/-- The earlier of two stamps, as seen now. -/
def earlierStamp (now : Word) (a : Option Word) (b : Word) : Word :=
  match a with
  | none => b
  | some a => if (now - b).toNat ≤ (now - a).toNat then a else b

/-- A share's end is noted for its slot (R47). Its characters are added only where it was stopped before its last
byte (R48, log 21). -/
def Broadcast.note (b : Broadcast) (p : PortId) (set : ShareSet) (start now : Word)
    (characters : Nat) (fault : Bool) : Broadcast :=
  { b with
    left := b.left - 1
    nDrained := if set = .drained then b.nDrained + 1 else b.nDrained
    sent := if set = .sent then b.sent ||| portBit p else b.sent
    refused := if set = .refused then b.refused ||| portBit p else b.refused
    drained := if set = .drained then b.drained ||| portBit p else b.drained
    characters :=
      if set = .sent || b.textLength ≤ characters then b.characters else b.characters + characters
    start := some (earlierStamp now b.start start)
    fault := b.fault || fault }

/-- The refused set reported: drained ports join it unless every share was drained (R49). -/
def Broadcast.refusedSet (b : Broadcast) : BitVec 24 :=
  if b.nDrained = b.total then b.refused else b.refused ||| b.drained

/-- The result code of a BROADCAST (R48). -/
def Broadcast.code (b : Broadcast) : ResultCode :=
  if b.cancelled then .cancelled
  else if b.nDrained = b.total then .drained
  else if b.fault then .memoryFault
  else if b.refusedSet ≠ 0 then .partialResult
  else .ok

/-- The completion of a BROADCAST slot at the end of its last share (R48). -/
def Broadcast.completion (b : Broadcast) (now : Word) : Completion :=
  { slot := b.slot, notify := b.notify, code := b.code, attempts := 0
    bytesSent := b.textLength * portsIn b.sent + b.characters
    matchSequence := 0, startTime := b.start.getD now, endTime := now
    outcomeA := b.sent.setWidth 32, outcomeB := b.refusedSet.setWidth 32 }

/-- A share's end is handed to the TSU; the last one completes the slot (R47, R48). -/
def State.shareEnds (s : State) (p : PortId) (slot : Nat) (set : ShareSet) (start : Word)
    (characters : Nat) (fault : Bool) : State :=
  match s.tsu.broadcasts.find? fun b => b.slot = slot with
  | none => s
  | some b =>
    let noted := b.note p set start s.partTime characters fault
    if noted.left = 0 then
      ({ s with tsu := { s.tsu with
          broadcasts := s.tsu.broadcasts.filter fun x => x.slot ≠ slot } } : State).handCompletion
        (noted.completion s.partTime)
    else
      { s with tsu := { s.tsu with
          broadcasts := s.tsu.broadcasts.map fun x => if x.slot = slot then noted else x } }

/-- A cancel has reached a share of the slot (R48). -/
def State.markCancelled (s : State) (slot : Nat) : State :=
  { s with tsu := { s.tsu with
      broadcasts := s.tsu.broadcasts.map fun b =>
        if b.slot = slot then { b with cancelled := true } else b } }

/-- The head's task ends, as one event: the entry leaves the queue, its completion is handed, the hold record
hears of the end, and the EXC is IDLE (R27). -/
def State.finishHead (s : State) (p : PortId) (fin : TaskEnd) : State :=
  match (s.port p).queue with
  | [] => s
  | e :: rest =>
    let x := (s.port p).exc
    let left := s.modPort p fun v =>
      { v with
        queue := rest
        exc := Exc.idle
        hold := v.hold.onEnd e.fields.originator s.arm }
    if e.kind = .broadcast then
      left.shareEnds p e.slot (shareSet fin.code (e.fields.textLength ≤ x.bytesSent)) x.startTime
        x.bytesSent (fin.code = .memoryFault)
    else
      left.handCompletion
        { slot := e.slot, notify := e.fields.notify, code := fin.code, attempts := x.attempts,
          bytesSent := x.bytesSent, matchSequence := fin.matchSequence, startTime := x.startTime,
          endTime := s.partTime, outcomeA := fin.outcomeA, outcomeB := fin.outcomeB }

/-! ### Head checks -/

/-- The guard forbids the entry (R28, R60). A SEND is refused whatever its text length (R38). -/
def Port.guardRefuses (v : Port) (e : QueueEntry) : Bool :=
  match e.kind with
  | .brk => v.noBreak
  | .line => v.noLine
  | .send | .broadcast => v.noSend
  | .exchange => v.noSend && 0 < e.fields.textLength
  | .hold | .release | .watch | .thaw | .guard | .abort | .pattern | .sense => false

/-- The kinds that the hold check applies to (R28, R58). -/
def TaskKind.holdChecked : TaskKind → Bool
  | .send | .exchange | .brk | .line | .broadcast => true
  | .hold | .release | .watch | .thaw | .guard | .abort | .pattern | .sense => false

/-- The kinds that the rate check sends to RATE_WAIT (R28). -/
def TaskKind.rateChecked : TaskKind → Bool
  | .send | .exchange | .brk => true
  | .line | .hold | .release | .watch | .thaw | .guard | .broadcast | .abort | .pattern
  | .sense => false

/-- The port is in AUTO mode and its rate is still being found (R28). -/
def Port.rateUnfound (v : Port) : Bool :=
  v.slu.line.mode = .auto && (v.rf.state = .seeking || v.rf.state = .verifying)

/-- The head checks in order: the code of the first that fails (R28, R46). A broadcast share is refused where
the rate is not LOCKED. -/
def Port.headCheck (v : Port) (e : QueueEntry) : Option ResultCode :=
  if v.guardRefuses e then some .guarded
  else if e.kind.holdChecked && v.hold.against e.fields.originator then some .held
  else if e.fields.requirePresence && v.sense.presence = .absent then some .lineLost
  else if e.kind = .broadcast && v.slu.line.mode = .auto && v.rf.state ≠ .locked then some .noRate
  else none

/-! ### Working states -/

/-- The EXC enters SENDING with a fresh fetch from the first byte of the text (R30, R83). -/
def State.enterSending (s : State) (p : PortId) : State :=
  (s.stopFetch p).modPort p fun v =>
    { v with
      slu := { v.slu with fetchOffset := 0 }
      exc := { v.exc with state := .sending, timer := none } }

/-- The EXC enters AWAITING: the response deadline and the await are armed (R33, R113). -/
def State.enterAwaiting (s : State) (p : PortId) (f : TaskFields) : State :=
  s.modPort p fun v =>
    { v with
      exc := { v.exc with
        state := .awaiting
        timer := some (s.arm (v.slu.line.responseMs f.responseTime)) }
      pm := v.pm.armAwait (Fin.ofNat 32 f.patternId) }

/-- An attempt of an exchange begins: it is counted, and sends or, with empty text, awaits (R35, R41). -/
def State.beginAttempt (s : State) (p : PortId) (f : TaskFields) : State :=
  let counted := s.modPort p fun v => { v with exc := { v.exc with attempts := v.exc.attempts + 1 } }
  if 0 < f.textLength then counted.enterSending p else counted.enterAwaiting p f

/-- The EXC enters BREAKING and asks the transmitter for the break (R40, R84). -/
def State.enterBreaking (s : State) (p : PortId) : State :=
  (s.modPort p fun v => { v with exc := { v.exc with state := .breaking, timer := none } }).serveTransmitter
    p

/-- The EXC enters RATE_WAIT and arms its limit (R29). -/
def State.enterRateWait (s : State) (p : PortId) (f : TaskFields) : State :=
  s.modPort p fun v =>
    { v with exc := { v.exc with state := .rateWait, timer := some (s.arm (rateWaitMs f.responseTime)) } }

/-! ### Kinds that end at the head -/

/-- LINE: close, reset of progress, settings, SETTINGS mark, end (R42, R79, R104). -/
def State.lineTask (s : State) (p : PortId) (f : TaskFields) : State × TaskEnd :=
  let closed := s.handItem p (.close [])
  let applied := closed.modPort p fun v =>
    { v with pm := v.pm.resetProgress, slu := { v.slu with line := v.slu.line.ofTask f } }
  if f.paramA = 0 then
    ((applied.seek p 0).handItem p (.close [(.settings, 0)]), endWith .ok)
  else
    let fixed := applied.modPort p fun v =>
      { v with
        rf := v.rf.fix
        slu := if v.rf.state = .seeking then v.slu.listen else v.slu }
    let period := periodOfRate f.paramA.toNat
    let rate := BitVec.ofNat 32 (achievedRate period)
    (fixed.handItem p (.close [(.settings, rate)]),
      { code := .ok, matchSequence := 0, outcomeA := rate, outcomeB := BitVec.ofNat 32 period })

/-- WATCH: watch set, trigger set and post-trigger count (R43, R112, R147). -/
def State.watchTask (s : State) (p : PortId) (f : TaskFields) : State × TaskEnd :=
  (s.modPort p fun v =>
    { v with
      pm := v.pm.setWatch f.paramA f.paramB
      freeze := { v.freeze with postCount := min f.paramC.toNat 65535 } },
    { code := .ok, matchSequence := 0, outcomeA := f.paramA, outcomeB := f.paramB &&& f.paramA })

/-- THAW: the freeze ends and answers with its count (R44, R152). -/
def State.thawTask (s : State) (p : PortId) : State × TaskEnd :=
  ((s.thaw p).1,
    { code := .ok, matchSequence := 0, outcomeA := BitVec.ofNat 32 (s.thaw p).2, outcomeB := 0 })

/-- HOLD: granted, renewed, or refused (R53). -/
def State.holdTask (s : State) (p : PortId) (f : TaskFields) : State × TaskEnd :=
  if (s.port p).hold.against f.originator then (s, endWith .held)
  else
    (s.modPort p fun v =>
      { v with hold := { v.hold with
          owner := some f.originator, idleSeconds := holdSeconds f.paramA } },
      { endWith .ok with outcomeA := BitVec.ofNat 32 (holdSeconds f.paramA) })

/-- The hold ends: no owner, and its timer disarmed (R54, R56). -/
def State.endHold (s : State) (p : PortId) : State :=
  s.modPort p fun v => { v with hold := { v.hold with owner := none, timer := none } }

/-- RELEASE: by the owner, forced, or refused (R54). -/
def State.releaseTask (s : State) (p : PortId) (f : TaskFields) : State × TaskEnd :=
  match (s.port p).hold.owner with
  | none => (s, endWith .ok)
  | some o =>
    if o = f.originator then (s.endHold p, endWith .ok)
    else if f.force then ((s.endHold p).notice p .holdLost, endWith .ok)
    else (s, endWith .notHolder)

/-- GUARD: the named flags are added (R61). -/
def State.guardTask (s : State) (p : PortId) (f : TaskFields) : State × TaskEnd :=
  let guard := (s.port p).guard ||| f.paramA.setWidth 3
  (s.modPort p fun v => { v with guard := guard },
    { endWith .ok with outcomeA := guard.setWidth 32 })

/-- The work of an entry that has passed its checks: a timed state, or an end at once (R28, 2.4). The kinds
that never stand in a queue have none. -/
def State.work (s : State) (p : PortId) (e : QueueEntry) : State × Option TaskEnd :=
  match e.kind with
  | .send =>
    if 0 < e.fields.textLength then (s.beginAttempt p e.fields, none) else (s, some (endWith .ok))
  | .broadcast => (s.beginAttempt p e.fields, none)
  | .exchange => (s.beginAttempt p e.fields, none)
  | .brk => (s.enterBreaking p, none)
  | .line => ((s.lineTask p e.fields).1, some (s.lineTask p e.fields).2)
  | .watch => ((s.watchTask p e.fields).1, some (s.watchTask p e.fields).2)
  | .thaw => ((s.thawTask p).1, some (s.thawTask p).2)
  | .hold => ((s.holdTask p e.fields).1, some (s.holdTask p e.fields).2)
  | .release => ((s.releaseTask p e.fields).1, some (s.releaseTask p e.fields).2)
  | .guard => ((s.guardTask p e.fields).1, some (s.guardTask p e.fields).2)
  | .abort | .pattern | .sense => (s, some (endWith .badTask))

/-! ### Taking heads -/

/-- The EXC takes a head: its start time, its counts from 0, and the report to the hold record (R27, R28, R55). -/
def State.startEntry (s : State) (p : PortId) (e : QueueEntry) : State :=
  s.modPort p fun v =>
    { v with
      exc := { Exc.idle with startTime := s.partTime }
      hold := v.hold.onStart e.fields.originator }

/-- The EXC takes heads while it is IDLE and the queue holds one, each through its checks (R27, R28); `n` bounds
how many. -/
def State.takeHeads (s : State) (p : PortId) : Nat → State
  | 0 => s
  | n + 1 =>
    match (s.port p).queue with
    | [] => s
    | e :: _ =>
      if (s.port p).started then s else
        let begun := s.startEntry p e
        match (begun.port p).headCheck e with
        | some code => (begun.finishHead p (endWith code)).takeHeads p n
        | none =>
          if e.kind.rateChecked && (begun.port p).rateUnfound then begun.enterRateWait p e.fields
          else
            match begun.work p e with
            | (worked, some fin) => (worked.finishHead p fin).takeHeads p n
            | (worked, none) => worked

/-- The EXC takes whatever heads it can (R27). -/
def State.serveQueue (s : State) (p : PortId) : State := s.takeHeads p (s.port p).queue.length

/-- The head's task ends and the next head is taken (R27). -/
def State.endTask (s : State) (p : PortId) (fin : TaskEnd) : State :=
  (s.finishHead p fin).serveQueue p

/-- A rate has been found or given up: a task in RATE_WAIT goes on (R29). -/
def State.leaveRateWait (s : State) (p : PortId) : State :=
  match (s.port p).queue, (s.port p).exc.state with
  | e :: _, .rateWait =>
    let dropped := s.modPort p fun v => { v with exc := { v.exc with timer := none } }
    match dropped.work p e with
    | (worked, some fin) => worked.endTask p fin
    | (worked, none) => worked
  | _, _ => s

/-! ### Stopping a started task -/

/-- The await is disarmed (R113). -/
def State.disarm (s : State) (p : PortId) : State :=
  s.modPort p fun v => { v with pm := v.pm.disarmAwait }

/-- The sending stops now: the TX record closes, the staging buffer is emptied, the read in flight is
discarded (R30, R84, R135). -/
def State.stopSending (s : State) (p : PortId) : State := (s.stopFetch p).closeTx p

/-- The time the transmit line has been at SPACE (R67). -/
def State.spaceTime (s : State) (p : PortId) : Word :=
  match (s.port p).exc.timer with
  | none => 0
  | some t => s.measured t.armedAt

/-- A break is cut short: the line returns to MARK without guard time (R40, R84). -/
def State.cutBreak (s : State) (p : PortId) (code : ResultCode) : State :=
  let v := s.port p
  match v.slu.tx with
  | .breakSpace =>
    let freed := s.modPort p fun v => { v with slu := { v.slu with tx := .free } }
    (freed.handItem p (.close [(.breakTx, s.spaceTime p)])).endTask p
      { endWith code with outcomeA := s.spaceTime p }
  | .breakGuard _ =>
    (s.modPort p fun v => { v with slu := { v.slu with tx := .free } }).endTask p
      { endWith code with outcomeA := BitVec.ofNat 32 v.headBreakMs }
  | .free | .character _ | .gap _ _ | .pause _ => s.endTask p (endWith code)

/-- A cancel, a presence loss or a read fault stops the task in progress as its state requires (R19, R31, R39). -/
def State.stopHead (s : State) (p : PortId) (why : StopCause) : State :=
  match (s.port p).exc.state with
  | .idle => s
  | .rateWait | .pausing => s.endTask p (endWith why.code)
  | .awaiting => (s.disarm p).endTask p (endWith why.code)
  | .breaking => s.cutBreak p why.code
  | .sending | .draining =>
    if (s.port p).slu.tx.inCharacter then
      if (s.port p).exc.stopping.isNone then
        (s.stopFetch p).modPort p fun v => { v with exc := { v.exc with stopping := some why } }
      else s
    else (s.stopSending p).endTask p (endWith why.code)

/-- A presence loss reaches the EXC (R39, R163). -/
def State.losePresence (s : State) (p : PortId) : State :=
  match (s.port p).queue with
  | [] => s
  | e :: _ =>
    if (s.port p).started && e.fields.requirePresence then s.stopHead p .lineLost else s

/-- A read fault of the port's text read (R31, R84). -/
def State.textFaults (s : State) (p : PortId) (read : Nat) : State :=
  if (s.port p).slu.textRead = some read then
    let dropped := s.modPort p fun v => { v with slu := { v.slu with textRead := none } }
    if (s.port p).exc.state = .sending then dropped.stopHead p .memoryFault else dropped
  else s

/-! ### Cancels (R18 to R21) -/

/-- What a cancel found at one controller (R17). -/
inductive CancelFound
  | absent | unstarted | started
deriving DecidableEq, Repr

/-- How a port's queue holds a slot. -/
def Port.cancelFinds (v : Port) (slot : Nat) : CancelFound :=
  match v.queue with
  | [] => .absent
  | e :: rest =>
    if v.started && e.slot = slot then .started
    else if (e :: rest).any fun x => x.slot = slot then .unstarted
    else .absent

/-- An unstarted entry is removed by a cancel (R18, R20). -/
def State.removeUnstarted (s : State) (p : PortId) (slot : Nat) : State :=
  match (s.port p).queue.find? fun e => e.slot = slot with
  | none => s
  | some e =>
    let removed := s.modPort p fun v => { v with queue := v.queue.filter fun x => x.slot ≠ slot }
    if e.kind = .broadcast then
      (removed.markCancelled slot).shareEnds p slot .neither s.partTime 0 false
    else removed.handCompletion (s.unbegun slot e.fields.notify .cancelled)

/-- A cancel is taken at a port's controller (R18 to R20). One that finds its entry already stopping changes
nothing (R21). -/
def State.cancelAt (s : State) (p : PortId) (slot : Nat) : State :=
  match (s.port p).cancelFinds slot with
  | .absent => s
  | .unstarted => s.removeUnstarted p slot
  | .started =>
    if (s.port p).exc.stopping.isSome then s else (s.markCancelled slot).stopHead p .cancelled

/-! ### Draining (R49) -/

/-- An unstarted entry is completed DRAINED (R49). -/
def State.drainEntry (s : State) (p : PortId) (e : QueueEntry) : State :=
  if e.kind = .broadcast then s.shareEnds p e.slot .drained s.partTime 0 false
  else s.handCompletion (s.unbegun e.slot e.fields.notify .drained)

/-- The unstarted entries of a queue: all behind a started head. -/
def Port.unstarted (v : Port) : List QueueEntry := if v.started then v.queue.tail else v.queue

/-- Every unstarted entry of a port is removed and completed DRAINED, in queue order (R22, R49). -/
def State.drainPort (s : State) (p : PortId) : State :=
  (s.port p).unstarted.foldl (fun s e => s.drainEntry p e)
    (s.modPort p fun v => { v with queue := if v.started then v.queue.take 1 else [] })

end Sys2Proof.Machine
end

