-- ==== Sys2Proof/Machine/Receive.lean ====
section
/-! DEFINITION. What a received byte, a BREAK and a change of presence do (R85 to R92, R34, R100, R158 to R166):
the delivery of a decoded byte through matcher, FIFO, quiet timer, counters and verification; the sense
samples. -/

namespace Sys2Proof.Machine

/-! ### Delivery of a byte -/

/-- The await has been matched at a byte: the exchange ends OK (R34). -/
def State.awaitMatched (s : State) (p : PortId) (sequence : Word) : State :=
  match (s.port p).queue, (s.port p).exc.state with
  | e :: _, .awaiting =>
    (s.disarm p).endTask p
      { code := .ok, matchSequence := sequence, outcomeA := BitVec.ofNat 32 e.fields.patternId,
        outcomeB := 0 }
  | _, _ => s

/-- The rate state after a verifying character lets a task in RATE_WAIT go on (R29). -/
def State.serveRateWait (s : State) (p : PortId) : State :=
  if (s.port p).rf.state = .locked || (s.port p).rf.state = .failed then s.leaveRateWait p else s

/-- A decoded byte is delivered (R85): sequence number, matcher, FIFO or loss, quiet timer, counters,
verification. The exchange that its match ends, ends once the byte's own event is whole (log 17). -/
def State.deliver (s : State) (p : PortId) (byte : Byte) (framing parity : Bool) : State :=
  let sequence := (s.port p).slu.receiveCount
  let counted := s.modPort p fun v =>
    { v with slu := { v.slu with receiveCount := v.slu.receiveCount + 1 } }
  let (matched, note, awaited) := counted.takeByte p byte sequence
  let lost : Bool := Config.fifoCapacity ≤ (s.port p).slu.fifo.length
  let stored := matched.modPort p fun v =>
    let kept := v.storeByte
      { byte := byte, sequence := sequence, framing := framing, parity := parity,
        time := s.partTime, note := note }
    { kept with slu := { kept.slu with
        quietEnd := some (s.time.ticks + v.slu.line.quietTicks)
        errors := v.slu.errors.countByte framing parity lost } }
  let verified := if (s.port p).rf.state = .verifying then
      (stored.verifyByte p framing).serveRateWait p
    else stored
  if awaited then verified.awaitMatched p sequence else verified

/-- A character or a zero character completes as a byte: delivered, or discarded where the port does not
listen (R85, R92). The receiver goes on by the level of the line. -/
def State.completeByte (s : State) (p : PortId) (byte : Byte) (framing parity mark : Bool) : State :=
  let on := s.modPort p fun v => { v with slu := { v.slu with rx := receiverAt mark, lineMark := mark } }
  if s.listening p then on.deliver p byte framing parity else on

/-- A zero character is a BREAK (R87); one detected where the port does not listen has no effects (R92). -/
def State.detectBreak (s : State) (p : PortId) (c : RxCharacter) : State :=
  let held := s.modPort p fun v =>
    { v with slu := { v.slu with rx := .brk c.edgeTime (!s.listening p), lineMark := false } }
  if s.listening p then
    (held.modPort p fun v =>
      { v with
        slu := { v.slu with errors := v.slu.errors.countBreak }
        pm := v.pm.resetProgress }).handItem p (.close [])
  else held

/-- A received BREAK ends with the line's return to MARK (R87). -/
def State.endReceivedBreak (s : State) (p : PortId) (edgeTime : Nat) (silent : Bool) : State :=
  let ended := s.modPort p fun v =>
    { v with slu := { v.slu with
        rx := if v.rf.state = .seeking then .notDecoding else .hunting
        lineMark := true } }
  if silent then ended else ended.handItem p (.close [(.breakRx, s.measured edgeTime)])

/-! ### Sense samples -/

/-- The class of a sample (R159). -/
inductive SampleClass
  | high | mid | low
deriving DecidableEq, Repr

/-- The sense level of a code, in mV (R158). -/
def senseLevel (code : BitVec 12) : Int := ((code.toNat : Int) - 2048) * 8

/-- The class of a level by its magnitude (R159). -/
def Scanner.classify (c : Scanner) (level : Int) : SampleClass :=
  if c.presentMv ≤ level.natAbs then .high
  else if level.natAbs < c.absentMv then .low
  else .mid

/-- A run with one more sample of its class, or a new run of one (R160). -/
def extendRun (cls : RunClass) (v : PortSense) : PortSense :=
  if v.runClass = cls then { v with runCount := v.runCount + 1 }
  else { v with runClass := cls, runCount := 1 }

/-- The run is broken (R160). -/
def breakRun (v : PortSense) : PortSense := { v with runClass := .noRun, runCount := 0 }

/-- The run after a sample, by its class and the presence before it (R160). -/
def PortSense.updateRun (v : PortSense) (cls : SampleClass) : PortSense :=
  match cls, v.presence with
  | .high, .unknown | .high, .absent => extendRun .high v
  | .high, .present => breakRun v
  | .low, .unknown | .low, .present => extendRun .low v
  | .low, .absent => breakRun v
  | .mid, _ => breakRun v

/-- The presence that a completed run leads to (R161). -/
def RunClass.leadsTo : RunClass → Presence → Presence
  | .high, _ => .present
  | .low, _ => .absent
  | .noRun, before => before

/-- A port's sense items after a sample: level, run, and presence where the run reaches K (R158 to R161). -/
def PortSense.sample (v : PortSense) (c : Scanner) (code : BitVec 12) : PortSense :=
  let level := senseLevel code
  let ran := ({ v with level := level } : PortSense).updateRun (c.classify level)
  if c.debounce ≤ ran.runCount && ran.runClass ≠ .noRun then
    { breakRun ran with presence := ran.runClass.leadsTo v.presence }
  else ran

/-- The mark and the notice of a change of presence (R162). -/
def Presence.reports : Presence → Option (MarkKind × NoticeKind)
  | .present => some (.presenceUp, .presenceUp)
  | .absent => some (.presenceDown, .presenceDown)
  | .unknown => none

/-- The four hand-overs of a change of presence, in order (R162). -/
def State.presenceChanged (s : State) (p : PortId) (presence : Presence) : State :=
  match presence.reports with
  | none => s
  | some (mark, kind) =>
    let reported := ((s.handItem p (.close [(mark, 0)])).notice p kind).ratePresence p presence
    if presence = .absent then reported.losePresence p else reported

/-- A port's sample is taken up; a change of presence is handed over but in OFF (R158 to R162, R165). -/
def State.takeSample (s : State) (p : PortId) (code : BitVec 12) : State :=
  let before := (s.port p).sense.presence
  let sampled := s.modPort p fun v => { v with sense := v.sense.sample s.scanner code }
  let after := (sampled.port p).sense.presence
  if after ≠ before && s.bus.control ≠ .off then sampled.presenceChanged p after else sampled

/-- A sense sweep begins, and the interval timer is armed (R157). -/
def State.startSenseSweep (s : State) : State :=
  { s with scanner := { s.scanner with
      sweep := some { startTick := s.time.ticks, port := 0 }
      timer := some (s.arm s.scanner.interval)
      firstDue := false } }

/-- The settings of a SENSE task are taken up: every run is reset, and an armed timer keeps its T (R164). -/
def State.takeSenseSettings (s : State) (f : TaskFields) : State :=
  let (present, absent, debounce, interval) := senseSettings f
  { s with scanner := { s.scanner with
      presentMv := present, absentMv := absent, debounce := debounce
      interval := interval } }.modPorts
    fun _ v => { v with sense := breakRun v.sense }

end Sys2Proof.Machine
end

