-- ==== Sys2Proof/Machine/Sweep.lean ====
section
/-! DEFINITION. The Task Sweep Unit (chapter 1): starting and ending sweeps, the scan, validation, admission,
the immediate kinds, refusals and the writing of results. -/

namespace Sys2Proof.Machine

/-! ### Starting, moving on and ending -/

/-- The first index from `i` on that is in the table and not in flight (R7); `fuel` bounds the search. -/
def Tsu.nextIndex (t : Tsu) : Nat → Nat → Option Nat
  | 0, _ => none
  | fuel + 1, i =>
    if t.geometry.slotCount ≤ i then none
    else if t.inFlight.contains i then t.nextIndex fuel (i + 1)
    else some i

/-- The index that a sweep reads next from `i` on (R7). -/
def Tsu.scanFrom (t : Tsu) (i : Nat) : Option Nat := t.nextIndex (t.geometry.slotCount + 1) i

/-- A sweep at the header read of an index. -/
def sweepAt (requested : Bool) (i : Nat) : Sweep :=
  { requested := requested, index := i, stage := .headerWanted }

/-- The sweep state is idle again, and the timer is armed in RUNNING with a period that is not 0 (R5, R6). -/
def State.sweepIdle (s : State) : State :=
  { s with tsu := { s.tsu with
      sweep := none
      timer := if s.bus.control = .running && s.tsu.geometry.sweepPeriod ≠ 0 then
          some (s.arm s.tsu.geometry.sweepPeriod)
        else s.tsu.timer } }

/-- A sweep starts from index 0: the timer is disarmed, and a requested sweep clears the pending-request flag
(R4). A table wholly in flight leaves it nothing to read. -/
def State.beginSweep (s : State) (requested : Bool) : State :=
  let started : State := { s with tsu := { s.tsu with
      timer := none
      pendingRequest := if requested then false else s.tsu.pendingRequest } }
  match s.tsu.scanFrom 0 with
  | some i => { started with tsu := { started.tsu with sweep := some (sweepAt requested i) } }
  | none => started.sweepIdle

/-- The sweep ends: a pending request starts the next one at once (R6). -/
def State.endSweep (s : State) : State :=
  if s.tsu.pendingRequest then s.beginSweep true else s.sweepIdle

/-- The TSU has finished with the slots below `i`, and goes on (R6, R7). -/
def State.sweepOn (s : State) (requested : Bool) (i : Nat) : State :=
  match s.tsu.scanFrom i with
  | some j => { s with tsu := { s.tsu with sweep := some (sweepAt requested j) } }
  | none => s.endSweep

/-- The TSU starts a sweep from index 0, one with nothing to read ending at once (R4, R5, R6). -/
def State.startSweep (s : State) (requested : Bool) : State :=
  let started := s.beginSweep requested
  if started.tsu.sweep.isNone && started.tsu.pendingRequest then started.beginSweep true else started

/-- A sweep request (R4). -/
def State.requestSweep (s : State) : State :=
  if s.active && s.tsu.sweep.isNone then s.startSweep true
  else { s with tsu := { s.tsu with pendingRequest := true } }

/-- The sweep's stage changes. -/
def State.sweepStage (s : State) (w : Sweep) (stage : SweepStage) : State :=
  { s with tsu := { s.tsu with sweep := some { w with stage := stage } } }

/-- Writes of a slot that the TSU will request one after another (R22, R167). -/
def State.queueWrites (s : State) (writes : List SlotWrite) : State :=
  { s with tsu := { s.tsu with writes := s.tsu.writes ++ writes } }

/-- The slot in hand has been dealt with: the sweep goes on once its writes have been issued (R6). -/
def State.slotDone (s : State) (w : Sweep) : State :=
  if s.tsu.writes.isEmpty then s.sweepOn w.requested (w.index + 1) else s.sweepStage w .writing

/-- A slot that gets no write is finished with at once (R6, R7). -/
def State.slotLeft (s : State) (w : Sweep) : State := s.sweepOn w.requested (w.index + 1)

/-- The TSU completes the slot in hand itself: result fields, then DONE (R12, R15 to R17, R23). -/
def State.completeSlot (s : State) (w : Sweep) (c : Completion) : State :=
  (s.queueWrites (c.writes s.tsu.geometry)).slotDone w

/-! ### Validation -/

/-- Kinds whose port field is checked (R11). -/
def TaskKind.portChecked : TaskKind → Bool
  | .send | .exchange | .brk | .line | .hold | .release | .watch | .thaw | .guard => true
  | .broadcast | .abort | .pattern | .sense => false

/-- The text length does not fit (R11, reason 3). -/
def TaskKind.textRefused (k : TaskKind) (length : Nat) : Bool :=
  match k with
  | .send | .exchange => 1024 < length
  | .broadcast => length = 0 || 1024 < length
  | .brk | .line | .hold | .release | .watch | .thaw | .guard | .abort | .pattern | .sense => false

/-- The pattern is not usable (R11, reason 4). -/
def TaskKind.patternRefused (k : TaskKind) (table : Vector (Option (List Element)) 32) (id : Nat) : Bool :=
  match k with
  | .exchange => 31 < id || (table[Fin.ofNat 32 id]).isNone
  | .pattern => 31 < id
  | .send | .brk | .line | .hold | .release | .watch | .thaw | .guard | .broadcast | .abort
  | .sense => false

/-- The reason that a slot of a known kind is refused with, the checks in the order of their reasons (R11). -/
def State.refusal (s : State) (k : TaskKind) (t : TaskSlot) : Option Nat :=
  let g := s.tsu.geometry
  if k.portChecked && g.portCount ≤ t.port then some 2
  else if k.textRefused t.fields.textLength then some 3
  else if k.patternRefused s.patterns t.fields.patternId then some 4
  else if k = .broadcast && (memberPorts t.fields g.portCount).isEmpty then some 5
  else if k = .abort && g.slotCount ≤ t.fields.paramA.toNat then some 6
  else if k = .pattern && (t.fields.textLength % 2 ≠ 0 || 48 < t.fields.textLength) then some 7
  else none

/-- A slot is refused with BAD_TASK and a reason (R12). -/
def State.refuseSlot (s : State) (w : Sweep) (t : TaskSlot) (reason : Nat) : State :=
  s.completeSlot w
    { s.unbegun w.index t.fields.notify .badTask with outcomeA := BitVec.ofNat 32 reason }

/-! ### Admission -/

/-- The line queue has room (R13). -/
def Port.hasRoom (v : Port) : Bool := v.queue.length < Config.queueCapacity

/-- An entry joins a port's queue by its key (R13, R26). -/
def State.addEntry (s : State) (p : PortId) (e : QueueEntry) : State :=
  s.modPort p fun v => { v with queue := placeEntry v.started e v.queue }

/-- The slot's index joins the in-flight set, and TAKEN is to be written (R3, R13). -/
def State.admitted (s : State) (slot : Nat) : State :=
  { s with tsu := { s.tsu with
      inFlight := s.tsu.inFlight ++ [slot]
      writes := s.tsu.writes ++ [takenWrite s.tsu.geometry slot] } }

/-- A valid slot of a queued kind other than BROADCAST is admitted where its queue has room; otherwise it is
left POSTED (R13). The EXC takes it at once where it becomes the head of an idle port (R27). -/
def State.admitTask (s : State) (w : Sweep) (k : TaskKind) (t : TaskSlot) : State :=
  let p : PortId := Fin.ofNat 24 t.port
  if (s.port p).hasRoom then
    let placed := (s.admitted w.index).addEntry p { slot := w.index, kind := k, fields := t.fields }
    (placed.serveQueue p).slotDone w
  else s.slotLeft w

/-- A valid BROADCAST is admitted into every member queue, or not at all (R14). -/
def State.admitBroadcast (s : State) (w : Sweep) (t : TaskSlot) : State :=
  let members := memberPorts t.fields s.tsu.geometry.portCount
  if members.all fun p => (s.port p).hasRoom then
    let noted := s.admitted w.index
    let assembly : Broadcast :=
      { slot := w.index, textLength := t.fields.textLength, notify := t.fields.notify,
        total := members.length, left := members.length, nDrained := 0, sent := 0, refused := 0,
        drained := 0, characters := 0, start := none, cancelled := false, fault := false }
    let begun : State :=
      { noted with tsu := { noted.tsu with broadcasts := noted.tsu.broadcasts ++ [assembly] } }
    let placed := members.foldl (fun s p =>
      s.addEntry p { slot := w.index, kind := .broadcast, fields := t.fields }) begun
    (members.foldl (fun s p => s.serveQueue p) placed).slotDone w
  else s.slotLeft w

/-! ### Immediate kinds -/

/-- A PATTERN completes with its element count, the new contents handed to the PM (R15, R109). -/
def State.completePattern (s : State) (w : Sweep) (t : TaskSlot) (start : Word)
    (contents : Option (List Element)) : State :=
  (s.setPattern (Fin.ofNat 32 t.fields.patternId) contents).completeSlot w
    { s.unbegun w.index t.fields.notify .ok with
      startTime := start
      outcomeA := BitVec.ofNat 32 (match contents with | none => 0 | some es => es.length) }

/-- A PATTERN whose text names an element kind above 4 (R15). -/
def State.refuseElements (s : State) (w : Sweep) (t : TaskSlot) (start : Word) : State :=
  s.completeSlot w
    { s.unbegun w.index t.fields.notify .badTask with startTime := start, outcomeA := 7 }

/-- A PATTERN whose text cannot be read (R15). -/
def State.patternFaults (s : State) (w : Sweep) (t : TaskSlot) (start : Word) : State :=
  s.completeSlot w { s.unbegun w.index t.fields.notify .memoryFault with startTime := start }

/-- The text of a PATTERN has been read (R15). The slot was begun when its whole slot was in hand, so it is carried
out even where STOP has been taken since (R10; DESIGN CHOICE, log 36). -/
def State.patternArrives (s : State) (w : Sweep) (t : TaskSlot) (start : Word) (bytes : List Byte) :
    State :=
  match parseElements bytes with
  | none => s.refuseElements w t start
  | some es => s.completePattern w t start (some es)

/-- A PATTERN is carried out: cleared at once, or its text is read first (R15). The TSU begins the slot, which gives
its start time, at the answer of the whole-slot read (DESIGN CHOICE, log 37). -/
def State.runPattern (s : State) (w : Sweep) (t : TaskSlot) : State :=
  if t.fields.textLength = 0 then s.completePattern w t s.partTime none
  else s.sweepStage w (.patternWanted t s.partTime)

/-- A SENSE hands its settings over and completes OK (R16, R164). -/
def State.runSense (s : State) (w : Sweep) (t : TaskSlot) : State :=
  (s.takeSenseSettings t.fields).completeSlot w
    { s.unbegun w.index t.fields.notify .ok with
      outcomeA := BitVec.ofNat 32 (senseSettings t.fields).1
      outcomeB := BitVec.ofNat 32 (senseSettings t.fields).2.1 }

/-- The ports whose queues hold a target unstarted. -/
def State.unstartedPorts (s : State) (target : Nat) : List PortId :=
  (List.finRange 24).filter fun p => (s.port p).cancelFinds target = .unstarted

/-- How many entries or shares a target was admitted with. -/
def State.sharesOf (s : State) (target : Nat) : Nat :=
  match s.tsu.broadcasts.find? fun b => b.slot = target with
  | none => 1
  | some b => b.total

/-- Outcome A of an ABORT that finds its target in flight (R17, log 23). -/
def State.abortOutcome (s : State) (target : Nat) : Word :=
  if (s.unstartedPorts target).length = s.sharesOf target then 1 else 2

/-- An ABORT is carried out: NOT_FOUND, or a cancel at every controller and OK (R17, R21). It begins and completes at
the answer of its whole-slot read (DESIGN CHOICE, log 41), and its own writes are requested ahead of those of a
target that its cancel ends at once, whose completion waits to be taken (R22, R23; DESIGN CHOICE, log 42). -/
def State.runAbort (s : State) (w : Sweep) (t : TaskSlot) : State :=
  let target := t.fields.paramA.toNat
  if s.tsu.inFlight.contains target then
    (s.forPorts fun p s => s.cancelAt p target).completeSlot w
      { s.unbegun w.index t.fields.notify .ok with outcomeA := s.abortOutcome target }
  else s.completeSlot w (s.unbegun w.index t.fields.notify .notFound)

/-! ### Slots in hand -/

/-- A valid slot is carried out or offered for admission (R13 to R17). -/
def State.carryOut (s : State) (w : Sweep) (k : TaskKind) (t : TaskSlot) : State :=
  match k with
  | .abort => s.runAbort w t
  | .pattern => s.runPattern w t
  | .sense => s.runSense w t
  | .broadcast => s.admitBroadcast w t
  | .send | .exchange | .brk | .line | .hold | .release | .watch | .thaw | .guard =>
    s.admitTask w k t

/-- The slot is validated (R11), then refused or carried out. -/
def State.validateSlot (s : State) (w : Sweep) (t : TaskSlot) : State :=
  match TaskKind.ofCode t.kindCode with
  | none => s.refuseSlot w t 1
  | some k =>
    match s.refusal k t with
    | some reason => s.refuseSlot w t reason
    | none => s.carryOut w k t

/-- What the TSU does with a whole slot in hand, by the control state: in DRAINING only ABORT (R8, R10). -/
def State.wholeSlot (s : State) (w : Sweep) (t : TaskSlot) : State :=
  if !isPosted t.stateByte then s.slotLeft w
  else if s.bus.control = .draining && TaskKind.ofCode t.kindCode ≠ some .abort then s.slotLeft w
  else s.validateSlot w t

/-- The header read of a slot is answered (R7). -/
def State.headerArrives (s : State) (w : Sweep) (bytes : List Byte) : State :=
  if isPosted (BitVec.ofNat 8 (field bytes 0 1)) then s.sweepStage w .wholeWanted
  else s.slotLeft w

/-- A sweep read of a slot ends in a read fault: FAULT, and the slot is skipped (R9). -/
def State.slotFaults (s : State) (w : Sweep) : State := (s.raise .fault).slotLeft w

/-- A sweep read is answered, or faults (none) (R7 to R9, R15). -/
def State.sweepReadEnds (s : State) (read : Nat) (bytes : Option (List Byte)) : State :=
  match s.tsu.sweep with
  | none => s
  | some w =>
    match w.stage, bytes with
    | .headerOut r, some b => if r = read then s.headerArrives w b else s
    | .headerOut r, none => if r = read then s.slotFaults w else s
    | .wholeOut r, some b => if r = read then s.wholeSlot w (TaskSlot.parse b) else s
    | .wholeOut r, none => if r = read then s.slotFaults w else s
    | .patternOut t start r, some b => if r = read then s.patternArrives w t start b else s
    | .patternOut t start r, none => if r = read then s.patternFaults w t start else s
    | .headerWanted, _ | .wholeWanted, _ | .patternWanted _ _, _ | .writing, _ => s

/-- The sweep read that waits for its grant, with the stage after it (R7, R8, R15). -/
def State.sweepRequest (s : State) : Option (Requester × Addr × Nat) :=
  match s.tsu.sweep with
  | none => none
  | some w =>
    let a := s.tsu.geometry.slotAddress w.index
    match w.stage with
    | .headerWanted => some (.slotHeader, a, 8)
    | .wholeWanted => some (.wholeSlot, a, 64)
    | .patternWanted t _ => some (.patternText, t.fields.textAddress, t.fields.textLength)
    | .headerOut _ | .wholeOut _ | .patternOut _ _ _ | .writing => none

/-- The stage of a sweep whose read has been granted under a read number. -/
def SweepStage.granted (stage : SweepStage) (read : Nat) : SweepStage :=
  match stage with
  | .headerWanted => .headerOut read
  | .wholeWanted => .wholeOut read
  | .patternWanted t start => .patternOut t start read
  | .headerOut r => .headerOut r
  | .wholeOut r => .wholeOut r
  | .patternOut t start r => .patternOut t start r
  | .writing => .writing

/-- A slot write has been issued; with the last one of the slot in hand the sweep goes on (R6). -/
def State.slotWriteIssued (s : State) : State :=
  let issued : State := { s with tsu := { s.tsu with writes := s.tsu.writes.tail } }
  match issued.tsu.sweep with
  | none => issued
  | some w =>
    if w.stage = .writing && issued.tsu.writes.isEmpty then issued.sweepOn w.requested (w.index + 1)
    else issued

/-- The TSU takes the oldest completion: its index leaves the in-flight set and its writes are requested (R3, R22,
R23). -/
def State.takeCompletion (s : State) (c : Completion) : State :=
  { s with tsu := { s.tsu with
      completions := s.tsu.completions.tail
      inFlight := s.tsu.inFlight.filter fun i => i ≠ c.slot
      writes := s.tsu.writes ++ c.writes s.tsu.geometry } }

end Sys2Proof.Machine
end

