-- ==== Sys2Proof/Machine/Hme.lean ====
section
/-! DEFINITION. The Host Memory Engine (chapter 11): the requests that wait, the arbiter's choice, the grant of
each class, and the leaving of pieces onto the link. -/

namespace Sys2Proof.Machine

/-! ### Waiting requests that can be granted -/

/-- The ports counting up from a pointer, wrapping from 23 to 0 (R172). -/
def portsFrom (pointer : PortId) : List PortId := (List.finRange 24).map fun i => pointer + i

/-- The first port from a pointer on that a test holds for (R172). -/
def firstFrom (pointer : PortId) (ok : PortId → Bool) : Option PortId :=
  (portsFrom pointer).find? ok

/-- What the arbiter grants. -/
inductive Grant
  | slotWrite (write : SlotWrite)
  | status (port : PortId)
  | sweepRead (requester : Requester) (address : Addr) (length : Nat)
  | enableRead (requester : Requester) (address : Addr) (length : Nat)
  | readMark (port : PortId)
  | text (port : PortId) (address : Addr) (length : Nat)
  | capture (port : PortId)
deriving DecidableEq, Repr

/-- The TSU's slot write that can be granted (R167). -/
def State.slotWriteGrant (s : State) : Option Grant :=
  match s.tsu.writes with
  | [] => none
  | w :: _ => if s.writeFits w.address w.bytes.length then some (.slotWrite w) else none

/-- A port's status write can be granted (R167). -/
def State.statusReady (s : State) (p : PortId) : Bool :=
  (s.port p).status.request.isSome && s.writeFits (statusAddress s.bus.anchor p) 64

/-- The status write that can be granted (R172). -/
def State.statusGrant (s : State) : Option Grant :=
  (firstFrom s.hme.statusPointer s.statusReady).map .status

/-- The read of an enable that waits for its grant (R178). -/
def State.enableRequest (s : State) : Option (Requester × Addr × Nat) :=
  match s.bus.enabling with
  | none => none
  | some e =>
    match e.stage with
    | .headerWanted => some (.anchorHeader, e.anchor, 64)
    | .descriptorsWanted h => some (.descriptors, addrPlus e.anchor 64, 16 * h.portCount)
    | .headerOut _ | .descriptorsOut _ _ => none

/-- A read, if it can be granted (R168). -/
def State.readGrant (s : State) (make : Requester → Addr → Nat → Grant) :
    Option (Requester × Addr × Nat) → Option Grant
  | none => none
  | some (requester, a, n) => if s.readFits a n then some (make requester a n) else none

/-- A port's read-mark fetch can be granted (R140). -/
def State.readMarkReady (s : State) (p : PortId) : Bool :=
  (s.port p).ca.fetch = .wanted && s.readFits (readMarkAddress s.bus.anchor p) 4

/-- A port's text fetch can be granted (R83). -/
def State.textReady (s : State) (p : PortId) : Bool :=
  match (s.port p).textRequest with
  | none => false
  | some (a, n) => s.readFits a n

/-- The text fetch of a port as a grant. -/
def State.textGrant (s : State) (p : PortId) : Option Grant :=
  (s.port p).textRequest.map fun r => .text p r.1 r.2

/-- The record that a port's CA may issue: the first of a unit that has passed its test (R131). -/
def Capture.issuable (ca : Capture) : Option UnitRecord :=
  match ca.inHand with
  | none => none
  | some u => if u.passed then u.records.head? else none

/-- The address of the record that begins at W (R124). -/
def Capture.recordAddress (ca : Capture) : Addr :=
  addrPlus ca.areaAddress (ca.writePosition.toNat % ca.areaSize)

/-- The bytes of a port's next record as it would be issued now (R126). -/
def State.recordBytes (s : State) (p : PortId) (r : UnitRecord) : List Byte :=
  r.bytes s.partTime (s.port p).slu.receiveCount

/-- A port's capture write can be granted (R131). -/
def State.captureReady (s : State) (p : PortId) : Bool :=
  match (s.port p).ca.issuable with
  | none => false
  | some r => s.writeFits (s.port p).ca.recordAddress (s.recordBytes p r).length

/-! ### The arbiter -/

/-- Class 1: the TSU and the status writer by turns (R172). -/
def State.classOne (s : State) : Option Grant :=
  if s.hme.tsuTurn then s.slotWriteGrant <|> s.statusGrant
  else s.statusGrant <|> s.slotWriteGrant

/-- Class 2: the sweep's read, or the enable's (R172). -/
def State.classTwo (s : State) : Option Grant :=
  s.readGrant .sweepRead s.sweepRequest <|> s.readGrant .enableRead s.enableRequest

/-- Classes 3, 4 and 5: the first port from each pointer (R172). -/
def State.classThree (s : State) : Option Grant :=
  (firstFrom s.hme.markPointer s.readMarkReady).map .readMark

def State.classFour (s : State) : Option Grant :=
  (firstFrom s.hme.textPointer s.textReady).bind s.textGrant

def State.classFive (s : State) : Option Grant :=
  (firstFrom s.hme.capturePointer s.captureReady).map .capture

/-- The request that the arbiter chooses: the lowest class that holds a grantable one (R172). -/
def State.chosenGrant (s : State) : Option Grant :=
  s.classOne <|> s.classTwo <|> s.classThree <|> s.classFour <|> s.classFive

/-! ### Grants -/

/-- A status write is issued: the whole record as it stands, the flag cleared (R146). -/
def State.issueStatus (s : State) (p : PortId) : State :=
  let v := s.port p
  let granted := s.grantWrite (statusAddress s.bus.anchor p) v.published.bytes false
  let turned : State :=
    { granted with hme := { granted.hme with statusPointer := p + 1, tsuTurn := true } }
  turned.setPort p
    { v with status := { v.status with
        changed := false
        lastWrite := some s.partTime
        request := none
        finalIssued := v.status.finalIssued || v.status.request = some true } }

/-- A slot write is issued (R23, R172). -/
def State.issueSlotWrite (s : State) (w : SlotWrite) : State :=
  let granted := s.grantWrite w.address w.bytes w.raisesTask
  ({ granted with hme := { granted.hme with tsuTurn := false } } : State).slotWriteIssued

/-- A sweep read is issued (R7, R8, R15). -/
def State.issueSweepRead (s : State) (requester : Requester) (a : Addr) (n : Nat) : State :=
  match s.tsu.sweep with
  | none => s
  | some w => (s.grantRead requester a n).sweepStage w (w.stage.granted s.hme.nextRead)

/-- The stage of an enable whose read has been granted (R178). -/
def EnableStage.granted (stage : EnableStage) (read : Nat) : EnableStage :=
  match stage with
  | .headerWanted => .headerOut read
  | .descriptorsWanted h => .descriptorsOut h read
  | .headerOut r => .headerOut r
  | .descriptorsOut h r => .descriptorsOut h r

/-- An enable read is issued (R178). -/
def State.issueEnableRead (s : State) (requester : Requester) (a : Addr) (n : Nat) : State :=
  let granted := s.grantRead requester a n
  { granted with bus := { granted.bus with
      enabling := s.bus.enabling.map fun e =>
        { e with stage := e.stage.granted s.hme.nextRead } } }

/-- A read-mark fetch is issued (R140, R142). -/
def State.issueReadMark (s : State) (p : PortId) : State :=
  let granted := s.grantRead (.readMark p) (readMarkAddress s.bus.anchor p) 4
  let turned : State := { granted with hme := { granted.hme with markPointer := p + 1 } }
  turned.modPort p fun v =>
    { v with ca := { v.ca with
        fetch := .outstanding s.hme.nextRead
        lastFetch := some s.partTime } }

/-- A text fetch is issued: the offset goes on by its length (R83). -/
def State.issueText (s : State) (p : PortId) (a : Addr) (n : Nat) : State :=
  let granted := s.grantRead (.text p) a n
  let turned : State := { granted with hme := { granted.hme with textPointer := p + 1 } }
  turned.modPort p fun v =>
    { v with slu := { v.slu with
        fetchOffset := v.slu.fetchOffset + n
        textRead := some s.hme.nextRead } }

/-- A record is a GAP. -/
def UnitRecord.isGap : UnitRecord → Bool
  | .gap _ => true
  | .pad _ | .record _ => false

/-- The CA after the issue of a record: W goes on, an issued GAP clears the gap, and the rest of the unit stays
in hand (R131, R138). -/
def Capture.issued (ca : Capture) (r : UnitRecord) : Capture :=
  { ca with
    writePosition := ca.writePosition + BitVec.ofNat 32 r.size
    gap := if r.isGap then none else ca.gap
    inHand := match ca.inHand with
      | none => none
      | some u => if u.records.tail.isEmpty then none else some { u with records := u.records.tail } }

/-- A capture record is issued; with the last one of its unit the agenda goes on (R131). -/
def State.issueCapture (s : State) (p : PortId) : State :=
  match (s.port p).ca.issuable with
  | none => s
  | some r =>
    let granted := s.grantWrite (s.port p).ca.recordAddress (s.recordBytes p r) false
    let turned : State := { granted with hme := { granted.hme with capturePointer := p + 1 } }
    let issued := turned.modPort p fun v => { v with ca := v.ca.issued r }
    if (issued.port p).ca.inHand.isNone then issued.resumeAgenda p else issued

/-- A grant is carried out (R168, R172). -/
def State.carryGrant (s : State) : Grant → State
  | .slotWrite w => s.issueSlotWrite w
  | .status p => s.issueStatus p
  | .sweepRead r a n => s.issueSweepRead r a n
  | .enableRead r a n => s.issueEnableRead r a n
  | .readMark p => s.issueReadMark p
  | .text p a n => s.issueText p a n
  | .capture p => s.issueCapture p

/-- One grant, if bus mastering is enabled and a request can be granted (R172, R173). -/
def State.grantOne (s : State) : State :=
  if s.hme.busMaster then
    match s.chosenGrant with
    | none => s
    | some g => s.carryGrant g
  else s

/-! ### Leaving -/

/-- The front of the grant order has left onto the link, and the messages behind it with it (R169, R175). -/
def State.frontLeft (s : State) (item : LinkItem) (rest : List LinkItem) : State :=
  { s with hme := Hme.flush { s.hme with outgoing := rest, sent := item :: s.hme.sent } }

/-- The oldest write piece leaves; a DONE of a NOTIFY slot raises TASK (R23, R169). Where a read is in front it
must leave first. -/
def State.writeLeaves (s : State) : State :=
  if s.hme.busMaster then
    match s.hme.outgoing with
    | .write piece :: rest =>
      let left := s.frontLeft (.write piece) rest
      if piece.raisesTask then left.raise .task else left
    | .read _ _ _ :: _ | .message :: _ | [] => s
  else s

/-- The read table with a piece gone onto the link, its timeout armed (R170, R171). -/
def markLeft (tag : Nat) (timer : Timer) (reads : List ReadEntry) : List ReadEntry :=
  reads.map fun e => if e.tag = tag then { e with left := true, timer := some timer } else e

/-- The read piece at the front of the grant order leaves, its timeout armed (R170, R171). -/
def State.readLeaves (s : State) : State :=
  if s.hme.busMaster then
    match s.hme.outgoing with
    | .read tag a n :: rest =>
      let left := s.frontLeft (.read tag a n) rest
      { left with hme :=
        { left.hme with reads := markLeft tag (s.arm Config.readTimeoutMs) left.hme.reads } }
    | .write _ :: _ | .message :: _ | [] => s
  else s

/-- The HME after a soft reset: granted pieces that have not left are dropped, reads that have left are
discarded, pointers and turn return to their reset values (R173, log 14); answered pieces are freed (log 44). -/
def Hme.afterReset (h : Hme) : Hme :=
  Hme.flush
    { h with
      outgoing := h.outgoing.filter fun i => i = .message
      reads := (h.reads.filter fun e => e.left && e.data.isNone).map fun e =>
        { e with discarded := true }
      statusPointer := 0
      markPointer := 0
      textPointer := 0
      capturePointer := 0
      tsuTurn := true }

end Sys2Proof.Machine
end

