-- ==== Sys2Proof/Machine/Control.lean ====
section
/-! DEFINITION. The Bus Port (chapter 12): the enable and its checks, the drain and the entry to STOPPED, the two
resets, the register window, and the writes to the attention registers (R174, R175). -/

namespace Sys2Proof.Machine

/-! ### Drain and stop (R181, R182) -/

/-- Every line queue is empty. -/
def State.queuesEmpty (s : State) : Bool := (List.finRange 24).all fun p => (s.port p).queue.isEmpty

/-- Every CA in use has reported itself settled (R143). -/
def State.allSettled (s : State) : Bool :=
  (List.finRange 24).all fun p => !s.inUse p || (s.port p).status.finalIssued

/-- The conditions of entry to STOPPED hold together: every queue empty (R49), and those of R182. -/
def State.drainDone (s : State) : Bool :=
  s.queuesEmpty && s.allSettled && s.tsu.sweep.isNone && s.tsu.completions.isEmpty && s.tsu.writes.isEmpty
    && s.hme.queuedWrites = 0

/-- Each CA in use is handed its settle request (R143, R182). -/
def State.handSettle (s : State) : State :=
  let handed := s.forPorts fun p s => s.handItem p .settle
  { handed with bus := { handed.bus with settleHanded := true } }

/-- Entry to STOPPED: every hold is cleared without notice, the sweep timer is disarmed, STOPPED is raised
(R59, R182). The transmitters are FREE throughout STOPPED (R81), so a gap or pause still running ends here. DEDUCED,
log 35: unsafe in small. -/
def State.enterStopped (s : State) : State :=
  let stopped : State :=
    { s with
      bus := { s.bus with control := .stopped, settleHanded := false }
      tsu := { s.tsu with timer := none } }
  (stopped.modPorts fun _ v => { v with hold := Hold.clear, slu := { v.slu with tx := .free } }).raise .stopped

/-- The settle point, where it is reached. -/
def State.watchSettle (s : State) : State :=
  if s.queuesEmpty && !s.bus.settleHanded then s.handSettle else s

/-- In DRAINING the Bus Port watches for the settle point and for the entry to STOPPED (R182). -/
def State.watchDrain (s : State) : State :=
  if s.bus.control = .draining then
    if s.watchSettle.drainDone then s.watchSettle.enterStopped else s.watchSettle
  else s

/-- The control state becomes DRAINING (R181). -/
def State.draining (s : State) : State := { s with bus := { s.bus with control := .draining } }

/-- STOP taken in RUNNING; ignored elsewhere (R177, R181). -/
def State.stopCommand (s : State) : State :=
  if s.bus.control = .running then
    let drained := s.draining.forPorts fun p s => s.drainPort p
    (drained.forPorts fun p s => s.handItem p (.close [])).watchDrain
  else s

/-! ### Enable (R178 to R180) -/

/-- The address in the anchor registers (R187). -/
def BusPort.anchorAddress (b : BusPort) : Addr := b.anchorHi ++ b.anchorLo

/-- A check of an enable fails: its code, ANCHOR, and nothing else (R178). -/
def State.failEnable (s : State) (code : AnchorError) : State :=
  ({ s with bus := { s.bus with anchorError := code, enabling := none } } : State).raise .anchor

/-- An enable goes on to a read. -/
def State.enableAt (s : State) (anchor : Addr) (stage : EnableStage) : State :=
  { s with bus := { s.bus with enabling := some { anchor := anchor, stage := stage } } }

/-- The control state is one in which ENABLE and the anchor registers act (R177, R185). -/
def State.atRest (s : State) : Bool := s.bus.control = .off || s.bus.control = .stopped

/-- ENABLE taken in OFF or STOPPED; ignored elsewhere and while an enable is in progress (R177, R178). -/
def State.enableCommand (s : State) : State :=
  if s.atRest && s.bus.enabling.isNone then
    if addrAligned s.bus.anchorAddress 4096 then s.enableAt s.bus.anchorAddress .headerWanted
    else s.failEnable .align
  else s

/-- A port that an enable leaves unused (R165, R180); an interval of SPACE in progress is no longer measured (R106). -/
def Port.leaveUse (v : Port) : Port :=
  { v with
    slu := { v.slu with fifo := [] }
    rf := { v.rf with interval := none }
    ca := { v.ca with
      openData := none, openTx := none, txTaken := false, lossRuns := [], runGrows := false
      events := [], agenda := [], inHand := none, gap := none, fetch := .idle }
    sense := PortSense.reset }

/-- A port in use at an enable; `heard` says that its Rate Finder was measuring before (R106, R144, R146, R154,
R180, log 33). -/
def Port.enterUse (v : Port) (d : Descriptor) (heard : Bool) : Port :=
  { v with
    rf := if heard then v.rf else { v.rf with samples := [], interval := none }
    ca := v.ca.takeUp d
    freeze := v.freeze.atEnable (CaptureMode.ofCode d.modeCode)
    status := { v.status with changed := true, request := none, finalIssued := false } }

/-- A sense sweep in progress, where its port is still converted at a new scan port count (R165, log 39). -/
def Scanner.sweepBelow (c : Scanner) (ports : Nat) : Option SenseSweep :=
  c.sweep.filter fun w => w.port < ports

/-- What a successful enable hands to the Bus Port, the TSU and the LSS (R165, R179). -/
def State.latchEnable (s : State) (anchor : Addr) (h : AnchorHeader) : State :=
  { s with
    bus := { s.bus with
      control := .running, anchorError := .noError, anchor := anchor, enabling := none
      settleHanded := false }
    tsu := { s.tsu with geometry := h.geometry }
    scanner := { s.scanner with
      scanPorts := h.portCount, sweep := s.scanner.sweepBelow h.portCount } }

/-- The ports at a successful enable, before any mark is written; `s` is the part as it was before (R179, R180). -/
def State.portsAtEnable (s : State) (h : AnchorHeader) (descriptors : List Byte) (p : PortId) (v : Port) :
    Port :=
  if p.val < h.portCount then v.enterUse (Descriptor.parse descriptors p.val) (s.listening p)
  else v.leaveUse

/-- The sweep timer and a pending request at the entry to RUNNING (R5, R179). -/
def State.startSweeping (s : State) : State :=
  if s.tsu.pendingRequest then s.sweepIdle.startSweep true else s.sweepIdle

/-- A successful enable, as one event (R179). -/
def State.succeedEnable (s : State) (anchor : Addr) (h : AnchorHeader) (descriptors : List Byte) : State :=
  let taken := (s.latchEnable anchor h).modPorts (s.portsAtEnable h descriptors)
  (taken.forPorts fun p s => if s.inUse p then s.markEnabled p else s).startSweeping

/-- The anchor header has been read: checks 3 to 7, then the descriptors (R178). -/
def State.anchorArrives (s : State) (anchor : Addr) (bytes : List Byte) : State :=
  match (AnchorHeader.parse bytes).check with
  | some code => s.failEnable code
  | none => s.enableAt anchor (.descriptorsWanted (AnchorHeader.parse bytes))

/-- Check 9 of an enable, over every in-use port (R178). -/
def descriptorsOk (h : AnchorHeader) (bytes : List Byte) : Bool :=
  (List.range h.portCount).all fun n => (Descriptor.parse bytes n).ok

/-- The descriptors have been read: check 9, then success (R178, R179). -/
def State.descriptorsArrive (s : State) (anchor : Addr) (h : AnchorHeader) (bytes : List Byte) : State :=
  if descriptorsOk h bytes then s.succeedEnable anchor h bytes else s.failEnable .capture

/-- An enable read is answered, or faults (none) (R178). -/
def State.enableReadEnds (s : State) (read : Nat) (bytes : Option (List Byte)) : State :=
  match s.bus.enabling with
  | none => s
  | some e =>
    match e.stage, bytes with
    | .headerOut r, some b => if r = read then s.anchorArrives e.anchor b else s
    | .headerOut r, none => if r = read then s.failEnable .readFault else s
    | .descriptorsOut h r, some b => if r = read then s.descriptorsArrive e.anchor h b else s
    | .descriptorsOut _ r, none => if r = read then s.failEnable .readFault else s
    | .headerWanted, _ | .descriptorsWanted _, _ => s

/-! ### Resets (R183, R184) -/

/-- A port's items of the scanner after a soft reset: the level is kept (R166). -/
def PortSense.afterReset (v : PortSense) : PortSense := { PortSense.reset with level := v.level }

/-- The status writer after a soft reset: the last write time is kept (R146, R176). -/
def StatusWriter.afterReset (v : StatusWriter) : StatusWriter :=
  { StatusWriter.reset with lastWrite := v.lastWrite }

/-- A port after a soft reset, each block by its own rule (R183); `free` is the line's level inside a character. -/
def Port.afterReset (v : Port) (free : Bool) : Port :=
  { queue := []
    exc := Exc.idle
    hold := Hold.clear
    guard := v.guard
    slu := v.slu.afterReset free (v.slu.line.mode = .auto)
    rf := v.rf.afterReset v.slu.line.mode
    pm := v.pm.afterReset
    ca := v.ca.afterReset
    freeze := v.freeze.afterReset
    sense := v.sense.afterReset
    status := v.status.afterReset }

/-- The TSU after either reset: the geometry stands (R1, R24). -/
def Tsu.afterReset (t : Tsu) : Tsu := { Tsu.reset with geometry := t.geometry }

/-- The scanner after a soft reset: the settings stand (R166). -/
def Scanner.afterReset (c : Scanner) : Scanner :=
  { c with timer := none, sweep := none, firstDue := true }

/-- The Bus Port after a soft reset: the anchor registers and the anchor error stand (R177, R183). -/
def BusPort.afterReset (b : BusPort) : BusPort :=
  { b with control := .off, enabling := none, settleHanded := false }

/-- A soft reset (R183). -/
def State.softReset (s : State) : State :=
  { s with
    bus := s.bus.afterReset
    attention := 0
    hme := s.hme.afterReset
    tsu := s.tsu.afterReset
    scanner := s.scanner.afterReset
    ports := Vector.ofFn fun p => (s.port p).afterReset (s.freeLevel p)
    freeCount := s.freeCount + 1 }

/-- A port after a hard reset: its receive line is where the device holds it (R94, log 26), and its CA keeps area
and mode (R124, R145). -/
def Port.afterHardReset (v : Port) (free : Bool) : Port :=
  let mark := v.slu.levelNow free
  { Port.reset with
    slu := { Slu.reset with rx := receiverAt mark, lineMark := mark }
    ca := v.ca.afterReset }

/-- The Bus Port after a hard reset: the registers are cleared (R184), the address that the last enable latched
stands with its geometry (R178, log 9). -/
def BusPort.afterHardReset (b : BusPort) : BusPort := { BusPort.reset with anchor := b.anchor }

/-- A hard reset: every block at its reset values (R184). What the last enable latched stands until the next one
(R1, R24, R124). Interrupt messages that wait in the grant order are dropped with the pieces (R173; DESIGN CHOICE, log
45). The commands that wait, what has left on the link, the levels of the receive lines and the counter of free values
are not the part's (log 26). -/
def State.hardReset (s : State) : State :=
  { State.reset with
    pending := s.pending
    bus := s.bus.afterHardReset
    hme := { Hme.reset with sent := s.hme.sent }
    tsu := s.tsu.afterReset
    ports := Vector.ofFn fun p => (s.port p).afterHardReset (s.freeLevel p)
    freeCount := s.freeCount + 1 }

/-! ### Attention registers (R174, R175) -/

/-- A message falls due where a write leaves the live set non-empty (R175). -/
def State.messageIfLive (s : State) : State := if s.liveSet ≠ 0 then s.sendMessage else s

/-- A write to ATTENTION clears each cause written as 1 (R174, R175). -/
def State.writeAttention (s : State) (value : Word) : State :=
  ({ s with attention := s.attention &&& ~~~value.setWidth 10 } : State).messageIfLive

/-- A write to ATTN_ENABLE replaces the enabled causes (R174, R175). -/
def State.writeAttnEnable (s : State) (value : Word) : State :=
  ({ s with attnEnable := value.setWidth 10 } : State).messageIfLive

/-- A write to ATTN_FORCE raises each cause written as 1 (R174). -/
def State.writeAttnForce (s : State) (value : Word) : State := s.raiseBits (value.setWidth 10)

/-! ### The register window (R177, R185, R187) -/

/-- A write to CONTROL, as one event: SOFT_RESET alone, or ENABLE or STOP and then SWEEP (R177). -/
def State.writeControl (s : State) (value : Word) : State :=
  if value.getLsbD 3 then s.softReset
  else
    let enabled := if value.getLsbD 0 then s.enableCommand else s
    let stopped := if value.getLsbD 1 then enabled.stopCommand else enabled
    if value.getLsbD 2 then stopped.requestSweep else stopped

/-- A write to ANCHOR_LO in OFF and STOPPED (R185). -/
def State.writeAnchorLo (s : State) (value : Word) : State :=
  if s.atRest then { s with bus := { s.bus with anchorLo := value } } else s

/-- A write to ANCHOR_HI in OFF and STOPPED (R185). -/
def State.writeAnchorHi (s : State) (value : Word) : State :=
  if s.atRest then { s with bus := { s.bus with anchorHi := value } } else s

/-- A write of `bytes` bytes to a register; a narrow one is ignored (R185). -/
def State.writeRegister (s : State) (reg : Register) (bytes : Nat) (value : Word) : State :=
  if bytes < 4 then s
  else
    match reg with
    | .ident | .status => s
    | .control => s.writeControl value
    | .anchorLo => s.writeAnchorLo value
    | .anchorHi => s.writeAnchorHi value
    | .attention => s.writeAttention value
    | .attnEnable => s.writeAttnEnable value
    | .attnForce => s.writeAttnForce value

/-- The offset of a register in the window (R187). -/
def Register.offset : Register → Nat
  | .ident => 0x00
  | .control => 0x04
  | .status => 0x08
  | .anchorLo => 0x0C
  | .anchorHi => 0x10
  | .attention => 0x14
  | .attnEnable => 0x18
  | .attnForce => 0x1C

/-- The SWEEP bit of CONTROL as it reads (R6). -/
def Tsu.sweepBit (t : Tsu) : Bool :=
  t.pendingRequest || (match t.sweep with | none => false | some w => w.requested)

/-- STATUS as it reads (R187). -/
def State.statusWord (s : State) : Word :=
  BitVec.ofNat 32
    (s.bus.control.code + 16 * s.bus.anchorError.code + (if s.tsu.sweep.isSome then 256 else 0))

/-- What a register reads as; reads change no state (R185, R187). -/
def State.readRegister (s : State) : Register → Word
  | .ident => 0x18124C7A
  | .control => if s.tsu.sweepBit then 4 else 0
  | .status => s.statusWord
  | .anchorLo => s.bus.anchorLo
  | .anchorHi => s.bus.anchorHi
  | .attention => s.attention.setWidth 32
  | .attnEnable => s.attnEnable.setWidth 32
  | .attnForce => s.attention.setWidth 32

/-- The bytes that a narrow read names of a register (R185). -/
def State.readNarrow (s : State) (reg : Register) (first count : Nat) : List Byte :=
  ((leBytes 4 (s.readRegister reg).toNat).drop first).take count

end Sys2Proof.Machine
end

