-- ==== Sys2Proof/Machine/Reads.lean ====
section
/-! DEFINITION. Answers, faults and timeouts of read pieces (R170, R171), and the report of a whole read to its
requester. -/

namespace Sys2Proof.Machine

/-! ### Reports to requesters -/

/-- A read-mark fetch is answered, or faults (none): R is taken, or kept with FAULT raised, and the unit is
tested again (R140, R142). -/
def State.readMarkEnds (s : State) (p : PortId) (read : Nat) (bytes : Option (List Byte)) : State :=
  if (s.port p).ca.fetch = .outstanding read then
    match bytes with
    | some b =>
      (s.modPort p fun v => { v with ca := v.ca.takeReadMark (BitVec.ofNat 32 (leNat b)) }).retestUnit p
    | none =>
      ((s.modPort p fun v => { v with ca := { v.ca with fetch := .idle } }).raise .fault).retestUnit p
  else s

/-- A text read is answered, or faults (none) (R83, R84). -/
def State.textEnds (s : State) (p : PortId) (read : Nat) (bytes : Option (List Byte)) : State :=
  match bytes with
  | some b => s.textArrives p read b
  | none => s.textFaults p read

/-- A whole read goes to its requester: its bytes, or a read fault (none) (R170, R171). -/
def State.readEnds (s : State) (requester : Requester) (read : Nat) (bytes : Option (List Byte)) :
    State :=
  match requester with
  | .slotHeader | .wholeSlot | .patternText => s.sweepReadEnds read bytes
  | .anchorHeader | .descriptors => s.enableReadEnds read bytes
  | .readMark p => s.readMarkEnds p read bytes
  | .text p => s.textEnds p read bytes

/-! ### The outstanding read table -/

/-- The entry of a read piece that waits for its answer: it has left, and it has not been answered (R170). -/
def Hme.awaiting (h : Hme) (tag : Nat) : Option ReadEntry :=
  h.reads.find? fun e => e.tag = tag && e.left && e.data.isNone

/-- The part with a new read table. -/
def State.withReads (s : State) (reads : List ReadEntry) : State :=
  { s with hme := { s.hme with reads := reads } }

/-- The table without a piece's entry. -/
def dropEntry (tag : Nat) (reads : List ReadEntry) : List ReadEntry :=
  reads.filter fun e => e.tag ≠ tag

/-- The table with a piece's answer kept (R170). -/
def storeAnswer (tag : Nat) (bytes : List Byte) (reads : List ReadEntry) : List ReadEntry :=
  reads.map fun e => if e.tag = tag then { e with data := some bytes } else e

/-- The pieces of a read, in address order, which is the order they were entered in (R168, R170). -/
def piecesOfRead (read : Nat) (reads : List ReadEntry) : List ReadEntry :=
  reads.filter fun e => e.read = read

/-- The bytes of a read whose pieces have all been answered (R170). -/
def joinAnswers : List ReadEntry → List Byte
  | [] => []
  | e :: rest => e.data.getD [] ++ joinAnswers rest

/-- A piece of a read that is wanted has been answered: the last one hands the whole read over (R170). -/
def State.pieceAnswered (s : State) (e : ReadEntry) (bytes : List Byte) : State :=
  let stored := storeAnswer e.tag bytes s.hme.reads
  if (piecesOfRead e.read stored).all fun x => x.data.isSome then
    (s.withReads (stored.filter fun x => x.read ≠ e.read)).readEnds e.requester e.read
      (some (joinAnswers (piecesOfRead e.read stored)))
  else s.withReads stored

/-- A piece of a read that is wanted faults: its entry is freed, the read's other pieces are discarded, and the
read fault is reported at once (R171). -/
def State.pieceFaulted (s : State) (e : ReadEntry) : State :=
  (s.withReads (discardEntries e.read (dropEntry e.tag s.hme.reads))).readEnds e.requester e.read none

/-- An answer is one to this piece: an error, or as many bytes as the piece asked for (log 12). -/
def ReadEntry.fits (e : ReadEntry) (answer : Option (List Byte)) : Bool :=
  match answer with
  | none => true
  | some bytes => bytes.length = e.length

/-- A read piece ends: with its bytes, or in a fault (none). A discarded one is freed on its own and its
answer dropped (R170, R171; DESIGN CHOICE, log 44). -/
def State.pieceEnds (s : State) (e : ReadEntry) (answer : Option (List Byte)) : State :=
  if e.discarded then s.withReads (dropEntry e.tag s.hme.reads)
  else
    match answer with
    | some bytes => s.pieceAnswered e bytes
    | none => s.pieceFaulted e

/-- The answer to a read piece has arrived; one that matches no entry is dropped (R170, R171). -/
def State.answerPiece (s : State) (tag : Nat) (answer : Option (List Byte)) : State :=
  match s.hme.awaiting tag with
  | none => s
  | some e => if e.fits answer then s.pieceEnds e answer else s

/-- The timeout of a read piece has expired (R171). -/
def State.timeOutPiece (s : State) (tag : Nat) : State :=
  match s.hme.awaiting tag with
  | none => s
  | some e => if s.expired e.timer then s.pieceEnds e none else s

end Sys2Proof.Machine
end

