-- ==== Sys2Proof/Machine/CaptureCommands.lean ====
section
/-! DEFINITION. The meanings of the Capture Assembler's, the status writer's and the Line Sense Scanner's events
(R128, R146, R157 to R162). -/

namespace Sys2Proof.Machine

/-- The CA meets its next input, once no record is in hand (R128). In OFF, and on a port not in use, it meets
none (R145, R180). -/
def State.meetNext (s : State) (p : PortId) : State :=
  if s.listening p && (s.port p).ca.ready then
    match (s.port p).nextInput with
    | none => s
    | some input => s.meetInput p input
  else s

/-- CA_MEET_INPUT (R128). -/
def execCaMeetInput (p : PortId) (s : State) : Host.Outcome State Fault Refusal := .next (s.meetNext p)

/-- The final status write of a drain is due: settled, and no unit in hand (R143). -/
def Port.finalDue (v : Port) : Bool := v.ca.settled && v.ca.ready

/-- The status writer may ask for a write of a port's record (R143, R146). -/
def State.statusDue (s : State) (p : PortId) : Bool :=
  let v := s.port p
  s.active && s.inUse p && !v.status.finalIssued && v.status.request.isNone
    && v.status.lastWrite ≠ some s.partTime && (v.status.changed || v.finalDue)

/-- The status writer asks for a write, marked where it is the final one (R146, log 25). -/
def State.requestStatus (s : State) (p : PortId) : State :=
  if s.statusDue p then
    let v := s.port p
    s.setPort p { v with status := { v.status with request := some v.finalDue } }
  else s

/-- STATUS_WRITE_ISSUE (R146). -/
def execStatusWriteIssue (p : PortId) (s : State) : Host.Outcome State Fault Refusal :=
  .next (s.requestStatus p)

/-- The sense interval timer expires: a sense sweep begins (R157, log 32). -/
def State.senseExpires (s : State) : State :=
  if s.scanner.sweep.isNone && s.expired s.scanner.timer then s.startSenseSweep else s

/-- SENSE_INTERVAL_EXPIRY (R157). -/
def execSenseIntervalExpiry (s : State) : Host.Outcome State Fault Refusal := .next s.senseExpires

/-- The tick at which the conversion in progress completes (R157). -/
def SenseSweep.sampleTick (w : SenseSweep) : Nat := w.startTick + (w.port + 1) * Config.conversionTicks

/-- The sense sweep after a conversion: the next port by the scan port count as it stands, or none (R157). A sweep
that runs on while an enable raises the count goes on to the new ports (DESIGN CHOICE, log 39). -/
def Scanner.nextPort (c : Scanner) (w : SenseSweep) : Option SenseSweep :=
  if w.port + 1 < c.scanPorts then some { w with port := w.port + 1 } else none

/-- The conversion in progress completes: its sample is taken up, but for a port that an enable has left
unconverted (R157, R165). -/
def State.conversionDone (s : State) (w : SenseSweep) (code : BitVec 12) : State :=
  let sampled := if w.port < s.scanner.scanPorts then s.takeSample (Fin.ofNat 24 w.port) code else s
  { sampled with scanner := { sampled.scanner with sweep := s.scanner.nextPort w } }

/-- A conversion completes (R157 to R162). -/
def State.sampleDone (s : State) (code : BitVec 12) : State :=
  match s.scanner.sweep with
  | none => s
  | some w =>
    if s.endsNow w.sampleTick then (s.reachTick w.sampleTick).conversionDone w code else s

/-- SENSE_SAMPLE_DONE (R160). -/
def execSenseSampleDone (code : BitVec 12) (s : State) : Host.Outcome State Fault Refusal :=
  .next (s.sampleDone code).watchDrain

end Sys2Proof.Machine
end

