-- ==== Sys2Proof/Machine/HostCommands.lean ====
section
/-! DEFINITION. The meanings of the processor's commands: the bits of CONTROL, the other registers, the hard
reset and the configuration writes of the link (R173 to R185). -/

namespace Sys2Proof.Machine

/-- ENABLE (R178): the ENABLE bit of a CONTROL write. -/
def execEnable (s : State) : Host.Outcome State Fault Refusal := .next s.enableCommand

/-- STOP (R181): the STOP bit of a CONTROL write. -/
def execStop (s : State) : Host.Outcome State Fault Refusal := .next s.stopCommand

/-- SWEEP (R4): the SWEEP bit of a CONTROL write. -/
def execSweep (s : State) : Host.Outcome State Fault Refusal := .next s.requestSweep

/-- SOFT_RESET (R183): the SOFT_RESET bit of a CONTROL write. -/
def execSoftReset (s : State) : Host.Outcome State Fault Refusal := .next s.softReset

/-- ATTENTION_WRITE (R174, R175). -/
def execAttentionWrite (value : Word) (s : State) : Host.Outcome State Fault Refusal :=
  .next (s.writeAttention value)

/-- ATTN_ENABLE_WRITE (R174, R175). -/
def execAttnEnableWrite (value : Word) (s : State) : Host.Outcome State Fault Refusal :=
  .next (s.writeAttnEnable value)

/-- ATTN_FORCE_WRITE (R174). -/
def execAttnForceWrite (value : Word) (s : State) : Host.Outcome State Fault Refusal :=
  .next (s.writeAttnForce value)

/-- REGISTER_WRITE (R185): any write to the register window, narrow ones included (log 31). -/
def execRegisterWrite (reg : Register) (bytes : Nat) (value : Word) (s : State) :
    Host.Outcome State Fault Refusal :=
  .next (s.writeRegister reg bytes value)

/-- HARD_RESET (R184). -/
def execHardReset (s : State) : Host.Outcome State Fault Refusal := .next s.hardReset

/-- New settings of bus mastering enable and message enable; grants and messages go on where they stood (R173,
log 16). -/
def State.configure (s : State) (busMaster message : Bool) : State :=
  { s with hme := Hme.flush { s.hme with busMaster := busMaster, message := message } }

/-- BUS_MASTER_CONFIG_CHANGE (R173). -/
def execBusMasterConfigChange (busMaster message : Bool) (s : State) :
    Host.Outcome State Fault Refusal :=
  .next (s.configure busMaster message)

end Sys2Proof.Machine
end

