-- ==== Sys2Proof/Machine/LineCommands.lean ====
section
/-! DEFINITION. The meanings of the events of the console lines: the transmitter's intervals and breaks (R72 to R75,
R81 to R84, R40), and the receiver's edges, bytes, breaks and quiet time (R77, R85 to R88, R97). An interval's end
is taken only when it lies within the current part-time value (log 4). -/

namespace Sys2Proof.Machine

/-! ### The transmitter -/

/-- A character end is counted and logged, and the transmitter goes on to its gap, its pause or FREE (R72, R81,
R82). -/
def State.countCharacter (s : State) (p : PortId) (c : TxCharacter) : State :=
  let logged := match (s.port p).queue with
    | [] => s
    | e :: _ => if e.fields.logTx then s.logTxByte p e.slot c.byte c.startTime else s
  logged.modPort p fun v =>
    { v with
      slu := { v.slu with tx := s.afterCharacter v.slu.line c.pauseFollows }
      exc := { v.exc with bytesSent := v.exc.bytesSent + 1 } }

/-- The last character of a text has ended: the sending ends (R32, R135). -/
def State.textSent (s : State) (p : PortId) : State :=
  let closed := s.closeTx p
  match (s.port p).queue with
  | [] => closed
  | e :: _ => if e.kind = .exchange then closed.enterAwaiting p e.fields else closed.endTask p (endWith .ok)

/-- What the exchange makes of a character end: a task that stops ends there, DRAINING ends, SENDING hands the next
byte (R30 to R32, R82). -/
def State.characterEnded (s : State) (p : PortId) : State :=
  match (s.port p).exc.stopping, (s.port p).exc.state with
  | some why, _ => (s.closeTx p).endTask p (endWith why.code)
  | none, .draining => s.textSent p
  | none, .idle | none, .rateWait | none, .sending | none, .awaiting | none, .pausing
  | none, .breaking => s.serveTransmitter p

/-- The character on a port's transmit line ends (R82). -/
def State.endCharacter (s : State) (p : PortId) : State :=
  match (s.port p).slu.tx with
  | .character c =>
    if s.endsNow c.endTick then ((s.reachTick c.endTick).countCharacter p c).characterEnded p else s
  | .free | .gap _ _ | .pause _ | .breakSpace | .breakGuard _ => s

/-- TX_CHARACTER_END (R82). -/
def execTxCharacterEnd (p : PortId) (s : State) : Host.Outcome State Fault Refusal :=
  .next (s.endCharacter p).watchDrain

/-- The transmitter goes on to a state, and takes what waits for it where that is FREE (R74). -/
def State.transmitterAt (s : State) (p : PortId) (tx : Transmitter) : State :=
  (s.modPort p fun v => { v with slu := { v.slu with tx := tx } }).serveTransmitter p

/-- The pacing gap ends (R72, R73). -/
def State.endGap (s : State) (p : PortId) : State :=
  match (s.port p).slu.tx with
  | .gap tick pauseFollows =>
    if s.endsNow tick then
      (s.reachTick tick).transmitterAt p
        ((s.reachTick tick).afterGap (s.port p).slu.line pauseFollows)
    else s
  | .free | .character _ | .pause _ | .breakSpace | .breakGuard _ => s

/-- TX_GAP_END (R72). -/
def execTxGapEnd (p : PortId) (s : State) : Host.Outcome State Fault Refusal := .next (s.endGap p)

/-- The line-end pause ends (R73). -/
def State.endPause (s : State) (p : PortId) : State :=
  match (s.port p).slu.tx with
  | .pause tick => if s.endsNow tick then (s.reachTick tick).transmitterAt p .free else s
  | .free | .character _ | .gap _ _ | .breakSpace | .breakGuard _ => s

/-- TX_PAUSE_END (R73). -/
def execTxPauseEnd (p : PortId) (s : State) : Host.Outcome State Fault Refusal := .next (s.endPause p)

/-- The break timer expires: the line returns to MARK, the guard time starts and the mark is handed (R40, R75,
R84). -/
def State.breakExpires (s : State) (p : PortId) : State :=
  let v := s.port p
  if v.slu.tx = .breakSpace && v.exc.state = .breaking && s.expired v.exc.timer then
    (s.modPort p fun v =>
      { v with
        slu := { v.slu with tx := .breakGuard (s.time.ticks + v.slu.line.guardTicks) }
        exc := { v.exc with timer := none } }).handItem p
      (.close [(.breakTx, BitVec.ofNat 32 v.headBreakMs)])
  else s

/-- BREAK_TIMER_EXPIRY (R40). -/
def execBreakTimerExpiry (p : PortId) (s : State) : Host.Outcome State Fault Refusal :=
  .next (s.breakExpires p)

/-- The guard time after a break ends, and the BREAK ends OK (R40, R75). -/
def State.endGuard (s : State) (p : PortId) : State :=
  match (s.port p).slu.tx with
  | .breakGuard tick =>
    if s.endsNow tick then
      ((s.reachTick tick).modPort p fun v => { v with slu := { v.slu with tx := .free } }).endTask p
        { endWith .ok with outcomeA := BitVec.ofNat 32 (s.port p).headBreakMs }
    else s
  | .free | .character _ | .gap _ _ | .pause _ | .breakSpace => s

/-- BREAK_GUARD_END (R75). -/
def execBreakGuardEnd (p : PortId) (s : State) : Host.Outcome State Fault Refusal :=
  .next (s.endGuard p).watchDrain

/-! ### The receiver -/

/-- The receiver goes to a state with the line at a level. -/
def State.receiverTo (s : State) (p : PortId) (rx : Receiver) (mark : Bool) : State :=
  s.modPort p fun v => { v with slu := { v.slu with rx := rx, lineMark := mark } }

/-- The character that begins at a start edge now (R85). -/
def State.characterAt (s : State) (l : LineSettings) : RxCharacter :=
  { edgeTick := s.time.ticks, edgeTime := s.time.increments, period := l.period, format := l.format }

/-- The line goes to SPACE in SEEKING: an interval begins, where the Rate Finder measures (R97, R106). -/
def State.beginInterval (s : State) (p : PortId) : State :=
  s.modPort p fun v =>
    { v with
      slu := { v.slu with lineMark := false }
      rf := if s.listening p && v.rf.state = .seeking then { v.rf with interval := some s.time.ticks }
        else v.rf }

/-- The receive line changes from MARK to SPACE (R85, R97). -/
def State.startEdge (s : State) (p : PortId) (phase : Nat) : State :=
  let now := s.reachPhase phase
  match (s.port p).slu.rx with
  | .hunting => now.receiverTo p (.sampling (now.characterAt (s.port p).slu.line)) false
  | .notDecoding => if (s.port p).slu.lineMark then now.beginInterval p else s
  | .arming | .sampling _ | .zeroWait _ | .brk _ _ => s

/-- START_EDGE (R85, R97). -/
def execStartEdge (p : PortId) (phase : Nat) (s : State) : Host.Outcome State Fault Refusal :=
  .next (s.startEdge p phase)

/-- The start-bit sample finds MARK (R85). -/
def State.falseStart (s : State) (p : PortId) : State :=
  match (s.port p).slu.rx with
  | .sampling c =>
    if s.endsNow c.startSample then (s.reachTick c.startSample).receiverTo p .hunting true else s
  | .arming | .hunting | .zeroWait _ | .brk _ _ | .notDecoding => s

/-- FALSE_START (R85). -/
def execFalseStart (p : PortId) (s : State) : Host.Outcome State Fault Refusal :=
  .next (s.falseStart p)

/-- In ARMING the line returns to MARK (R85). -/
def State.armed (s : State) (p : PortId) (phase : Nat) : State :=
  match (s.port p).slu.rx with
  | .arming => (s.reachPhase phase).receiverTo p .hunting true
  | .hunting | .sampling _ | .zeroWait _ | .brk _ _ | .notDecoding => s

/-- ARMING_LINE_RETURNS_TO_MARK (R85). -/
def execArmingLineReturnsToMark (p : PortId) (phase : Nat) (s : State) :
    Host.Outcome State Fault Refusal :=
  .next (s.armed p phase)

/-- A zero character is decided as a byte (R86). -/
def State.zeroByte (s : State) (p : PortId) (c : RxCharacter) : State :=
  s.completeByte p 0 true (c.format.parityError zeroSamples) true

/-- The last stop sample of a character: a decoded byte, or a zero character, which waits while the line is at
SPACE (R85, R86, log 24). -/
def State.lastSample (s : State) (p : PortId) (c : RxCharacter) (r : RxSamples) : State :=
  if c.format.allSpace r && c.format.framingError r then
    if c.format.endsAtMark r then s.zeroByte p c else s.receiverTo p (.zeroWait c) false
  else
    s.completeByte p (c.format.byteOf r.data) (c.format.framingError r) (c.format.parityError r)
      (c.format.endsAtMark r)

/-- A character completes, or a zero character ends by the line's return to MARK (R85, R86). -/
def State.receiveByte (s : State) (p : PortId) (r : RxSamples) (phase : Nat) : State :=
  match (s.port p).slu.rx with
  | .sampling c =>
    if s.endsNow c.lastSample then (s.reachTick c.lastSample).lastSample p c r else s
  | .zeroWait c =>
    if (s.reachPhase phase).time.ticks ≤ c.zeroLimit then (s.reachPhase phase).zeroByte p c else s
  | .arming | .hunting | .brk _ _ | .notDecoding => s

/-- RX_BYTE_DELIVERED (R85, R86). -/
def execRxByteDelivered (p : PortId) (r : RxSamples) (phase : Nat) (s : State) :
    Host.Outcome State Fault Refusal :=
  .next (s.receiveByte p r phase).watchDrain

/-- A zero character reaches its limit at SPACE (R86, R87). -/
def State.zeroLimitReached (s : State) (p : PortId) : State :=
  match (s.port p).slu.rx with
  | .sampling c | .zeroWait c =>
    if s.endsNow c.zeroLimit then (s.reachTick c.zeroLimit).detectBreak p c else s
  | .arming | .hunting | .brk _ _ | .notDecoding => s

/-- RX_BREAK_DETECTED (R87). -/
def execRxBreakDetected (p : PortId) (s : State) : Host.Outcome State Fault Refusal :=
  .next (s.zeroLimitReached p)

/-- The line returns to MARK at the end of a received BREAK (R87). -/
def State.breakEnds (s : State) (p : PortId) (phase : Nat) : State :=
  match (s.port p).slu.rx with
  | .brk edgeTime silent => (s.reachPhase phase).endReceivedBreak p edgeTime silent
  | .arming | .hunting | .sampling _ | .zeroWait _ | .notDecoding => s

/-- RX_BREAK_END (R87). -/
def execRxBreakEnd (p : PortId) (phase : Nat) (s : State) : Host.Outcome State Fault Refusal :=
  .next (s.breakEnds p phase)

/-- The quiet timer runs out (R77). -/
def State.quietExpires (s : State) (p : PortId) : State :=
  match (s.port p).slu.quietEnd with
  | none => s
  | some tick =>
    if s.endsNow tick then
      ((s.reachTick tick).modPort p fun v => { v with slu := { v.slu with quietEnd := none } }).handItem p
        .quiet
    else s

/-- QUIET_TIMER_EXPIRY (R77). -/
def execQuietTimerExpiry (p : PortId) (s : State) : Host.Outcome State Fault Refusal :=
  .next (s.quietExpires p)

/-- The line returns to MARK in SEEKING; the interval that ends, if one was measured, is judged (R97). -/
def State.endInterval (s : State) (p : PortId) : State :=
  match (s.port p).rf.interval with
  | some start => s.judgeInterval p (s.time.ticks - start)
  | none => s.modPort p fun v => { v with slu := { v.slu with lineMark := true } }

/-- The end of a stretch of SPACE on a line that is not decoded (R97). -/
def State.intervalEnds (s : State) (p : PortId) (phase : Nat) : State :=
  match (s.port p).slu.rx with
  | .notDecoding =>
    if (s.port p).slu.lineMark then s else (s.reachPhase phase).endInterval p
  | .arming | .hunting | .sampling _ | .zeroWait _ | .brk _ _ => s

/-- RF_INTERVAL_END (R97). -/
def execRfIntervalEnd (p : PortId) (phase : Nat) (s : State) : Host.Outcome State Fault Refusal :=
  .next (s.intervalEnds p phase)

end Sys2Proof.Machine
end

