-- ==== Sys2Proof/Machine/LinkCommands.lean ====
section
/-! DEFINITION. The meanings of the events of the link and of the task side's timers: grants, pieces that leave or
are answered, completions taken, part time, and the timers of tasks and holds. Every event that can empty a
queue, end a sweep or issue a write lets the Bus Port watch its drain (R182). -/

namespace Sys2Proof.Machine

/-! ### The link -/

/-- HME_GRANT (R172). -/
def execHmeGrant (s : State) : Host.Outcome State Fault Refusal := .next s.grantOne.watchDrain

/-- WRITE_PIECE_LEAVES (R169). -/
def execWritePieceLeaves (s : State) : Host.Outcome State Fault Refusal :=
  .next s.writeLeaves.watchDrain

/-- READ_PIECE_LEAVES (R170, R171). -/
def execReadPieceLeaves (s : State) : Host.Outcome State Fault Refusal := .next s.readLeaves

/-- READ_PIECE_ANSWER (R170, R171). -/
def execReadPieceAnswer (tag : Nat) (answer : Option (List Byte)) (s : State) :
    Host.Outcome State Fault Refusal :=
  .next (s.answerPiece tag answer).watchDrain

/-- READ_PIECE_TIMEOUT (R171). -/
def execReadPieceTimeout (tag : Nat) (s : State) : Host.Outcome State Fault Refusal :=
  .next (s.timeOutPiece tag).watchDrain

/-! ### Time and the sweep -/

/-- A part-time increment, at which the first sense sweep after a reset begins (R64, R157). -/
def State.partTimeIncrement (s : State) : State :=
  if s.increment.scanner.firstDue then s.increment.startSenseSweep else s.increment

/-- PART_TIME_INCREMENT (R64). The timers that expire at it are events of their own (log 5). -/
def execPartTimeIncrement (s : State) : Host.Outcome State Fault Refusal := .next s.partTimeIncrement

/-- One reference tick: what the block does while no command waits (R64, log 1). -/
def State.idleTick (s : State) : State :=
  if s.nextIncrement ≤ s.time.ticks + 1 then s.partTimeIncrement
  else s.reachTick (s.time.ticks + 1)

/-- The sweep timer expires (R5). -/
def State.sweepTimerExpires (s : State) : State :=
  if s.active && s.tsu.sweep.isNone && s.expired s.tsu.timer then s.startSweep false else s

/-- SWEEP_TIMER_EXPIRY (R5). -/
def execSweepTimerExpiry (s : State) : Host.Outcome State Fault Refusal := .next s.sweepTimerExpires

/-- The oldest completion is taken, once no write of a slot waits (R22, log 15). -/
def State.takeOldest (s : State) : State :=
  match s.tsu.completions, s.tsu.writes with
  | c :: _, [] => s.takeCompletion c
  | _, _ => s

/-- TSU_TAKE_COMPLETION (R22). -/
def execTsuTakeCompletion (s : State) : Host.Outcome State Fault Refusal := .next s.takeOldest

/-! ### Timers of the Exchange Controller and the hold record -/

/-- The rate-wait limit expires (R29). -/
def State.rateWaitExpires (s : State) (p : PortId) : State :=
  if (s.port p).exc.state = .rateWait && s.expired (s.port p).exc.timer then
    s.endTask p (endWith .noRate)
  else s

/-- RATE_WAIT_LIMIT_EXPIRY (R29). -/
def execRateWaitLimitExpiry (p : PortId) (s : State) : Host.Outcome State Fault Refusal :=
  .next (s.rateWaitExpires p).watchDrain

/-- The number of attempts that an exchange is allowed (R35). -/
def TaskFields.allowed (f : TaskFields) : Nat := min f.retries 15 + 1

/-- What follows a deadline that has expired: a pause, the next attempt, or NO_MATCH (R35). -/
def State.afterDeadline (s : State) (p : PortId) (f : TaskFields) : State :=
  if (s.port p).exc.attempts < f.allowed then
    if 0 < f.retryPause then
      s.modPort p fun v =>
        { v with exc := { v.exc with state := .pausing, timer := some (s.arm f.retryPause) } }
    else s.beginAttempt p f
  else s.endTask p (endWith .noMatch)

/-- The response deadline expires in AWAITING (R35). -/
def State.deadlineExpires (s : State) (p : PortId) : State :=
  match (s.port p).queue with
  | [] => s
  | e :: _ =>
    if (s.port p).exc.state = .awaiting && s.expired (s.port p).exc.timer then
      (s.disarm p).afterDeadline p e.fields
    else s

/-- RESPONSE_DEADLINE_EXPIRY (R35). -/
def execResponseDeadlineExpiry (p : PortId) (s : State) : Host.Outcome State Fault Refusal :=
  .next (s.deadlineExpires p).watchDrain

/-- The retry pause expires: the next attempt begins (R36). -/
def State.pauseExpires (s : State) (p : PortId) : State :=
  match (s.port p).queue with
  | [] => s
  | e :: _ =>
    if (s.port p).exc.state = .pausing && s.expired (s.port p).exc.timer then s.beginAttempt p e.fields
    else s

/-- RETRY_PAUSE_EXPIRY (R36). -/
def execRetryPauseExpiry (p : PortId) (s : State) : Host.Outcome State Fault Refusal :=
  .next (s.pauseExpires p)

/-- The hold idle timer expires: the hold lapses with a notice (R56, R57). -/
def State.holdExpires (s : State) (p : PortId) : State :=
  if s.expired (s.port p).hold.timer then (s.endHold p).notice p .holdLost else s

/-- HOLD_IDLE_TIMER_EXPIRY (R56). -/
def execHoldIdleTimerExpiry (p : PortId) (s : State) : Host.Outcome State Fault Refusal :=
  .next (s.holdExpires p)

end Sys2Proof.Machine
end

