-- ==== Sys2Proof/Machine/Dispatch.lean ====
section
/-! DEFINITION. The dispatch of a command to its meaning: one arm for each row of spec/opcode_table.json. -/

namespace Sys2Proof.Machine

def exec (i : Instr) (s : State) : Host.Outcome State Fault Refusal :=
  match i with
  | .enable => Sys2Proof.Machine.execEnable s
  | .stop => Sys2Proof.Machine.execStop s
  | .sweep => Sys2Proof.Machine.execSweep s
  | .softReset => Sys2Proof.Machine.execSoftReset s
  | .attentionWrite value => Sys2Proof.Machine.execAttentionWrite value s
  | .attnEnableWrite value => Sys2Proof.Machine.execAttnEnableWrite value s
  | .attnForceWrite value => Sys2Proof.Machine.execAttnForceWrite value s
  | .registerWrite reg bytes value => Sys2Proof.Machine.execRegisterWrite reg bytes value s
  | .hardReset => Sys2Proof.Machine.execHardReset s
  | .busMasterConfigChange busMaster message => Sys2Proof.Machine.execBusMasterConfigChange busMaster message s
  | .partTimeIncrement => Sys2Proof.Machine.execPartTimeIncrement s
  | .sweepTimerExpiry => Sys2Proof.Machine.execSweepTimerExpiry s
  | .hmeGrant => Sys2Proof.Machine.execHmeGrant s
  | .writePieceLeaves => Sys2Proof.Machine.execWritePieceLeaves s
  | .readPieceLeaves => Sys2Proof.Machine.execReadPieceLeaves s
  | .readPieceAnswer tag answer => Sys2Proof.Machine.execReadPieceAnswer tag answer s
  | .readPieceTimeout tag => Sys2Proof.Machine.execReadPieceTimeout tag s
  | .tsuTakeCompletion => Sys2Proof.Machine.execTsuTakeCompletion s
  | .rateWaitLimitExpiry p => Sys2Proof.Machine.execRateWaitLimitExpiry p s
  | .responseDeadlineExpiry p => Sys2Proof.Machine.execResponseDeadlineExpiry p s
  | .retryPauseExpiry p => Sys2Proof.Machine.execRetryPauseExpiry p s
  | .breakTimerExpiry p => Sys2Proof.Machine.execBreakTimerExpiry p s
  | .breakGuardEnd p => Sys2Proof.Machine.execBreakGuardEnd p s
  | .txCharacterEnd p => Sys2Proof.Machine.execTxCharacterEnd p s
  | .txGapEnd p => Sys2Proof.Machine.execTxGapEnd p s
  | .txPauseEnd p => Sys2Proof.Machine.execTxPauseEnd p s
  | .holdIdleTimerExpiry p => Sys2Proof.Machine.execHoldIdleTimerExpiry p s
  | .rxByteDelivered p samples phase => Sys2Proof.Machine.execRxByteDelivered p samples phase s
  | .rxBreakDetected p => Sys2Proof.Machine.execRxBreakDetected p s
  | .rxBreakEnd p phase => Sys2Proof.Machine.execRxBreakEnd p phase s
  | .quietTimerExpiry p => Sys2Proof.Machine.execQuietTimerExpiry p s
  | .rfIntervalEnd p phase => Sys2Proof.Machine.execRfIntervalEnd p phase s
  | .caMeetInput p => Sys2Proof.Machine.execCaMeetInput p s
  | .statusWriteIssue p => Sys2Proof.Machine.execStatusWriteIssue p s
  | .senseIntervalExpiry => Sys2Proof.Machine.execSenseIntervalExpiry s
  | .senseSampleDone code => Sys2Proof.Machine.execSenseSampleDone code s
  | .startEdge p phase => Sys2Proof.Machine.execStartEdge p phase s
  | .falseStart p => Sys2Proof.Machine.execFalseStart p s
  | .armingLineReturnsToMark p phase => Sys2Proof.Machine.execArmingLineReturnsToMark p phase s

end Sys2Proof.Machine
end

