-- ==== Sys2Proof/Safety.lean ====
section
/-! DEFINITION. What counts as a safe state of the part: the bounds that the spec sets to its queues, FIFOs, tables,
counters and periods (R25, R69, R89, R91, R137, R169, R170); and the frames that claims are stated with. -/

namespace Sys2Proof.Machine

/-! ### Bounds -/

/-- A condition holds on every port. -/
def State.everyPort (s : State) (ok : Port → Prop) : Prop := ∀ p : PortId, ok (s.port p)

/-- A line queue holds at most 8 entries (R25), a receive FIFO at most 64 (R89). -/
def Port.listsBounded (v : Port) : Prop := v.queue.length ≤ 8 ∧ v.slu.fifo.length ≤ 64

/-- The period lies between 32 and 61440 ticks (R69). -/
def Port.periodInRange (v : Port) : Prop := 32 ≤ v.slu.line.period ∧ v.slu.line.period ≤ 61440

/-- The four error counters hold at 65535 (R91). -/
def Port.countersBounded (v : Port) : Prop :=
  v.slu.errors.framing ≤ 65535 ∧ v.slu.errors.parity ≤ 65535 ∧ v.slu.errors.overruns ≤ 65535
    ∧ v.slu.errors.breaks ≤ 65535

/-- The pending gap holds at 2^32 - 1 (R137). -/
def Port.gapBounded (v : Port) : Prop := v.ca.gapCount ≤ 4294967295

/-- The bounds of a port. -/
def Port.bounded (v : Port) : Prop :=
  v.listsBounded ∧ v.periodInRange ∧ v.countersBounded ∧ v.gapBounded

/-- The write queue holds at most 16 pieces (R169), the read table at most 32 entries (R170). -/
def State.linkBounded (s : State) : Prop := s.hme.queuedWrites ≤ 16 ∧ s.hme.reads.length ≤ 32

/-- Every bound holds. -/
def State.Safe (s : State) : Prop := s.everyPort Port.bounded ∧ s.linkBounded

/-! ### Frames -/

/-- Everything but the ports and the time is as it was. -/
def State.sameBesidePorts (s t : State) : Prop :=
  t.pending = s.pending ∧ t.bus = s.bus ∧ t.attention = s.attention ∧ t.attnEnable = s.attnEnable
    ∧ t.hme = s.hme ∧ t.tsu = s.tsu ∧ t.patterns = s.patterns ∧ t.scanner = s.scanner
    ∧ t.freeCount = s.freeCount

/-- Every port but one is as it was. -/
def State.sameElsewhere (s : State) (p : PortId) (t : State) : Prop :=
  ∀ q : PortId, q ≠ p → t.port q = s.port q

/-- The event item of a port's change to ABSENT, as it is handed now (R162). -/
def State.presenceDownItem (s : State) (p : PortId) : EventItem :=
  { position := (s.port p).slu.receiveCount, time := s.partTime, action := .close [(.presenceDown, 0)] }

/-- A change to ABSENT has been noticed, with PRESENCE raised, and the Rate Finder stands as it did (R103, R162,
R176). -/
def State.absenceReported (s : State) (p : PortId) (t : State) : Prop :=
  (t.port p).status.noticeCount = (s.port p).status.noticeCount + 1
    ∧ (t.port p).status.lastNotice = .presenceDown
    ∧ t.attention = s.attention ||| 1#10 <<< 2
    ∧ (t.port p).rf = (s.port p).rf

/-- The entry, alone in its queue, has ended with a code and an outcome A, with the counts and the start time that
its controller held; its other results are 0 (R19, R27, R31, R39). -/
def State.taskEnded (s : State) (p : PortId) (e : QueueEntry) (code : ResultCode) (outcomeA : Word)
    (t : State) : Prop :=
  (t.port p).queue = [] ∧ (t.port p).exc = Exc.idle
    ∧ t.tsu.completions = s.tsu.completions ++
        [{ slot := e.slot, notify := e.fields.notify, code := code,
           attempts := (s.port p).exc.attempts, bytesSent := (s.port p).exc.bytesSent,
           matchSequence := 0, startTime := (s.port p).exc.startTime, endTime := s.partTime,
           outcomeA := outcomeA, outcomeB := 0 }]

/-- The change to ABSENT is reported, nothing else is noticed, and the entry has ended LINE_LOST (R39). -/
def State.lineLost (s : State) (p : PortId) (e : QueueEntry) (outcomeA : Word) (t : State) : Prop :=
  s.absenceReported p t ∧ s.taskEnded p e .lineLost outcomeA t

/-- The sending stops at the end of the character on the line: no further byte is fetched or handed, and the entry
stays until then (R19, R31). -/
def State.stopsAtCharacterEnd (s : State) (p : PortId) (why : StopCause) (t : State) : Prop :=
  (t.port p).exc = { (s.port p).exc with stopping := some why }
    ∧ (t.port p).slu = { (s.port p).slu with staging := [], textRead := none }
    ∧ (t.port p).queue = (s.port p).queue ∧ t.tsu.completions = s.tsu.completions

/-- The only text read of a port's sending, for the entry alone in its queue, has ended in a read fault: the task ends
MEMORY_FAULT, at the end of the character on the line or at once, and no cause is raised (R31, R84). -/
def State.textFaulted (s : State) (p : PortId) (e : QueueEntry) (t : State) : Prop :=
  t.hme.reads = [] ∧ t.attention = s.attention ∧ s.sameElsewhere p t
    ∧ (∀ c, (s.port p).slu.tx = .character c → s.stopsAtCharacterEnd p .memoryFault t)
    ∧ ((∀ c, (s.port p).slu.tx ≠ .character c) → s.taskEnded p e .memoryFault 0 t
      ∧ (t.port p).slu = { (s.port p).slu with staging := [], textRead := none })

/-- The response deadline's T: the field, or where it is 0 the time of 200 characters in whole ms, rounded up, from 50
to 65535 (R33, R76). -/
def Port.deadlineMs (v : Port) (field : Nat) : Nat :=
  if field = 0 then
    min 65535 (max 50 ((200 * (v.slu.line.period * v.slu.line.format.charBits) + 36863) / 36864))
  else field

/-- The TSU has completed the slot in hand itself: the result fields, with the completion time now, and then DONE are to
be written, and nothing else has changed (R23, R190). -/
def State.slotCompleted (s : State) (w : Sweep) (code : Byte) (start : Word) (outcomeA outcomeB : Nat)
    (notify : Bool) : State :=
  { s with tsu := { s.tsu with
      writes := s.tsu.writes ++
        [ { address := addrPlus s.tsu.geometry.tableAddress (64 * w.index) + 40
            bytes := [code, 0, 0, 0, 0, 0, 0, 0] ++ leBytes 4 start.toNat ++ leBytes 4 s.partTime.toNat
              ++ leBytes 4 outcomeA ++ leBytes 4 outcomeB
            raisesTask := false },
          { address := addrPlus s.tsu.geometry.tableAddress (64 * w.index)
            bytes := [3]
            raisesTask := notify } ]
      sweep := some { w with stage := .writing } } }

/-- An ABORT completes OK with an outcome A (R17, R23). -/
def State.abortDone (s : State) (w : Sweep) (slot : TaskSlot) (outcomeA : Nat) (t : State) : Prop :=
  t.tsu.writes = (s.slotCompleted w 0 s.partTime outcomeA 0 (slot.fields.flags.getLsbD 0)).tsu.writes
    ∧ t.tsu.sweep = some { w with stage := .writing }

/-- The hold with its idle timer disarmed or armed, where the originator is its owner; as it was elsewhere (R55). -/
def Hold.restarted (h : Hold) (originator : BitVec 4) (timer : Option Timer) : Hold :=
  if h.owner = some originator then { h with timer := timer } else h

/-- Only one port, and the clock's ticks within the part-time value, may differ. -/
def State.onlyPort (s : State) (p : PortId) (t : State) : Prop :=
  s.sameBesidePorts t ∧ s.sameElsewhere p t ∧ t.time.increments = s.time.increments

/-- Every port, and everything but the attention registers and the link, is as it was. -/
def State.onlyAttention (s t : State) : Prop :=
  t.pending = s.pending ∧ t.time = s.time ∧ t.bus = s.bus ∧ t.tsu = s.tsu ∧ t.patterns = s.patterns
    ∧ t.scanner = s.scanner ∧ t.ports = s.ports ∧ t.freeCount = s.freeCount

/-- Two ports alike but for the changed flag of the status writer (R146). -/
def Port.alike (v w : Port) : Prop :=
  w = { v with status := { v.status with changed := w.status.changed } }

/-- An enable has failed with a code: the error is set, ANCHOR is raised, the enable has ended, and no block has
received anything (R178). -/
def State.enableFailed (s : State) (code : AnchorError) (t : State) : Prop :=
  t.bus = { s.bus with anchorError := code, enabling := none } ∧ t.attention = s.attention ||| 1#10 <<< 8
    ∧ t.ports = s.ports ∧ t.tsu = s.tsu ∧ t.scanner = s.scanner ∧ t.patterns = s.patterns

/-- The slot in hand has been admitted: its index is in flight, TAKEN is to be written, and the sweep waits for that
write (R3, R13). -/
def State.slotTaken (s : State) (w : Sweep) (t : State) : Prop :=
  t.tsu.inFlight = s.tsu.inFlight ++ [w.index]
    ∧ t.tsu.writes = s.tsu.writes ++
      [{ address := addrPlus s.tsu.geometry.tableAddress (64 * w.index), bytes := [2], raisesTask := false }]
    ∧ t.tsu.sweep = some { w with stage := .writing }

/-- The slot in hand has been left POSTED: nothing is written to it or placed, and the sweep goes on (R13). -/
def State.slotLeftPosted (s : State) (w : Sweep) (t : State) : Prop :=
  t = s.sweepOn w.requested (w.index + 1) ∧ t.ports = s.ports ∧ t.tsu.inFlight = s.tsu.inFlight
    ∧ t.tsu.writes = s.tsu.writes ∧ t.tsu.broadcasts = s.tsu.broadcasts

/-- A read has been granted: an entry for each of its pieces, and their places behind everything granted before
(R168, R170). -/
def State.readTaken (s : State) (requester : Requester) (a : Addr) (n : Nat) (t : State) : Prop :=
  t.hme.reads = s.hme.reads ++ readEntries requester s.hme.nextRead s.hme.nextTag (piecesOf a n)
    ∧ t.hme.outgoing = s.hme.outgoing ++
      (readEntries requester s.hme.nextRead s.hme.nextTag (piecesOf a n)).map
        (fun e => LinkItem.read e.tag e.address e.length)
    ∧ t.hme.nextRead = s.hme.nextRead + 1
    ∧ t.hme.nextTag = s.hme.nextTag + (piecesOf a n).length ∧ t.hme.sent = s.hme.sent

/-- The FREE transmitter has taken a staged byte, at an interval's end that lay at tick `d` (R74, R82). -/
def State.byteTaken (s : State) (p : PortId) (d : Nat) (b : Byte) (rest : List Byte) (t : State) : Prop :=
  (∃ c, (t.port p).slu.tx = .character c ∧ c.byte = b ∧ c.startTick = max s.time.ticks d
      ∧ c.startTime = s.partTime ∧ c.period = (s.port p).slu.line.period
      ∧ c.bits = (s.port p).slu.line.format.frame b)
    ∧ (t.port p).slu.staging = rest ∧ (t.port p).queue = (s.port p).queue ∧ s.onlyPort p t

/-- The FREE transmitter has taken the break that waited: SPACE, with the break timer armed (R40, R84). -/
def State.spaceTaken (s : State) (p : PortId) (t : State) : Prop :=
  (t.port p).slu = { (s.port p).slu with tx := .breakSpace }
    ∧ (∃ timer, (t.port p).exc = { (s.port p).exc with timer := some timer }
      ∧ timer.armedAt = s.time.increments ∧ timer.span = (s.port p).headBreakMs)
    ∧ (t.port p).queue = (s.port p).queue ∧ s.onlyPort p t

/-- What the bytes of a record say: the fields of its header at their offsets, then its data and zero bytes up to the
rounded size; a PAD is its header alone (R126, R191). -/
def UnitRecord.Says (r : UnitRecord) (now receiveCount : Word) (type length : Nat) (flags tag : Byte)
    (time sequence : Word) (aux : Nat) (data : List Byte) : Prop :=
  (r.bytes now receiveCount).take 4 = [BitVec.ofNat 8 type, BitVec.ofNat 8 length, flags, tag]
    ∧ leNat (((r.bytes now receiveCount).drop 4).take 4) = time.toNat
    ∧ leNat (((r.bytes now receiveCount).drop 8).take 4) = sequence.toNat
    ∧ leNat (((r.bytes now receiveCount).drop 12).take 4) = aux
    ∧ ((r.bytes now receiveCount).drop 16).take data.length = data
    ∧ (((r.bytes now receiveCount).drop 16).drop data.length).all (fun b => b = 0)
    ∧ (r.bytes now receiveCount).length = 16 + (data.length + 15) / 16 * 16

/-- Class 1 of the arbiter holds a request that can be granted: a slot write or a status write (R172). -/
def State.classOneReady (s : State) : Prop :=
  (∃ w, s.tsu.writes.head? = some w ∧ s.writeFits w.address w.bytes.length = true)
    ∨ ∃ p, s.statusReady p = true

/-- Class 2 holds one: the read of a sweep or of an enable (R172). -/
def State.classTwoReady (s : State) : Prop :=
  (∃ r a n, s.sweepRequest = some (r, a, n) ∧ s.readFits a n = true)
    ∨ ∃ r a n, s.enableRequest = some (r, a, n) ∧ s.readFits a n = true

/-- The interrupt messages sent so far, those that still have their place among the writes included (R175). -/
def Hme.messages (h : Hme) : Nat := ((h.outgoing ++ h.sent).filter fun i => i = LinkItem.message).length

/-- A message falls due and can be sent (R175). -/
def State.canSend (s : State) : Bool := s.hme.busMaster && s.hme.message

end Sys2Proof.Machine
end

