-- ==== Sys2Proof/Certificates/Slice0/Obligations.lean ====
section
/-! DEFINITION. The statements for the provers, about the commands of the part and about the rules that its blocks
follow. -/

open Sys2Proof Sys2Proof.Machine

/-! ### The queue of commands and the time -/

/-- The model's choice (log 3): every command answers a next state, whatever the state. The source makes each row
whole and indivisible and gives it no error of its own (95_what_each_step_holds.md). -/
def Obligations.EveryCommandAnswersANextState : Prop :=
  ∀ (c : Instr) (s : State), ∃ t, exec c s = .next t

/-- The model's choice (log 1): a step takes the command at the front of the queue and carries it out with the
queue's rest; with no command waiting it is one reference tick of R64, a part-time increment where the phase would
pass 36,863. -/
def Obligations.StepTakesTheFrontCommand : Prop :=
  (∀ (c : Instr) (rest : List Instr) (s : State),
    step { s with pending := c :: rest } = exec c { s with pending := rest })
  ∧ ∀ s : State, s.pending = [] →
    (s.time.ticks + 1 < (s.time.increments + 1) * 36864 →
      step s = .next { s with time := { s.time with ticks := s.time.ticks + 1 } })
    ∧ ((s.time.increments + 1) * 36864 ≤ s.time.ticks + 1 → step s = exec .partTimeIncrement s)

/-- R64, R157: at an increment the phase returns to 0 and part time goes up by one, modulo 2^32; the first sense
sweep after a reset begins there; nothing else changes. -/
def Obligations.PartTimeIncrementAdvancesPartTime : Prop :=
  ∀ s : State, ∃ t, exec .partTimeIncrement s = .next t
    ∧ t.partTime = s.partTime + 1 ∧ t.phase = 0
    ∧ t.time.ticks = (s.time.increments + 1) * 36864
    ∧ (s.scanner.firstDue = false → t.scanner = s.scanner)
    ∧ (s.scanner.firstDue = true → t.scanner = { s.scanner with
        sweep := some { startTick := (s.time.increments + 1) * 36864, port := 0 }
        timer := some { armedAt := s.time.increments + 1, phase := 0, span := s.scanner.interval }
        firstDue := false })
    ∧ t.ports = s.ports ∧ t.bus = s.bus ∧ t.attention = s.attention ∧ t.attnEnable = s.attnEnable
    ∧ t.hme = s.hme ∧ t.tsu = s.tsu ∧ t.patterns = s.patterns ∧ t.pending = s.pending
    ∧ t.freeCount = s.freeCount

/-- R66: a timer armed with T expires at the T-th increment after its arming, at part time P + T, and it waits
T × 36,864 − φ ticks, more than T − 1 ms and at most T ms; armed on the tick of an increment that is taken after
it, it waits (T − 1) × 36,864 + 1 ticks. -/
def Obligations.TimerFollowsTheDeadlineRule : Prop :=
  ∀ (s : State) (T : Nat), 1 ≤ T → s.time.increments * 36864 ≤ s.time.ticks →
    (∀ n, (s.arm T).dueAt (s.time.increments + n) = true ↔ T ≤ n)
    ∧ (s.arm T).expiryTime = s.partTime + BitVec.ofNat 32 T
    ∧ (s.time.ticks < (s.time.increments + 1) * 36864 →
        (s.arm T).realWait = (s.time.increments + T) * 36864 - s.time.ticks
        ∧ (T - 1) * 36864 < (s.arm T).realWait ∧ (s.arm T).realWait ≤ T * 36864)
    ∧ (s.time.ticks = (s.time.increments + 1) * 36864 →
        (s.arm T).phase = 36863 ∧ (s.arm T).realWait = (T - 1) * 36864 + 1)

/-! ### The register window -/

/-- R187: the offsets, and what each register reads as, bit by bit, with the codes of the control states and of the
anchor errors and the bits of the causes. -/
def Obligations.RegistersReadByTheirLayout : Prop :=
  ([Register.ident, .control, .status, .anchorLo, .anchorHi, .attention, .attnEnable,
      .attnForce].map Register.offset = [0x00, 0x04, 0x08, 0x0C, 0x10, 0x14, 0x18, 0x1C])
  ∧ ([ControlState.off, .running, .draining, .stopped].map ControlState.code = [0, 1, 2, 3])
  ∧ ([AnchorError.noError, .align, .readFault, .tag, .version, .ports, .slots,
      .capture].map AnchorError.code = [0, 1, 2, 3, 4, 5, 6, 7])
  ∧ ([Cause.task, .watch, .presence, .rate, .freeze, .hold, .full, .fault, .anchor,
      .stopped].map Cause.index = [0, 1, 2, 3, 4, 5, 6, 7, 8, 9])
  ∧ ∀ s : State,
    s.readRegister .ident = 0x18124C7A
    ∧ ((s.readRegister .ident).extractLsb' 0 12 = 0xC7A
      ∧ (s.readRegister .ident).extractLsb' 12 8 = 0x24
      ∧ (s.readRegister .ident).extractLsb' 20 4 = 1 ∧ (s.readRegister .ident).extractLsb' 24 8 = 24)
    ∧ (∀ i, (s.readRegister .control).getLsbD i = (i == 2
        && (s.tsu.pendingRequest || s.tsu.sweep.any fun w => w.requested)))
    ∧ ((s.readRegister .status).extractLsb' 0 2).toNat = s.bus.control.code
    ∧ (s.readRegister .status).extractLsb' 2 2 = 0
    ∧ ((s.readRegister .status).extractLsb' 4 4).toNat = s.bus.anchorError.code
    ∧ (s.readRegister .status).getLsbD 8 = s.tsu.sweep.isSome
    ∧ (s.readRegister .status).extractLsb' 9 23 = 0
    ∧ s.readRegister .anchorLo = s.bus.anchorLo ∧ s.readRegister .anchorHi = s.bus.anchorHi
    ∧ (∀ c : Cause, (s.readRegister .attention).getLsbD c.index = s.attention.getLsbD c.index
        ∧ (s.readRegister .attnEnable).getLsbD c.index = s.attnEnable.getLsbD c.index)
    ∧ (s.readRegister .attention).extractLsb' 10 22 = 0
    ∧ (s.readRegister .attnEnable).extractLsb' 10 22 = 0
    ∧ s.readRegister .attnForce = s.readRegister .attention

/-- R185: narrow writes and writes to the read-only registers are ignored; the anchor registers take writes in OFF
and STOPPED only; bits that a register does not have are ignored and read as 0; a narrow read gives the bytes it names;
the attention registers act as R174 and R175 give. REGISTER_WRITE stands for any write to the window, and the rows named
after the attention registers for the whole writes to them (log 31). -/
def Obligations.WindowTakesWritesByItsRules : Prop :=
  (∀ (r : Register) (n : Nat) (v : Word) (s : State), n < 4 → exec (.registerWrite r n v) s = .next s)
  ∧ (∀ (v : Word) (s : State), exec (.registerWrite .ident 4 v) s = .next s
      ∧ exec (.registerWrite .status 4 v) s = .next s)
  ∧ (∀ (v : Word) (s : State), s.bus.control = .off ∨ s.bus.control = .stopped →
      exec (.registerWrite .anchorLo 4 v) s = .next { s with bus := { s.bus with anchorLo := v } }
      ∧ exec (.registerWrite .anchorHi 4 v) s = .next { s with bus := { s.bus with anchorHi := v } })
  ∧ (∀ (v : Word) (s : State), s.bus.control = .running ∨ s.bus.control = .draining →
      exec (.registerWrite .anchorLo 4 v) s = .next s ∧ exec (.registerWrite .anchorHi 4 v) s = .next s)
  ∧ (∀ (v : Word) (s : State), exec (.registerWrite .attention 4 v) s = exec (.attentionWrite v) s
      ∧ exec (.registerWrite .attnEnable 4 v) s = exec (.attnEnableWrite v) s
      ∧ exec (.registerWrite .attnForce 4 v) s = exec (.attnForceWrite v) s)
  ∧ (∀ (v w : Word) (s : State), v.extractLsb' 0 10 = w.extractLsb' 0 10 →
      exec (.attentionWrite v) s = exec (.attentionWrite w) s
      ∧ exec (.attnEnableWrite v) s = exec (.attnEnableWrite w) s
      ∧ exec (.attnForceWrite v) s = exec (.attnForceWrite w) s)
  ∧ (∀ (v w : Word) (s : State), v.extractLsb' 0 4 = w.extractLsb' 0 4 →
      exec (.registerWrite .control 4 v) s = exec (.registerWrite .control 4 w) s)
  ∧ (∀ s : State, (s.readRegister .control).extractLsb' 0 2 = 0
      ∧ (s.readRegister .control).extractLsb' 3 29 = 0
      ∧ (s.readRegister .status).extractLsb' 2 2 = 0 ∧ (s.readRegister .status).extractLsb' 9 23 = 0
      ∧ (s.readRegister .attention).extractLsb' 10 22 = 0
      ∧ (s.readRegister .attnEnable).extractLsb' 10 22 = 0
      ∧ (s.readRegister .attnForce).extractLsb' 10 22 = 0)
  ∧ (∀ (r : Register) (first n : Nat) (s : State), first + n ≤ 4 →
      (s.readNarrow r first n).length = n
      ∧ ∀ i, i < n → (s.readNarrow r first n)[i]? =
          some ((s.readRegister r).extractLsb' (8 * (first + i)) 8))

/-- R177: a CONTROL write with SOFT_RESET is the soft reset alone; any other acts by ENABLE and STOP in the state it
finds, and then by SWEEP; ENABLE acts in OFF and STOPPED while no enable is in progress, and begins one for an aligned
anchor (R178). R181, R182: STOP in RUNNING enters DRAINING, and goes on to STOPPED in the same event only where every
port in use has had its final status write. Bits written as 0 request nothing; both resets leave OFF, a hard one no
anchor error and anchor registers 0, a soft one all three as they were. That REGISTER_WRITE stands for the write to
CONTROL is the model's reading (log 31). -/
def Obligations.ControlWriteActsByItsBits : Prop :=
  (∀ (v : Word) (s : State), v.getLsbD 3 = true →
      exec (.registerWrite .control 4 v) s = exec .softReset s)
  ∧ (∀ (v : Word) (s t u w : State), v.getLsbD 3 = false →
      (if v.getLsbD 0 then exec .enable s else .next s) = .next t →
      (if v.getLsbD 1 then exec .stop t else .next t) = .next u →
      (if v.getLsbD 2 then exec .sweep u else .next u) = .next w →
      exec (.registerWrite .control 4 v) s = .next w)
  ∧ (∀ s : State, s.bus.control = .running ∨ s.bus.control = .draining ∨ s.bus.enabling.isSome = true →
      exec .enable s = .next s)
  ∧ (∀ s : State, s.bus.control = .off ∨ s.bus.control = .stopped → s.bus.enabling = none →
      (s.bus.anchorHi ++ s.bus.anchorLo).toNat % 4096 = 0 →
      ∃ t, exec .enable s = .next t ∧ t.bus.enabling.isSome = true)
  ∧ (∀ s : State, s.bus.control ≠ .running → exec .stop s = .next s)
  ∧ (∀ s : State, s.bus.control = .running →
      ∃ t, exec .stop s = .next t ∧ (t.bus.control = .draining ∨ t.bus.control = .stopped)
        ∧ ((∃ p : PortId, p.val < s.tsu.geometry.portCount ∧ (s.port p).status.finalIssued = false) →
          t.bus.control = .draining))
  ∧ (∀ s : State, ∃ t, exec .enable s = .next t ∧ t.bus.control = s.bus.control)
  ∧ (∀ s : State, ∃ t, exec .hardReset s = .next t ∧ t.bus.control = .off
      ∧ t.bus.anchorError = .noError ∧ t.bus.anchorLo = 0 ∧ t.bus.anchorHi = 0)
  ∧ (∀ s : State, ∃ t, exec .softReset s = .next t ∧ t.bus.control = .off
      ∧ t.bus.anchorError = s.bus.anchorError ∧ t.bus.anchorLo = s.bus.anchorLo
      ∧ t.bus.anchorHi = s.bus.anchorHi)

/-! ### Attention -/

/-- R174, R175: a write to ATTENTION clears the causes written as 1, one to ATTN_ENABLE makes the enabled causes those
written as 1, one to ATTN_FORCE raises the causes written as 1; each leaves the others. One message falls due where
the first two leave the live set non-empty, and where the third takes it from empty to non-empty. No slot, notice,
status record, read or queued write changes. -/
def Obligations.AttentionRegistersActOnTheirCauses : Prop :=
  (∀ (v : Word) (s : State), ∃ t, exec (.attentionWrite v) s = .next t
    ∧ (∀ c : Cause, t.attention.getLsbD c.index = (s.attention.getLsbD c.index && !v.getLsbD c.index))
    ∧ t.attnEnable = s.attnEnable
    ∧ t.hme.messages = s.hme.messages
        + (if t.attention &&& t.attnEnable ≠ 0 ∧ s.canSend then 1 else 0)
    ∧ t.hme.queuedWrites = s.hme.queuedWrites ∧ t.hme.reads = s.hme.reads ∧ s.onlyAttention t)
  ∧ (∀ (v : Word) (s : State), ∃ t, exec (.attnEnableWrite v) s = .next t
    ∧ (∀ c : Cause, t.attnEnable.getLsbD c.index = v.getLsbD c.index)
    ∧ t.attention = s.attention
    ∧ t.hme.messages = s.hme.messages
        + (if t.attention &&& t.attnEnable ≠ 0 ∧ s.canSend then 1 else 0)
    ∧ t.hme.queuedWrites = s.hme.queuedWrites ∧ t.hme.reads = s.hme.reads ∧ s.onlyAttention t)
  ∧ (∀ (v : Word) (s : State), ∃ t, exec (.attnForceWrite v) s = .next t
    ∧ (∀ c : Cause, t.attention.getLsbD c.index = (s.attention.getLsbD c.index || v.getLsbD c.index))
    ∧ t.attnEnable = s.attnEnable
    ∧ t.hme.messages = s.hme.messages
        + (if s.attention &&& s.attnEnable = 0 ∧ t.attention &&& t.attnEnable ≠ 0 ∧ s.canSend
            then 1 else 0)
    ∧ t.hme.queuedWrites = s.hme.queuedWrites ∧ t.hme.reads = s.hme.reads ∧ s.onlyAttention t)

/-- R175: a message takes its place behind everything granted before it; while messages or bus mastering are disabled
it is neither sent nor held. That one with nothing before it leaves at once, with no event of its own, is the model's
choice (log 13). -/
def Obligations.MessageTakesItsPlaceInTheGrantOrder : Prop :=
  ∀ s : State,
    (s.canSend = false → s.sendMessage = s)
    ∧ (s.canSend = true → s.hme.outgoing = [] →
        s.sendMessage = { s with hme := { s.hme with sent := .message :: s.hme.sent } })
    ∧ (∀ item rest, s.canSend = true → s.hme.outgoing = item :: rest → item ≠ .message →
        s.sendMessage = { s with hme := { s.hme with outgoing := item :: rest ++ [.message] } })

/-! ### Resets -/

/-- R184 and the hard-reset rules it names: after a hard reset every register and every port stands at its reset value.
What the last enable latched stands until the next one: the geometry (R1, R24), and each Capture Assembler's area and
mode (R124, R145); so does the anchor address that it latched (log 9). What else the model keeps (log 26) is not the
part's: the commands that wait, what has left on the link, and the level of each receive line, which is a free value
inside a character (log 7). That interrupt messages which wait at a hard reset are dropped is the model's choice (log
45). -/
def Obligations.HardResetGivesTheResetValues : Prop :=
  ∀ s : State, ∃ t, exec .hardReset s = .next t
    ∧ t.time = { ticks := 0, increments := 0 } ∧ t.bus = { BusPort.reset with anchor := s.bus.anchor }
    ∧ t.attention = 0 ∧ t.attnEnable = 0 ∧ t.tsu = { Tsu.reset with geometry := s.tsu.geometry }
    ∧ (∀ i : PatternId, t.patterns[i] = none)
    ∧ t.scanner = Scanner.reset ∧ t.hme = { Hme.reset with sent := s.hme.sent }
    ∧ t.pending = s.pending
    ∧ ∀ (p : PortId) (mark : Bool),
      mark = (match (s.port p).slu.rx with
        | .sampling _ => Config.lineLevel p.val s.freeCount
        | .zeroWait _ | .brk _ _ => false
        | .arming | .hunting | .notDecoding => (s.port p).slu.lineMark) →
      t.port p = { Port.reset with
        slu := { Slu.reset with rx := if mark then .hunting else .arming, lineMark := mark }
        ca := { Capture.reset with
          areaAddress := (s.port p).ca.areaAddress
          areaSize := (s.port p).ca.areaSize
          mode := (s.port p).ca.mode } }

/-- R183 and the soft-reset rules it names, for every port and every register: what each block keeps and what it
clears. The read pieces on the link keep their entries, discarded; that the entries of granted pieces which have not
left are freed is the model's reading (log 14), and that those of answered pieces are freed at once its choice (log
44). -/
def Obligations.SoftResetKeepsWhatItsRulesKeep : Prop :=
  ∀ s : State, ∃ t, exec .softReset s = .next t
    ∧ t.bus = { s.bus with control := .off, enabling := none, settleHanded := false }
    ∧ t.attention = 0 ∧ t.attnEnable = s.attnEnable ∧ t.time = s.time ∧ t.patterns = s.patterns
    ∧ t.pending = s.pending ∧ t.tsu = { Tsu.reset with geometry := s.tsu.geometry }
    ∧ t.scanner = { s.scanner with timer := none, sweep := none, firstDue := true }
    ∧ t.hme.queuedWrites = 0 ∧ (∀ e ∈ t.hme.reads, e.left = true ∧ e.discarded = true)
    ∧ (∀ e ∈ s.hme.reads, e.left = true → e.data = none → { e with discarded := true } ∈ t.hme.reads)
    ∧ (t.hme.statusPointer = 0 ∧ t.hme.markPointer = 0 ∧ t.hme.textPointer = 0
      ∧ t.hme.capturePointer = 0 ∧ t.hme.tsuTurn = true)
    ∧ t.hme.busMaster = s.hme.busMaster ∧ t.hme.message = s.hme.message
    ∧ ∀ p : PortId,
      ((t.port p).queue = [] ∧ (t.port p).exc = Exc.idle ∧ (t.port p).hold = Hold.clear
        ∧ (t.port p).guard = (s.port p).guard)
      ∧ ((t.port p).slu.line = (s.port p).slu.line ∧ (t.port p).slu.tx = .free
        ∧ (t.port p).slu.staging = [] ∧ (t.port p).slu.fetchOffset = 0 ∧ (t.port p).slu.textRead = none
        ∧ (t.port p).slu.receiveCount = 0 ∧ (t.port p).slu.fifo = []
        ∧ (t.port p).slu.errors = ErrorCounters.zero ∧ (t.port p).slu.quietEnd = none)
      ∧ ((s.port p).slu.line.mode = .fixed → (t.port p).rf.state = .fixed
        ∧ (t.port p).slu.rx = if (t.port p).slu.lineMark then .hunting else .arming)
      ∧ ((s.port p).slu.line.mode = .auto → (t.port p).rf.state = .seeking
        ∧ (t.port p).slu.rx = .notDecoding)
      ∧ ((t.port p).rf.attempts = 0 ∧ (t.port p).rf.samples = [] ∧ (t.port p).rf.interval = none
        ∧ (t.port p).rf.verifySeen = 0 ∧ (t.port p).rf.verifyFraming = 0)
      ∧ ((t.port p).pm.watch = (s.port p).pm.watch ∧ (t.port p).pm.trigger = (s.port p).pm.trigger
        ∧ (t.port p).pm.await = none ∧ (t.port p).pm.tail = []
        ∧ (∀ i : PatternId, (t.port p).pm.eligible[i] = 0)
        ∧ (t.port p).pm.lastWatch = { pattern := 0xFF, sequence := 0, time := 0 })
      ∧ ((t.port p).ca.openData = none ∧ (t.port p).ca.openTx = none ∧ (t.port p).ca.lossRuns = []
        ∧ (t.port p).ca.events = [] ∧ (t.port p).ca.inHand = none ∧ (t.port p).ca.writePosition = 0
        ∧ (t.port p).ca.readMark = 0 ∧ (t.port p).ca.lastFetch = none ∧ (t.port p).ca.settled = false
        ∧ (t.port p).ca.state = .normal ∧ (t.port p).ca.gap = none
        ∧ (t.port p).ca.areaAddress = (s.port p).ca.areaAddress
        ∧ (t.port p).ca.areaSize = (s.port p).ca.areaSize ∧ (t.port p).ca.mode = (s.port p).ca.mode)
      ∧ (t.port p).freeze =
        { state := .live, postCount := (s.port p).freeze.postCount, remaining := 0, trigger := none }
      ∧ (t.port p).sense =
        { level := (s.port p).sense.level, presence := .unknown, runClass := .noRun, runCount := 0 }
      ∧ (t.port p).status = { StatusWriter.reset with lastWrite := (s.port p).status.lastWrite }
      ∧ (t.port p).status.changed = false ∧ (t.port p).status.noticeCount = 0
      ∧ (t.port p).status.lastNotice = .noNotice

/-- The reset values that the spec gives (R50, R52, R60, R64, R78, R91, R95, R118, R125, R156, R173, R174, R177):
at reset, on every port and in every shared block. -/
def Obligations.ResetStateHoldsTheSpecsValues : Prop :=
  State.reset.bus.control = .off ∧ State.reset.bus.anchorError = .noError
  ∧ State.reset.bus.anchorLo = 0 ∧ State.reset.bus.anchorHi = 0
  ∧ State.reset.partTime = 0 ∧ State.reset.phase = 0 ∧ State.reset.attention = 0
  ∧ State.reset.attnEnable = 0 ∧ State.reset.hme.busMaster = false ∧ State.reset.hme.message = false
  ∧ State.reset.tsu.inFlight = [] ∧ State.reset.tsu.sweep = none
  ∧ State.reset.tsu.pendingRequest = false
  ∧ (State.reset.scanner.presentMv = 3000 ∧ State.reset.scanner.absentMv = 2000
    ∧ State.reset.scanner.debounce = 3 ∧ State.reset.scanner.interval = 10
    ∧ State.reset.scanner.scanPorts = 24)
  ∧ (∀ i : PatternId, State.reset.patterns[i] = none)
  ∧ ∀ p : PortId,
    ((State.reset.port p).queue = [] ∧ (State.reset.port p).exc.state = .idle
      ∧ (State.reset.port p).hold.owner = none ∧ (State.reset.port p).guard = 0)
    ∧ (State.reset.port p).slu.line =
      { mode := .fixed, period := 3840, gap := 0, fallbackRate := 9600, pauseEnable := false
        format := { dataBits := 8, parity := .noParity, stopBits := 1 }
        lineEndCode := 0x0D, pauseMs := 0, endCodeEnable := true, endCode := 0x0A, quiet := 4 }
    ∧ ((State.reset.port p).slu.tx = .free ∧ (State.reset.port p).slu.receiveCount = 0
      ∧ (State.reset.port p).slu.fifo = []
      ∧ (State.reset.port p).slu.errors = { framing := 0, parity := 0, overruns := 0, breaks := 0 })
    ∧ (State.reset.port p).rf.state = .fixed
    ∧ ((State.reset.port p).pm.watch = 0 ∧ (State.reset.port p).pm.trigger = 0
      ∧ (State.reset.port p).pm.lastWatch.pattern = 0xFF)
    ∧ ((State.reset.port p).ca.writePosition = 0 ∧ (State.reset.port p).ca.gap = none)
    ∧ ((State.reset.port p).freeze.state = .live ∧ (State.reset.port p).freeze.postCount = 0)
    ∧ ((State.reset.port p).sense.presence = .unknown ∧ (State.reset.port p).sense.level = 0)
    ∧ ((State.reset.port p).status.noticeCount = 0 ∧ (State.reset.port p).status.lastNotice = .noNotice)

/-- The bounds of R25, R69, R89, R91, R137, R169 and R170 hold at reset. -/
def Obligations.ResetStateIsSafe : Prop := State.reset.Safe

/-! ### Enable and drain -/

/-- R177, R178: ENABLE in OFF or STOPPED, with none in progress, latches the anchor address: aligned, the header read
is wanted and nothing else changes; not aligned, the anchor error is ALIGN, ANCHOR is raised, no read is made and no
block receives anything. -/
def Obligations.EnableBeginsWithTheAlignmentCheck : Prop :=
  ∀ s : State, s.bus.control = .off ∨ s.bus.control = .stopped → s.bus.enabling = none →
    ((s.bus.anchorHi ++ s.bus.anchorLo).toNat % 4096 = 0 →
      exec .enable s = .next { s with bus := { s.bus with
        enabling := some { anchor := s.bus.anchorHi ++ s.bus.anchorLo, stage := .headerWanted } } })
    ∧ ((s.bus.anchorHi ++ s.bus.anchorLo).toNat % 4096 ≠ 0 →
      ∃ t, exec .enable s = .next t ∧ t.bus = { s.bus with anchorError := .align }
        ∧ t.attention = s.attention ||| 1#10 <<< 8 ∧ t.attnEnable = s.attnEnable ∧ t.ports = s.ports
        ∧ t.tsu = s.tsu ∧ t.scanner = s.scanner ∧ t.patterns = s.patterns ∧ t.time = s.time
        ∧ t.hme.queuedWrites = s.hme.queuedWrites ∧ t.hme.reads = s.hme.reads)

/-- R178, checks 2 to 9. On the 64 bytes of an anchor header the first of checks 3 to 7 that fails gives its error; a
header that passes them all leads to the read of the descriptors. A read fault of either read is READ_FAULT. A
descriptor of an in-use port with a size code outside 12 to 20, or an area that its size does not divide, is CAPTURE;
where none is wrong the enable succeeds. Each failure raises ANCHOR, ends the enable, and changes no other block and
no control state. -/
def Obligations.AnchorHeaderChecksAreMadeInOrder : Prop :=
  (∀ (s : State) (a : Addr) (b : List Byte),
    (∀ code,
      (if leNat (b.take 4) ≠ 0x57430001 then some AnchorError.tag
        else if leNat ((b.drop 4).take 2) ≠ 1 then some .version
        else if leNat ((b.drop 6).take 1) = 0 ∨ 24 < leNat ((b.drop 6).take 1) then some .ports
        else if leNat ((b.drop 8).take 2) < 16 ∨ 128 < leNat ((b.drop 8).take 2)
            ∨ leNat ((b.drop 8).take 2) % 16 ≠ 0 then some .slots
        else if leNat ((b.drop 16).take 8) % 4096 ≠ 0 then some .align
        else none) = some code → s.enableFailed code (s.anchorArrives a b))
    ∧ ((leNat (b.take 4) = 0x57430001 ∧ leNat ((b.drop 4).take 2) = 1
        ∧ 1 ≤ leNat ((b.drop 6).take 1) ∧ leNat ((b.drop 6).take 1) ≤ 24
        ∧ 16 ≤ leNat ((b.drop 8).take 2) ∧ leNat ((b.drop 8).take 2) ≤ 128
        ∧ leNat ((b.drop 8).take 2) % 16 = 0 ∧ leNat ((b.drop 16).take 8) % 4096 = 0) →
      ∃ h : AnchorHeader, s.anchorArrives a b = { s with bus := { s.bus with
          enabling := some { anchor := a, stage := .descriptorsWanted h } } }
        ∧ h.portCount = leNat ((b.drop 6).take 1) ∧ h.slotCount = leNat ((b.drop 8).take 2)
        ∧ h.sweepPeriod = leNat ((b.drop 10).take 2)
        ∧ h.tableAddress = BitVec.ofNat 64 (leNat ((b.drop 16).take 8))))
  ∧ (∀ (s : State) (a : Addr) (r : Nat) (b : List Byte),
      s.bus.enabling = some { anchor := a, stage := .headerOut r } →
      s.enableReadEnds r (some b) = s.anchorArrives a b
      ∧ s.enableFailed .readFault (s.enableReadEnds r none))
  ∧ (∀ (s : State) (a : Addr) (h : AnchorHeader) (r : Nat) (b : List Byte),
      s.bus.enabling = some { anchor := a, stage := .descriptorsOut h r } →
      s.enableFailed .readFault (s.enableReadEnds r none)
      ∧ ((∃ n, n < h.portCount ∧ (leNat ((b.drop (16 * n + 8)).take 1) < 12
            ∨ 20 < leNat ((b.drop (16 * n + 8)).take 1)
            ∨ leNat ((b.drop (16 * n)).take 8) % 2 ^ leNat ((b.drop (16 * n + 8)).take 1) ≠ 0)) →
          s.enableFailed .capture (s.enableReadEnds r (some b)))
      ∧ ((∀ n, n < h.portCount → 12 ≤ leNat ((b.drop (16 * n + 8)).take 1)
            ∧ leNat ((b.drop (16 * n + 8)).take 1) ≤ 20
            ∧ leNat ((b.drop (16 * n)).take 8) % 2 ^ leNat ((b.drop (16 * n + 8)).take 1) = 0) →
          s.enableReadEnds r (some b) = s.succeedEnable a h b))

/-- R179, R180, R165, R124, R125, R144, R154: what a successful enable hands to each block, on ports in use and on ports
that it leaves unused; what it keeps. On a port in use whose mode is HISTORY or KEEP and whose freeze is not FROZEN
the ENABLED mark comes into hand as the first record, the pending gap behind it; in mode OFF the freeze is LIVE and the
gap 0. A sense sweep goes on only below the new port count. A pending request starts a sweep at the first slot that is
not in flight. That an interval of SPACE in progress is dropped on an unused port is the model's reading (log 33). -/
def Obligations.EnableHandsEachBlockItsValues : Prop :=
  ∀ (s t : State) (a : Addr) (h : AnchorHeader) (d : List Byte), h.portCount ≤ 24 →
    s.succeedEnable a h d = t →
    t.bus = { s.bus with
        control := .running, anchorError := .noError, anchor := a, enabling := none
        settleHanded := false }
    ∧ t.tsu.geometry =
        { tableAddress := h.tableAddress, slotCount := h.slotCount, portCount := h.portCount,
          sweepPeriod := min h.sweepPeriod 1000 }
    ∧ t.scanner = { s.scanner with
        scanPorts := h.portCount
        sweep := match s.scanner.sweep with
          | none => none
          | some w => if w.port < h.portCount then some w else none }
    ∧ t.patterns = s.patterns ∧ t.time = s.time ∧ t.attnEnable = s.attnEnable
    ∧ t.attention = s.attention ∧ t.hme = s.hme
    ∧ (s.tsu.pendingRequest = false → t.tsu.sweep = none
        ∧ (h.sweepPeriod ≠ 0 → t.tsu.timer = some (s.arm (min h.sweepPeriod 1000))))
    ∧ (∀ k, s.tsu.pendingRequest = true → k < h.slotCount → k ∉ s.tsu.inFlight →
        (∀ j, j < k → j ∈ s.tsu.inFlight) →
        t.tsu.sweep = some { requested := true, index := k, stage := .headerWanted }
        ∧ t.tsu.pendingRequest = false ∧ t.tsu.timer = none)
    ∧ (∀ p : PortId, p.val < h.portCount →
        (t.port p).ca.areaAddress = BitVec.ofNat 64 (leNat ((d.drop (16 * p.val)).take 8))
        ∧ (t.port p).ca.areaSize = 2 ^ leNat ((d.drop (16 * p.val + 8)).take 1)
        ∧ (t.port p).ca.mode =
            (match leNat ((d.drop (16 * p.val + 9)).take 1) with
              | 0 => .history | 1 => .keep | _ => .off)
        ∧ (t.port p).ca.writePosition = 0 ∧ (t.port p).ca.readMark = 0
        ∧ (t.port p).ca.lastFetch = none ∧ (t.port p).ca.events = []
        ∧ (t.port p).ca.openTx = none ∧ (t.port p).ca.lossRuns = (s.port p).ca.lossRuns
        ∧ (t.port p).ca.settled = false ∧ (t.port p).status.changed = true
        ∧ (t.port p).slu = (s.port p).slu ∧ (t.port p).pm = (s.port p).pm
        ∧ (t.port p).guard = (s.port p).guard ∧ (t.port p).hold = (s.port p).hold
        ∧ (t.port p).sense = (s.port p).sense ∧ (t.port p).rf.state = (s.port p).rf.state
        ∧ (1 < leNat ((d.drop (16 * p.val + 9)).take 1) →
            (t.port p).ca.state = .off ∧ (t.port p).ca.inHand = none ∧ (t.port p).ca.gap = none
            ∧ (t.port p).freeze = { (s.port p).freeze with
                state := .live, remaining := 0, trigger := none })
        ∧ (leNat ((d.drop (16 * p.val + 9)).take 1) ≤ 1 →
            (t.port p).ca.state = .normal ∧ (t.port p).ca.gap = (s.port p).ca.gap
            ∧ (t.port p).freeze = (s.port p).freeze
            ∧ ((s.port p).freeze.state = .frozen →
                (t.port p).ca.inHand = none ∧ (t.port p).ca.agenda = [])
            ∧ ((s.port p).freeze.state ≠ .frozen →
                12 ≤ leNat ((d.drop (16 * p.val + 8)).take 1) →
                (t.port p).ca.inHand = some {
                  records := [.record (.mark .enabled 0 s.partTime (s.port p).slu.receiveCount)]
                  passed := true }
                ∧ (t.port p).ca.agenda = [.writeGap])))
    ∧ (∀ p : PortId, h.portCount ≤ p.val →
        (t.port p).sense.presence = .unknown ∧ (t.port p).sense.level = 0
        ∧ (t.port p).slu.fifo = [] ∧ (t.port p).ca.lossRuns = [] ∧ (t.port p).ca.events = []
        ∧ (t.port p).ca.openData = none ∧ (t.port p).ca.openTx = none ∧ (t.port p).ca.gap = none
        ∧ (t.port p).pm = (s.port p).pm ∧ (t.port p).guard = (s.port p).guard
        ∧ (t.port p).rf = { (s.port p).rf with interval := none })

/-- R49, R181: STOP in RUNNING leaves a started head where it is and takes every other entry off every queue; each entry
that is no broadcast share is completed DRAINED, with its times the part time of the STOP and every other result 0.
R143, R182: each Capture Assembler in use is handed its start-of-drain item, and where no head had started its settle
request too. The control state becomes DRAINING, and goes on to STOPPED in the same event only where every port in use
has had its final status write. The receivers, the settings, the guards, the presence and the rate states are not
touched; where the STOP itself completes the drain the transmitters are FREE (R81, log 35). -/
def Obligations.StopDrainsUnstartedEntries : Prop :=
  ∀ s : State, s.bus.control = .running →
    ∃ t, exec .stop s = .next t
      ∧ (t.bus.control = .draining ∨ t.bus.control = .stopped)
      ∧ ((∃ p : PortId, p.val < s.tsu.geometry.portCount ∧ (s.port p).status.finalIssued = false) →
        t.bus.control = .draining)
      ∧ t.tsu.sweep = s.tsu.sweep ∧ t.tsu.inFlight = s.tsu.inFlight ∧ t.time = s.time
      ∧ (∀ p : PortId,
          (t.port p).queue = (if (s.port p).exc.state = .idle then [] else (s.port p).queue.take 1)
          ∧ (t.port p).exc = (s.port p).exc
          ∧ (t.port p).slu = { (s.port p).slu with
              tx := if t.bus.control = .stopped then .free else (s.port p).slu.tx }
          ∧ (t.port p).rf = (s.port p).rf ∧ (t.port p).pm = (s.port p).pm
          ∧ (t.port p).guard = (s.port p).guard ∧ (t.port p).sense = (s.port p).sense
          ∧ (t.port p).freeze = (s.port p).freeze)
      ∧ (∀ (p : PortId) (e : QueueEntry), e.kind ≠ .broadcast →
          e ∈ (if (s.port p).exc.state = .idle then (s.port p).queue else (s.port p).queue.tail) →
          { slot := e.slot, notify := e.fields.notify, code := ResultCode.drained, attempts := 0,
            bytesSent := 0, matchSequence := 0, startTime := s.partTime, endTime := s.partTime,
            outcomeA := 0, outcomeB := 0 } ∈ t.tsu.completions)
      ∧ (∀ p : PortId, p.val < s.tsu.geometry.portCount → (s.port p).ca.ordinaryItems < 16 →
          EventItem.mk (s.port p).slu.receiveCount s.partTime (.close []) ∈ (t.port p).ca.events)
      ∧ (s.bus.settleHanded = false →
          (∀ p : PortId, (s.port p).exc.state = .idle ∨ (s.port p).queue = []) →
          ∀ p : PortId, p.val < s.tsu.geometry.portCount →
            EventItem.mk (s.port p).slu.receiveCount s.partTime .settle ∈ (t.port p).ca.events)

/-- R182, R143, R59, R5, R81: in DRAINING, at the first moment at which every queue is empty, each Capture Assembler in
use is handed its settle request at its receive count, once. Where the conditions of STOPPED then hold together the
part enters it: STOPPED is raised, every hold is cleared without a notice, the sweep timer is disarmed, the
transmitters are FREE (the model's reading, log 35); where they do not, nothing changes. -/
def Obligations.StoppedIsEnteredWhenTheDrainIsDone : Prop :=
  (∀ s : State, s.bus.control = .draining → s.bus.settleHanded = true →
    ((∀ p : PortId, (s.port p).queue = []) →
      (∀ p : PortId, p.val < s.tsu.geometry.portCount → (s.port p).status.finalIssued = true) →
      s.tsu.sweep = none → s.tsu.completions = [] → s.tsu.writes = [] → s.hme.queuedWrites = 0 →
      s.watchDrain.bus.control = .stopped ∧ s.watchDrain.attention = s.attention ||| 1#10 <<< 9
      ∧ s.watchDrain.tsu.timer = none
      ∧ ∀ p : PortId, (s.watchDrain.port p).hold = { owner := none, idleSeconds := 0, timer := none }
        ∧ (s.watchDrain.port p).status.noticeCount = (s.port p).status.noticeCount
        ∧ (s.watchDrain.port p).guard = (s.port p).guard
        ∧ (s.watchDrain.port p).slu = { (s.port p).slu with tx := .free }
        ∧ (s.watchDrain.port p).ca = (s.port p).ca)
    ∧ ((∃ p : PortId, (s.port p).queue ≠ [])
        ∨ (∃ p : PortId, p.val < s.tsu.geometry.portCount ∧ (s.port p).status.finalIssued = false)
        ∨ s.tsu.sweep ≠ none ∨ s.tsu.completions ≠ [] ∨ s.tsu.writes ≠ [] ∨ s.hme.queuedWrites ≠ 0 →
      s.watchDrain = s))
  ∧ (∀ s : State, s.bus.control = .draining → s.bus.settleHanded = false →
    ((∃ p : PortId, (s.port p).queue ≠ []) → s.watchDrain = s)
    ∧ ((∀ p : PortId, (s.port p).queue = []) →
        (∃ p : PortId, p.val < s.tsu.geometry.portCount ∧ (s.port p).status.finalIssued = false) →
        s.watchDrain.bus = { s.bus with settleHanded := true }
        ∧ (∀ p : PortId, p.val < s.tsu.geometry.portCount →
            s.watchDrain.port p = { s.port p with ca := { (s.port p).ca with
              events := ((s.port p).ca.events.filter fun it => it.action ≠ .settle)
                ++ [EventItem.mk (s.port p).slu.receiveCount s.partTime .settle]
              runGrows := false } })
        ∧ (∀ p : PortId, s.tsu.geometry.portCount ≤ p.val → s.watchDrain.port p = s.port p)
        ∧ s.watchDrain.tsu = s.tsu ∧ s.watchDrain.hme = s.hme ∧ s.watchDrain.attention = s.attention))
  ∧ (∀ s : State, s.bus.control ≠ .draining → s.watchDrain = s)

/-! ### The sweep -/

/-- R4: what is a sweep request; the table of sweep requests, a sweep from index 0 passing over the slots in flight
(R7) and ending at once where all are (R6); the timer that every start disarms, and the flag that the start of a
requested sweep clears. That a REGISTER_WRITE of CONTROL with the SWEEP bit is a sweep request is the model's reading
of the rows (log 31). -/
def Obligations.SweepRequestsStartOrWait : Prop :=
  (∀ (v : Word) (s : State), v.getLsbD 0 = false → v.getLsbD 1 = false → v.getLsbD 3 = false →
      exec (.registerWrite .control 4 v) s = if v.getLsbD 2 then exec .sweep s else .next s)
  ∧ (∀ (s : State) (k : Nat), s.bus.control = .running ∨ s.bus.control = .draining →
      s.tsu.sweep = none → k < s.tsu.geometry.slotCount → k ∉ s.tsu.inFlight →
      (∀ j, j < k → j ∈ s.tsu.inFlight) →
      exec .sweep s = .next { s with tsu := { s.tsu with
        sweep := some { requested := true, index := k, stage := .headerWanted }
        timer := none
        pendingRequest := false } })
  ∧ (∀ s : State, s.bus.control = .running ∨ s.bus.control = .draining → s.tsu.sweep = none →
      (∀ j, j < s.tsu.geometry.slotCount → j ∈ s.tsu.inFlight) →
      ∃ t, exec .sweep s = .next t ∧ t.tsu.sweep = none ∧ t.tsu.pendingRequest = false)
  ∧ (∀ s : State, s.bus.control = .running ∨ s.bus.control = .draining → s.tsu.sweep.isSome = true →
      exec .sweep s = .next { s with tsu := { s.tsu with pendingRequest := true } })
  ∧ (∀ s : State, s.bus.control = .off ∨ s.bus.control = .stopped →
      exec .sweep s = .next { s with tsu := { s.tsu with pendingRequest := true } })
  ∧ (∀ (s : State) (requested : Bool) (w : Sweep), (s.startSweep requested).tsu.sweep = some w →
      (s.startSweep requested).tsu.timer = none
      ∧ (w.requested = true → (s.startSweep requested).tsu.pendingRequest = false))

/-- R5, R7: the sweep timer's expiry in RUNNING and DRAINING starts a timed sweep at the first slot that is not in
flight, and disarms the timer; a pending request stays. While the timer has not reached its increment, or is not armed,
nothing happens. -/
def Obligations.SweepTimerStartsATimedSweep : Prop :=
  (∀ (s : State) (tm : Timer) (k : Nat), s.bus.control = .running ∨ s.bus.control = .draining →
      s.tsu.sweep = none → s.tsu.timer = some tm → tm.armedAt + tm.span ≤ s.time.increments →
      k < s.tsu.geometry.slotCount → k ∉ s.tsu.inFlight → (∀ j, j < k → j ∈ s.tsu.inFlight) →
      exec .sweepTimerExpiry s = .next { s with tsu := { s.tsu with
        sweep := some { requested := false, index := k, stage := .headerWanted }
        timer := none } })
  ∧ (∀ (s : State) (tm : Timer), s.tsu.timer = some tm → s.time.increments < tm.armedAt + tm.span →
      exec .sweepTimerExpiry s = .next s)
  ∧ (∀ s : State, s.tsu.timer = none → exec .sweepTimerExpiry s = .next s)

/-- R11, R12, R23: a POSTED slot in hand in RUNNING is checked in the order of the reasons: kind, port, text length,
pattern, port set, target, elements, each for the kinds that it applies to. The first that fails completes the slot
BAD_TASK with that reason, its other results 0 and both times the present, written result fields first and DONE last,
without admission, and nothing else changes; a slot that fails none is carried out as its kind. R10: in DRAINING a slot
of a kind other than ABORT is left POSTED, and an ABORT is treated as in RUNNING. -/
def Obligations.RefusedSlotsAreCompletedBadTask : Prop :=
  (∀ (s : State) (w : Sweep) (t : TaskSlot) (reason : Nat),
    s.bus.control = .running ∨ (s.bus.control = .draining ∧ t.kindCode = 16) → t.stateByte = 1 →
    reason =
      (if t.kindCode ∉ [1, 2, 3, 4, 5, 6, 7, 8, 9, 10, 16, 17, 18] then 1
      else if t.kindCode ∈ [1, 2, 3, 4, 5, 6, 7, 8, 9] ∧ s.tsu.geometry.portCount ≤ t.port then 2
      else if (t.kindCode ∈ [1, 2, 10] ∧ 1024 < t.fields.textLength)
          ∨ (t.kindCode = 10 ∧ t.fields.textLength = 0) then 3
      else if (t.kindCode ∈ [2, 17] ∧ 31 < t.fields.patternId)
          ∨ (t.kindCode = 2 ∧ ∃ i : PatternId, i.val = t.fields.patternId ∧ s.patterns[i] = none) then 4
      else if t.kindCode = 10 ∧ ∀ p : PortId, p.val < s.tsu.geometry.portCount →
          t.fields.paramA.getLsbD p.val = false then 5
      else if t.kindCode = 16 ∧ s.tsu.geometry.slotCount ≤ t.fields.paramA.toNat then 6
      else if t.kindCode = 17 ∧ (t.fields.textLength % 2 = 1 ∨ 48 < t.fields.textLength) then 7
      else 0) →
    (reason ≠ 0 → s.wholeSlot w t = { s with tsu := { s.tsu with
      writes := s.tsu.writes ++
        [ { address := addrPlus s.tsu.geometry.tableAddress (64 * w.index) + 40
            bytes := [6, 0, 0, 0, 0, 0, 0, 0] ++ leBytes 4 s.partTime.toNat
              ++ leBytes 4 s.partTime.toNat ++ [BitVec.ofNat 8 reason, 0, 0, 0, 0, 0, 0, 0]
            raisesTask := false },
          { address := addrPlus s.tsu.geometry.tableAddress (64 * w.index)
            bytes := [3]
            raisesTask := t.fields.flags.getLsbD 0 } ]
      sweep := some { w with stage := .writing } } })
    ∧ (reason = 0 → ∃ k, TaskKind.ofCode t.kindCode = some k ∧ s.wholeSlot w t = s.carryOut w k t))
  ∧ (∀ (s : State) (w : Sweep) (t : TaskSlot), s.bus.control = .draining → t.kindCode ≠ 16 →
      s.wholeSlot w t = s.sweepOn w.requested (w.index + 1))
  ∧ (∀ (s : State) (w : Sweep) (t : TaskSlot), t.stateByte ≠ 1 →
      s.wholeSlot w t = s.sweepOn w.requested (w.index + 1))

/-- R3, R13, R26, R27: a valid queued slot whose port has room is admitted: its entry stands behind a started head by
its key, its index is in flight, TAKEN is to be written, and the head goes on; on an idle port the entry is the head,
and where it passes its checks it starts at once, disarming the idle timer of its originator's hold (R55). With a full
queue the slot is left as it is and the sweep goes on. R14: a valid BROADCAST takes a place in every member queue, or in
none where one of them is full. Shown for SEND, and for BROADCAST on ports whose heads have started. -/
def Obligations.AdmissionNeedsRoomInTheQueue : Prop :=
  (∀ (s : State) (w : Sweep) (t : TaskSlot) (p : PortId) (head : QueueEntry) (rest : List QueueEntry),
    s.bus.control = .running → t.stateByte = 1 → t.kindCode = 1 → t.port = p.val →
    p.val < s.tsu.geometry.portCount → t.fields.textLength ≤ 1024 →
    (s.port p).queue = head :: rest → (s.port p).exc.state ≠ .idle →
    (rest.length < 7 →
      ((s.wholeSlot w t).port p).queue =
          head :: placeByKey { slot := w.index, kind := .send, fields := t.fields } rest
      ∧ ((s.wholeSlot w t).port p).exc = (s.port p).exc ∧ s.slotTaken w (s.wholeSlot w t)
      ∧ (s.wholeSlot w t).tsu.completions = s.tsu.completions ∧ (s.wholeSlot w t).hme = s.hme
      ∧ s.sameElsewhere p (s.wholeSlot w t))
    ∧ (7 ≤ rest.length → s.slotLeftPosted w (s.wholeSlot w t)))
  ∧ (∀ (s : State) (w : Sweep) (t : TaskSlot) (p : PortId),
    s.bus.control = .running → t.stateByte = 1 → t.kindCode = 1 → t.port = p.val →
    p.val < s.tsu.geometry.portCount → 0 < t.fields.textLength → t.fields.textLength ≤ 1024 →
    (s.port p).queue = [] → (s.port p).exc.state = .idle → (s.port p).guard.getLsbD 2 = false →
    (s.port p).hold.owner = none ∨ (s.port p).hold.owner = some t.fields.originator →
    t.fields.flags.getLsbD 1 = false ∨ (s.port p).sense.presence ≠ .absent →
    (s.port p).slu.line.mode = .fixed →
      ((s.wholeSlot w t).port p).queue = [{ slot := w.index, kind := .send, fields := t.fields }]
      ∧ ((s.wholeSlot w t).port p).exc = { state := .sending, attempts := 1, bytesSent := 0,
                                           startTime := s.partTime, timer := none, stopping := none }
      ∧ ((s.wholeSlot w t).port p).slu = { (s.port p).slu with
          staging := [], fetchOffset := 0, textRead := none }
      ∧ ((s.wholeSlot w t).port p).hold = (s.port p).hold.restarted t.fields.originator none
      ∧ s.slotTaken w (s.wholeSlot w t) ∧ (s.wholeSlot w t).tsu.completions = s.tsu.completions
      ∧ s.sameElsewhere p (s.wholeSlot w t))
  ∧ (∀ (s : State) (w : Sweep) (t : TaskSlot) (members : List PortId),
    members = ((List.finRange 24).filter fun p =>
      t.fields.paramA.getLsbD p.val && decide (p.val < s.tsu.geometry.portCount)) →
    s.bus.control = .running → t.stateByte = 1 → t.kindCode = 10 → members ≠ [] →
    0 < t.fields.textLength → t.fields.textLength ≤ 1024 →
    ((∀ p ∈ members, (s.port p).exc.state ≠ .idle ∧ (s.port p).queue ≠ []
        ∧ (s.port p).queue.length < 8) →
      (∀ p ∈ members, ∀ head rest, (s.port p).queue = head :: rest →
          ((s.wholeSlot w t).port p).queue =
            head :: placeByKey { slot := w.index, kind := .broadcast, fields := t.fields } rest
          ∧ ((s.wholeSlot w t).port p).exc = (s.port p).exc)
      ∧ (∀ p, p ∉ members → (s.wholeSlot w t).port p = s.port p)
      ∧ s.slotTaken w (s.wholeSlot w t)
      ∧ ∃ b, (s.wholeSlot w t).tsu.broadcasts = s.tsu.broadcasts ++ [b] ∧ b.slot = w.index
        ∧ b.total = members.length ∧ b.left = members.length ∧ b.textLength = t.fields.textLength)
    ∧ ((∃ p ∈ members, 8 ≤ (s.port p).queue.length) → s.slotLeftPosted w (s.wholeSlot w t)))

/-- R26: the new entry goes right after the last entry whose key is no larger than its own, or to the front; the front
is the place behind the head where that has started, and a new entry of the smallest key becomes the head where it has
not. Entries in key order stay in key order, those of equal key in order of admission, and none is lost. A sweep goes on
to a later index, so that its admissions are in the order of slot indices. -/
def Obligations.QueueOrderIsByKeyThenAdmission : Prop :=
  (∀ (e : QueueEntry) (q : List QueueEntry),
    (∃ before after, q = before ++ after ∧ placeByKey e q = before ++ e :: after
      ∧ (∀ x ∈ after, e.fields.orderKey < x.fields.orderKey)
      ∧ (before = [] ∨ ∃ x, before.getLast? = some x ∧ x.fields.orderKey ≤ e.fields.orderKey))
    ∧ (q.Pairwise (fun x y => x.fields.orderKey ≤ y.fields.orderKey) →
        (placeByKey e q).Pairwise (fun x y => x.fields.orderKey ≤ y.fields.orderKey)
        ∧ placeByKey e q = (q.filter fun x => x.fields.orderKey ≤ e.fields.orderKey)
            ++ e :: (q.filter fun x => e.fields.orderKey < x.fields.orderKey))
    ∧ ((∀ x ∈ q, e.fields.orderKey < x.fields.orderKey) → placeByKey e q = e :: q))
  ∧ (∀ (s : State) (p : PortId) (e : QueueEntry),
      ((s.port p).exc.state = .idle ∨ (s.port p).queue = [] →
        ((s.addEntry p e).port p).queue = placeByKey e (s.port p).queue)
      ∧ (∀ head rest, (s.port p).exc.state ≠ .idle → (s.port p).queue = head :: rest →
        ((s.addEntry p e).port p).queue = head :: placeByKey e rest)
      ∧ s.sameElsewhere p (s.addEntry p e))
  ∧ (∀ (s : State) (requested : Bool) (i j : Nat), i ≤ j → j < s.tsu.geometry.slotCount →
      j ∉ s.tsu.inFlight → ∃ k, i ≤ k ∧ k ≤ j ∧ (s.sweepOn requested i).tsu.sweep =
        some { requested := requested, index := k, stage := .headerWanted })

/-- R22, R23, R3: the TSU takes the oldest completion once no slot write waits: its index leaves the in-flight set, and
the write of bytes 40 to 63 and then the write of DONE are requested; TASK goes with the DONE of a NOTIFY slot.
Where none waits nothing happens. That a completion waits while a slot write does is the model's reading (log 15). -/
def Obligations.CompletionsAreTakenInOrder : Prop :=
  (∀ (s : State) (c : Completion) (rest : List Completion), s.tsu.completions = c :: rest →
      s.tsu.writes = [] →
      exec .tsuTakeCompletion s = .next { s with tsu := { s.tsu with
        completions := rest
        inFlight := s.tsu.inFlight.filter fun i => i ≠ c.slot
        writes :=
          [ { address := addrPlus s.tsu.geometry.tableAddress (64 * c.slot) + 40
              bytes := leBytes 1 c.code.code ++ leBytes 1 c.attempts ++ leBytes 2 c.bytesSent
                ++ leBytes 4 c.matchSequence.toNat ++ leBytes 4 c.startTime.toNat
                ++ leBytes 4 c.endTime.toNat ++ leBytes 4 c.outcomeA.toNat
                ++ leBytes 4 c.outcomeB.toNat
              raisesTask := false },
            { address := addrPlus s.tsu.geometry.tableAddress (64 * c.slot)
              bytes := [3]
              raisesTask := c.notify } ] } })
  ∧ (∀ s : State, s.tsu.completions = [] ∨ s.tsu.writes ≠ [] → exec .tsuTakeCompletion s = .next s)

/-! ### The Host Memory Engine -/

/-- R168: the pieces of a request of at most 512 bytes follow one another from its address on and cover it; none
crosses a multiple of 1024, none is longer than 512 bytes, none is empty; a request is cut only at a multiple of 1024
and after a piece of 512 bytes. -/
def Obligations.PiecesCoverTheRequest : Prop :=
  ∀ (a : Addr) (n : Nat), n ≤ 512 →
    ((piecesOf a n).map Prod.snd).sum = n
    ∧ (∀ x ∈ piecesOf a n, 1 ≤ x.2 ∧ x.2 ≤ 512 ∧ x.1.toNat % 1024 + x.2 ≤ 1024)
    ∧ (∀ i b m, (piecesOf a n)[i]? = some (b, m) →
        b = a + BitVec.ofNat 64 (((piecesOf a n).take i).map Prod.snd).sum
        ∧ (i + 1 < (piecesOf a n).length → m = 512 ∨ (b.toNat + m) % 1024 = 0))

/-- R172: the arbiter serves the lowest class that holds a request that can be granted; in class 1 the TSU and the
status writer by turns; in the classes with a pointer the first port from it on, wrapping from 23 to 0. It grants
nothing only where no request of any class can be granted, and a class with a request that can be granted is served
where no lower class has one. A grant in class 1 gives the turn to the other of the two, and a grant to a port moves its
pointer to the port after it; both resets put the pointers at port 0 and give the TSU the turn. A request can be granted
where the write queue or the read table has room for its pieces. A sweep and an enable never wait together, since the
one runs in RUNNING and DRAINING and the other in OFF and STOPPED. -/
def Obligations.ArbiterServesTheLowestClass : Prop :=
  (∀ (s : State) (g : Grant), s.chosenGrant = some g →
    (match g with
      | .slotWrite w => s.tsu.writes.head? = some w ∧ s.writeFits w.address w.bytes.length = true
          ∧ (s.hme.tsuTurn = false → ∀ p, s.statusReady p = false)
      | .status p => s.statusReady p = true
          ∧ (s.hme.tsuTurn = true → ∀ w, s.tsu.writes.head? = some w →
              s.writeFits w.address w.bytes.length = false)
          ∧ ∀ i j : Fin 24, s.hme.statusPointer + i = p → j < i →
              s.statusReady (s.hme.statusPointer + j) = false
      | .sweepRead r a n => s.sweepRequest = some (r, a, n) ∧ s.readFits a n = true
      | .enableRead r a n => s.enableRequest = some (r, a, n) ∧ s.readFits a n = true
      | .readMark p => s.readMarkReady p = true
          ∧ ∀ i j : Fin 24, s.hme.markPointer + i = p → j < i →
              s.readMarkReady (s.hme.markPointer + j) = false
      | .text p a n => (s.port p).textRequest = some (a, n) ∧ s.readFits a n = true
          ∧ ∀ i j : Fin 24, s.hme.textPointer + i = p → j < i →
              s.textReady (s.hme.textPointer + j) = false
      | .capture p => s.captureReady p = true
          ∧ ∀ i j : Fin 24, s.hme.capturePointer + i = p → j < i →
              s.captureReady (s.hme.capturePointer + j) = false)
    ∧ ((∀ w, g ≠ .slotWrite w) → (∀ p, g ≠ .status p) → ¬ s.classOneReady)
    ∧ ((∃ p, g = .readMark p) ∨ (∃ p a n, g = .text p a n) ∨ (∃ p, g = .capture p) →
        ¬ s.classTwoReady)
    ∧ ((∃ p a n, g = .text p a n) ∨ (∃ p, g = .capture p) → ∀ p, s.readMarkReady p = false)
    ∧ ((∃ p, g = .capture p) → ∀ p, s.textReady p = false))
  ∧ (∀ s : State, s.chosenGrant = none →
      ¬ s.classOneReady ∧ ¬ s.classTwoReady ∧ (∀ p, s.readMarkReady p = false)
      ∧ (∀ p, s.textReady p = false) ∧ ∀ p, s.captureReady p = false)
  ∧ (∀ s : State, s.classOneReady →
      (∃ w, s.chosenGrant = some (.slotWrite w)) ∨ ∃ p, s.chosenGrant = some (.status p))
  ∧ (∀ s : State, ¬ s.classOneReady → s.classTwoReady →
      (∃ r a n, s.chosenGrant = some (.sweepRead r a n))
      ∨ ∃ r a n, s.chosenGrant = some (.enableRead r a n))
  ∧ (∀ (s : State) (p : PortId), ¬ s.classOneReady → ¬ s.classTwoReady → s.readMarkReady p = true →
      ∃ q, s.chosenGrant = some (.readMark q))
  ∧ (∀ (s : State) (p : PortId), ¬ s.classOneReady → ¬ s.classTwoReady →
      (∀ q, s.readMarkReady q = false) → s.textReady p = true →
      ∃ q a n, s.chosenGrant = some (.text q a n))
  ∧ (∀ (s : State) (p : PortId), ¬ s.classOneReady → ¬ s.classTwoReady →
      (∀ q, s.readMarkReady q = false) → (∀ q, s.textReady q = false) → s.captureReady p = true →
      ∃ q, s.chosenGrant = some (.capture q))
  ∧ (∀ (s : State) (g : Grant), s.hme.busMaster = true → s.chosenGrant = some g →
      ∃ t, exec .hmeGrant s = .next t
        ∧ t.hme.tsuTurn =
            (match g with | .slotWrite _ => false | .status _ => true | _ => s.hme.tsuTurn)
        ∧ t.hme.statusPointer = (match g with | .status p => p + 1 | _ => s.hme.statusPointer)
        ∧ t.hme.markPointer = (match g with | .readMark p => p + 1 | _ => s.hme.markPointer)
        ∧ t.hme.textPointer = (match g with | .text p _ _ => p + 1 | _ => s.hme.textPointer)
        ∧ t.hme.capturePointer = (match g with | .capture p => p + 1 | _ => s.hme.capturePointer))
  ∧ (∀ (c : Instr) (s : State), c = .hardReset ∨ c = .softReset →
      ∃ t, exec c s = .next t ∧ t.hme.tsuTurn = true ∧ t.hme.statusPointer = 0
        ∧ t.hme.markPointer = 0 ∧ t.hme.textPointer = 0 ∧ t.hme.capturePointer = 0)
  ∧ (∀ (s : State) (a : Addr) (n : Nat),
      (s.writeFits a n = true ↔ s.hme.queuedWrites + (piecesOf a n).length ≤ 16)
      ∧ (s.readFits a n = true ↔ s.hme.reads.length + (piecesOf a n).length ≤ 32))
  ∧ (∀ (s : State) (p : PortId),
      (s.statusReady p = true ↔ (s.port p).status.request.isSome = true
        ∧ s.writeFits (statusAddress s.bus.anchor p) 64 = true)
      ∧ (s.readMarkReady p = true ↔ (s.port p).ca.fetch = .wanted
        ∧ s.readFits (readMarkAddress s.bus.anchor p) 4 = true)
      ∧ (s.textReady p = true ↔ ∃ a n, (s.port p).textRequest = some (a, n) ∧ s.readFits a n = true)
      ∧ (s.captureReady p = true ↔ ∃ r rest,
        (s.port p).ca.inHand = some { records := r :: rest, passed := true }
        ∧ s.writeFits (s.port p).ca.recordAddress (s.recordBytes p r).length = true))
  ∧ (∀ s : State,
      (s.bus.control = .running ∨ s.bus.control = .draining → s.bus.enabling = none) →
      (s.bus.control = .off ∨ s.bus.control = .stopped → s.tsu.sweep = none) →
      s.sweepRequest = none ∨ s.enableRequest = none)

/-- R167 to R173: the grant of each kind of request that the arbiter chooses. It joins the back of the link's order,
takes its table entries where it is a read, moves its pointer to the port after, and has its effect at its requester;
with nothing to grant, or bus mastering disabled, nothing is granted. In DRAINING the Bus Port then watches its drain
(R182), and outside it nothing else happens. R83: a sending port asks for text, one read at a time, while text remains
and the staging buffer has room for 32 bytes or for all of it: for as much of the text as there is room for, from the
first byte not yet asked for. That a sending that stops asks for none (R82), and that the test and the length are taken
by the buffer as it stands at the grant, is the model's reading (log 10). -/
def Obligations.GrantIssuesTheChosenRequest : Prop :=
  (∀ s : State, s.hme.busMaster = false ∨ s.chosenGrant = none →
      exec .hmeGrant s = .next s.watchDrain)
  ∧ (∀ s : State, s.bus.control ≠ .draining → s.watchDrain = s)
  ∧ (∀ (s u : State) (w : SlotWrite) (rest : List SlotWrite), s.hme.busMaster = true →
      s.chosenGrant = some (.slotWrite w) → s.tsu.writes = w :: rest →
      u = { s with
        hme := { s.hme with
          outgoing := s.hme.outgoing
            ++ writePieces w.address w.bytes w.raisesTask (piecesOf w.address w.bytes.length)
          tsuTurn := false }
        tsu := { s.tsu with writes := rest } } →
      (s.tsu.sweep = none ∨ rest ≠ [] → exec .hmeGrant s = .next u.watchDrain)
      ∧ (∀ x, s.tsu.sweep = some x → x.stage ≠ .writing → exec .hmeGrant s = .next u.watchDrain)
      ∧ (∀ x, s.tsu.sweep = some x → x.stage = .writing → rest = [] →
          exec .hmeGrant s = .next (u.sweepOn x.requested (x.index + 1)).watchDrain))
  ∧ (∀ (s : State) (p : PortId), s.hme.busMaster = true → s.chosenGrant = some (.status p) →
      ∃ u, exec .hmeGrant s = .next u.watchDrain
        ∧ u.hme = { s.hme with
            outgoing := s.hme.outgoing ++ writePieces (statusAddress s.bus.anchor p)
              (s.port p).published.bytes false (piecesOf (statusAddress s.bus.anchor p) 64)
            statusPointer := p + 1
            tsuTurn := true }
        ∧ u.port p = { s.port p with status := { (s.port p).status with
            changed := false
            lastWrite := some s.partTime
            request := none
            finalIssued := (s.port p).status.finalIssued || (s.port p).status.request = some true } }
        ∧ s.sameElsewhere p u ∧ u.tsu = s.tsu ∧ u.attention = s.attention ∧ u.bus = s.bus)
  ∧ (∀ (s : State) (r : Requester) (a : Addr) (n : Nat) (w : Sweep), s.hme.busMaster = true →
      s.chosenGrant = some (.sweepRead r a n) → s.tsu.sweep = some w →
      ∃ u, exec .hmeGrant s = .next u.watchDrain ∧ s.readTaken r a n u
        ∧ (w.stage = .headerWanted →
            (r, a, n) = (.slotHeader, addrPlus s.tsu.geometry.tableAddress (64 * w.index), 8)
            ∧ u.tsu = { s.tsu with sweep := some { w with stage := .headerOut s.hme.nextRead } })
        ∧ (w.stage = .wholeWanted →
            (r, a, n) = (.wholeSlot, addrPlus s.tsu.geometry.tableAddress (64 * w.index), 64)
            ∧ u.tsu = { s.tsu with sweep := some { w with stage := .wholeOut s.hme.nextRead } })
        ∧ (∀ t start, w.stage = .patternWanted t start →
            (r, a, n) = (.patternText, t.fields.textAddress, t.fields.textLength)
            ∧ u.tsu = { s.tsu with
                sweep := some { w with stage := .patternOut t start s.hme.nextRead } })
        ∧ u.ports = s.ports ∧ u.attention = s.attention ∧ u.bus = s.bus)
  ∧ (∀ (s : State) (r : Requester) (a : Addr) (n : Nat) (e : Enabling), s.hme.busMaster = true →
      s.chosenGrant = some (.enableRead r a n) → s.bus.enabling = some e →
      ∃ u, exec .hmeGrant s = .next u.watchDrain ∧ s.readTaken r a n u
        ∧ (e.stage = .headerWanted → (r, a, n) = (.anchorHeader, e.anchor, 64)
            ∧ u.bus = { s.bus with
                enabling := some { e with stage := .headerOut s.hme.nextRead } })
        ∧ (∀ h, e.stage = .descriptorsWanted h →
            (r, a, n) = (.descriptors, addrPlus e.anchor 64, 16 * h.portCount)
            ∧ u.bus = { s.bus with
                enabling := some { e with stage := .descriptorsOut h s.hme.nextRead } })
        ∧ u.ports = s.ports ∧ u.attention = s.attention ∧ u.tsu = s.tsu)
  ∧ (∀ (s : State) (p : PortId), s.hme.busMaster = true → s.chosenGrant = some (.readMark p) →
      ∃ u, exec .hmeGrant s = .next u.watchDrain
        ∧ s.readTaken (.readMark p) (s.bus.anchor + BitVec.ofNat 64 (448 + 8 * p.val)) 4 u
        ∧ u.hme.markPointer = p + 1
        ∧ u.port p = { s.port p with ca := { (s.port p).ca with
            fetch := .outstanding s.hme.nextRead, lastFetch := some s.partTime } }
        ∧ s.sameElsewhere p u ∧ u.tsu = s.tsu ∧ u.attention = s.attention ∧ u.bus = s.bus)
  ∧ (∀ (s : State) (p : PortId) (a : Addr) (n : Nat), s.hme.busMaster = true →
      s.chosenGrant = some (.text p a n) →
      ∃ u, exec .hmeGrant s = .next u.watchDrain ∧ s.readTaken (.text p) a n u
        ∧ u.hme.textPointer = p + 1
        ∧ (∃ e rest, (s.port p).queue = e :: rest
          ∧ a = e.fields.textAddress + BitVec.ofNat 64 (s.port p).slu.fetchOffset
          ∧ n = min (64 - (s.port p).slu.staging.length)
              (e.fields.textLength - (s.port p).slu.fetchOffset))
        ∧ u.port p = { s.port p with slu := { (s.port p).slu with
            fetchOffset := (s.port p).slu.fetchOffset + n
            textRead := some s.hme.nextRead } }
        ∧ s.sameElsewhere p u ∧ u.tsu = s.tsu ∧ u.attention = s.attention ∧ u.bus = s.bus)
  ∧ (∀ (v : Port) (e : QueueEntry) (rest : List QueueEntry) (left room : Nat), v.queue = e :: rest →
      left = e.fields.textLength - v.slu.fetchOffset → room = 64 - v.slu.staging.length →
      (v.exc.state = .sending → v.exc.stopping = none → v.slu.textRead = none →
        v.slu.fetchOffset < e.fields.textLength → 32 ≤ room ∨ left ≤ room →
        v.textRequest =
          some (e.fields.textAddress + BitVec.ofNat 64 v.slu.fetchOffset, min room left))
      ∧ (v.exc.state ≠ .sending ∨ v.exc.stopping ≠ none ∨ v.slu.textRead ≠ none
          ∨ e.fields.textLength ≤ v.slu.fetchOffset ∨ (room < 32 ∧ room < left) →
        v.textRequest = none)
      ∧ (v.exc.state = .sending → v.exc.stopping = none → v.slu.textRead = none →
        v.slu.fetchOffset = 0 → v.slu.staging = [] → 0 < e.fields.textLength →
        v.textRequest = some (e.fields.textAddress, min 64 e.fields.textLength)))
  ∧ (∀ (s : State) (p : PortId) (r : UnitRecord) (rest : List UnitRecord), s.hme.busMaster = true →
      s.chosenGrant = some (.capture p) →
      (s.port p).ca.inHand = some { records := r :: rest, passed := true } →
      ∃ u, exec .hmeGrant s = .next u.watchDrain
        ∧ ((s.port p).ca.agenda = [] ∨ rest ≠ [] → u.hme = { s.hme with
            outgoing := s.hme.outgoing ++ writePieces
              ((s.port p).ca.areaAddress
                + BitVec.ofNat 64 ((s.port p).ca.writePosition.toNat % (s.port p).ca.areaSize))
              (r.bytes s.partTime (s.port p).slu.receiveCount) false
              (piecesOf ((s.port p).ca.areaAddress
                  + BitVec.ofNat 64 ((s.port p).ca.writePosition.toNat % (s.port p).ca.areaSize))
                (r.bytes s.partTime (s.port p).slu.receiveCount).length)
            capturePointer := p + 1 })
        ∧ u.hme.capturePointer = p + 1
        ∧ (u.port p).ca.writePosition = (s.port p).ca.writePosition + BitVec.ofNat 32 r.size
        ∧ (rest ≠ [] → (u.port p).ca.inHand = some { records := rest, passed := true })
        ∧ (rest = [] → (s.port p).ca.agenda = [] → (u.port p).ca.inHand = none)
        ∧ s.sameElsewhere p u ∧ u.tsu = s.tsu ∧ u.bus = s.bus)

/-- R169 to R171, R173, R23: the oldest write piece leaves the queue, TASK raised where it is the DONE of a NOTIFY slot;
a read piece leaves in grant order and its entry's timeout of 50 ms is armed, no other entry, port or cause changing;
what leaves is taken off the order, with the messages right behind it (log 13);
neither passes the other, and with bus mastering disabled nothing leaves. -/
def Obligations.PiecesLeaveInGrantOrder : Prop :=
  (∀ (s : State) (w : WritePiece) (rest : List LinkItem), s.hme.busMaster = true →
      s.hme.outgoing = .write w :: rest →
      ∃ t, exec .writePieceLeaves s = .next t
        ∧ t.hme.queuedWrites + 1 = s.hme.queuedWrites ∧ t.hme.reads = s.hme.reads
        ∧ (w.raisesTask = true → t.attention.getLsbD 0 = true)
        ∧ (s.bus.control ≠ .draining →
            t.attention = (if w.raisesTask then s.attention ||| 1#10 else s.attention)
            ∧ t.ports = s.ports ∧ t.tsu = s.tsu ∧ t.bus = s.bus ∧ t.patterns = s.patterns
            ∧ t.scanner = s.scanner ∧ t.time = s.time)
        ∧ (s.bus.control ≠ .draining → w.raisesTask = false →
            t.hme = { s.hme with
              outgoing := rest.dropWhile fun i => i = .message
              sent := (rest.takeWhile fun i => i = .message).reverse ++ .write w :: s.hme.sent }))
  ∧ (∀ s : State, s.bus.control ≠ .draining →
      s.hme.busMaster = false ∨ (∀ w rest, s.hme.outgoing ≠ .write w :: rest) →
      exec .writePieceLeaves s = .next s)
  ∧ (∀ (s : State) (tag : Nat) (a : Addr) (n : Nat) (rest : List LinkItem), s.hme.busMaster = true →
      s.hme.outgoing = .read tag a n :: rest →
      ∃ t, exec .readPieceLeaves s = .next t
        ∧ (∀ e ∈ s.hme.reads, e.tag = tag →
            { e with left := true, timer := some (s.arm 50) } ∈ t.hme.reads)
        ∧ (∀ e ∈ s.hme.reads, e.tag ≠ tag → e ∈ t.hme.reads)
        ∧ t.hme.reads.length = s.hme.reads.length ∧ t.hme.queuedWrites = s.hme.queuedWrites
        ∧ t.hme.outgoing = rest.dropWhile (fun i => i = .message)
        ∧ t.hme.sent = (rest.takeWhile fun i => i = .message).reverse ++ .read tag a n :: s.hme.sent
        ∧ t.ports = s.ports ∧ t.attention = s.attention ∧ t.tsu = s.tsu ∧ t.bus = s.bus
        ∧ t.time = s.time)
  ∧ (∀ s : State, s.hme.busMaster = false ∨ (∀ tag a n rest, s.hme.outgoing ≠ .read tag a n :: rest) →
      exec .readPieceLeaves s = .next s)

/-- R7, R9, R170, R171, on a slot header read of one piece that has left: an answer that says POSTED leads to the
whole-slot read of that slot; any other state byte ends the slot; an error answer raises FAULT and ends the slot.
The entry is freed each time. An answer that matches no entry is dropped. Of a text read of two pieces (R83), the
first answer is kept and the second hands both over in address order, behind the bytes staged. R8, R190: the 64 bytes
of a whole slot give the slot in hand its fields by their offsets, the originator by its low 4 bits, and an error answer
raises FAULT and skips the slot. R31, R84: an error answer to a text read ends the task MEMORY_FAULT and raises nothing;
shown for a task that is no share and has no entry behind it. -/
def Obligations.AnswerGoesToItsRequester : Prop :=
  (∀ (s : State) (w : Sweep) (e : ReadEntry) (b : List Byte), s.bus.control ≠ .draining →
      s.hme.reads = [e] → e.left = true → e.data = none → e.discarded = false →
      e.requester = .slotHeader → e.length = b.length → s.tsu.sweep = some w →
      w.stage = .headerOut e.read → 0 < b.length →
      (b.head? = some 1 →
        exec (.readPieceAnswer e.tag (some b)) s = .next { s with
          hme := { s.hme with reads := [] }
          tsu := { s.tsu with sweep := some { w with stage := .wholeWanted } } })
      ∧ (b.head? ≠ some 1 →
        exec (.readPieceAnswer e.tag (some b)) s
          = .next (({ s with hme := { s.hme with reads := [] } } : State).sweepOn w.requested
              (w.index + 1)))
      ∧ exec (.readPieceAnswer e.tag none) s
          = .next ((({ s with hme := { s.hme with reads := [] } } : State).raise .fault).sweepOn
              w.requested (w.index + 1)))
  ∧ (∀ (s : State) (tag : Nat) (answer : Option (List Byte)), s.bus.control ≠ .draining →
      (∀ e ∈ s.hme.reads, e.tag ≠ tag) → exec (.readPieceAnswer tag answer) s = .next s)
  ∧ (∀ (s : State) (p : PortId) (e f : ReadEntry) (b c : List Byte), s.bus.control ≠ .draining →
    s.hme.reads = [e, f] → e.read = f.read → e.tag ≠ f.tag →
    e.left = true → f.left = true → e.data = none → f.data = none →
    e.discarded = false → f.discarded = false → e.requester = .text p → f.requester = .text p →
    e.length = b.length → f.length = c.length → (s.port p).slu.textRead = some e.read →
    (s.port p).slu.tx ≠ .free →
    ∃ t u, exec (.readPieceAnswer f.tag (some c)) s = .next t ∧ t.ports = s.ports
      ∧ t.hme.reads = [e, { f with data := some c }]
      ∧ exec (.readPieceAnswer e.tag (some b)) t = .next u ∧ u.hme.reads = []
      ∧ (u.port p).slu.staging = (s.port p).slu.staging ++ b ++ c
      ∧ (u.port p).slu.textRead = none ∧ (u.port p).slu.tx = (s.port p).slu.tx
      ∧ s.sameElsewhere p u ∧ u.attention = s.attention)
  ∧ (∀ (s : State) (w : Sweep) (e : ReadEntry) (b : List Byte) (number : Nat → Nat → Nat),
      s.hme.reads = [e] → e.left = true → e.data = none → e.discarded = false →
      e.requester = .wholeSlot → e.length = 64 → b.length = 64 → s.tsu.sweep = some w →
      w.stage = .wholeOut e.read → (number = fun offset size => leNat ((b.drop offset).take size)) →
      (∃ t : TaskSlot,
        exec (.readPieceAnswer e.tag (some b)) s
          = .next (({ s with hme := { s.hme with reads := [] } } : State).wholeSlot w t).watchDrain
        ∧ t.stateByte.toNat = number 0 1 ∧ t.kindCode = number 1 1 ∧ t.port = number 2 1
        ∧ t.fields.originator.toNat = number 3 1 % 16 ∧ t.fields.orderKey = number 4 2
        ∧ t.fields.flags.toNat = number 6 2 ∧ t.fields.textAddress.toNat = number 8 8
        ∧ t.fields.textLength = number 16 2 ∧ t.fields.patternId = number 18 1 ∧ t.fields.retries = number 19 1
        ∧ t.fields.responseTime = number 20 2 ∧ t.fields.retryPause = number 22 2
        ∧ t.fields.paramA.toNat = number 24 4 ∧ t.fields.paramB.toNat = number 28 4
        ∧ t.fields.paramC.toNat = number 32 4 ∧ t.fields.paramD.toNat = number 36 4)
      ∧ exec (.readPieceAnswer e.tag none) s
          = .next ((({ s with hme := { s.hme with reads := [] } } : State).raise .fault).sweepOn
              w.requested (w.index + 1)).watchDrain)
  ∧ (∀ (s : State) (p : PortId) (e : ReadEntry) (q : QueueEntry), s.bus.control ≠ .draining →
      s.hme.reads = [e] → e.left = true → e.data = none → e.discarded = false →
      e.requester = .text p → (s.port p).slu.textRead = some e.read → (s.port p).queue = [q] →
      q.kind ≠ .broadcast → (s.port p).exc.state = .sending → (s.port p).exc.stopping = none →
      ∃ t, exec (.readPieceAnswer e.tag none) s = .next t ∧ s.textFaulted p q t)

/-- R171, R9: at the expiry of its timer a slot header read's piece is a read fault: FAULT is raised, the entry is
freed and the slot is skipped; a discarded piece is freed and nothing is reported (R170); before its expiry nothing
happens. R31, R84: at the expiry of a text read's piece the task ends MEMORY_FAULT and nothing is raised; shown for a
task that is no share and has no entry behind it. -/
def Obligations.ReadPieceTimeoutIsAReadFault : Prop :=
  (∀ (s : State) (w : Sweep) (e : ReadEntry) (tm : Timer), s.bus.control ≠ .draining →
      s.hme.reads = [e] → e.left = true → e.data = none → e.discarded = false →
      e.timer = some tm → tm.armedAt + tm.span ≤ s.time.increments →
      e.requester = .slotHeader → s.tsu.sweep = some w → w.stage = .headerOut e.read →
      exec (.readPieceTimeout e.tag) s
        = .next ((({ s with hme := { s.hme with reads := [] } } : State).raise .fault).sweepOn
            w.requested (w.index + 1)))
  ∧ (∀ (s : State) (e : ReadEntry) (tm : Timer), s.bus.control ≠ .draining →
      s.hme.reads = [e] → e.left = true → e.data = none → e.discarded = true →
      e.timer = some tm → tm.armedAt + tm.span ≤ s.time.increments →
      exec (.readPieceTimeout e.tag) s = .next { s with hme := { s.hme with reads := [] } })
  ∧ (∀ (s : State) (e : ReadEntry) (tm : Timer), s.bus.control ≠ .draining →
      s.hme.reads = [e] → e.timer = some tm → s.time.increments < tm.armedAt + tm.span →
      exec (.readPieceTimeout e.tag) s = .next s)
  ∧ (∀ (s : State) (p : PortId) (e : ReadEntry) (q : QueueEntry) (tm : Timer),
      s.bus.control ≠ .draining → s.hme.reads = [e] → e.left = true → e.data = none →
      e.discarded = false → e.timer = some tm → tm.armedAt + tm.span ≤ s.time.increments →
      e.requester = .text p → (s.port p).slu.textRead = some e.read → (s.port p).queue = [q] →
      q.kind ≠ .broadcast → (s.port p).exc.state = .sending → (s.port p).exc.stopping = none →
      ∃ t, exec (.readPieceTimeout e.tag) s = .next t ∧ s.textFaulted p q t)

/-- R173: the two settings become those written, and every grant, entry, timer and pointer stays; messages at the
front of the grant order go where bus mastering is enabled (log 13). That enabling messages sends none for causes
already live is the model's reading (log 16). -/
def Obligations.ConfigurationChangesOnlyTheSettings : Prop :=
  ∀ (bm msg : Bool) (s : State), ∃ t, exec (.busMasterConfigChange bm msg) s = .next t
    ∧ t.hme.busMaster = bm ∧ t.hme.message = msg ∧ t.hme.reads = s.hme.reads
    ∧ t.hme.queuedWrites = s.hme.queuedWrites ∧ t.hme.messages = s.hme.messages
    ∧ (t.hme.statusPointer = s.hme.statusPointer ∧ t.hme.markPointer = s.hme.markPointer
      ∧ t.hme.textPointer = s.hme.textPointer ∧ t.hme.capturePointer = s.hme.capturePointer
      ∧ t.hme.tsuTurn = s.hme.tsuTurn)
    ∧ (bm = false → t.hme.outgoing = s.hme.outgoing ∧ t.hme.sent = s.hme.sent)
    ∧ t.attention = s.attention ∧ t.attnEnable = s.attnEnable ∧ t.ports = s.ports ∧ t.tsu = s.tsu
    ∧ t.bus = s.bus ∧ t.time = s.time

/-! ### The Exchange Controller, holds and guards -/

/-- R28, R46, R60: the head checks in their order, each with the kinds it applies to and its code; a broadcast share
is also refused where its AUTO port is not LOCKED. R28, R29: a SEND, an EXCHANGE or a BREAK that passes them on an AUTO
port in SEEKING or VERIFYING enters RATE_WAIT with its limit armed; where the rate is LOCKED or FAILED it goes on, a
text to SENDING, an EXCHANGE without one to AWAITING and a BREAK to BREAKING; until then it waits. -/
def Obligations.HeadChecksAreMadeInOrder : Prop :=
  (∀ (v : Port) (e : QueueEntry),
    v.headCheck e =
      (if (e.kind = .brk ∧ v.guard.getLsbD 0) ∨ (e.kind = .line ∧ v.guard.getLsbD 1)
          ∨ ((e.kind = .send ∨ e.kind = .broadcast ∨ (e.kind = .exchange ∧ 0 < e.fields.textLength))
            ∧ v.guard.getLsbD 2) then some .guarded
        else if (e.kind = .send ∨ e.kind = .exchange ∨ e.kind = .brk ∨ e.kind = .line
              ∨ e.kind = .broadcast)
            ∧ (∃ o, v.hold.owner = some o ∧ o ≠ e.fields.originator) then some .held
        else if e.fields.flags.getLsbD 1 ∧ v.sense.presence = .absent then some .lineLost
        else if e.kind = .broadcast ∧ v.slu.line.mode = .auto ∧ v.rf.state ≠ .locked then some .noRate
        else none))
  ∧ (∀ (s : State) (p : PortId) (e : QueueEntry) (rest : List QueueEntry), (s.port p).queue = e :: rest →
      (s.port p).exc.state = .idle → (s.port p).headCheck e = none →
      e.kind = .send ∨ e.kind = .exchange ∨ e.kind = .brk → (s.port p).slu.line.mode = .auto →
      (s.port p).rf.state = .seeking ∨ (s.port p).rf.state = .verifying →
      ((s.serveQueue p).port p).queue = e :: rest
      ∧ ((s.serveQueue p).port p).exc =
          { state := .rateWait, attempts := 0, bytesSent := 0, startTime := s.partTime
            timer := some (s.arm (if e.fields.responseTime = 0 then 10000 else e.fields.responseTime))
            stopping := none }
      ∧ ((s.serveQueue p).port p).slu = (s.port p).slu ∧ s.onlyPort p (s.serveQueue p))
  ∧ (∀ (s : State) (p : PortId) (e : QueueEntry) (rest : List QueueEntry), (s.port p).queue = e :: rest →
      (s.port p).exc.state = .rateWait →
      ((s.port p).rf.state ≠ .locked → (s.port p).rf.state ≠ .failed → s.serveRateWait p = s)
      ∧ ((s.port p).rf.state = .locked ∨ (s.port p).rf.state = .failed →
          (e.kind = .send ∨ e.kind = .exchange → 0 < e.fields.textLength →
            ((s.serveRateWait p).port p).exc = { (s.port p).exc with
              state := .sending, attempts := (s.port p).exc.attempts + 1, timer := none }
            ∧ ((s.serveRateWait p).port p).slu.fetchOffset = 0
            ∧ ((s.serveRateWait p).port p).slu.tx = (s.port p).slu.tx
            ∧ ((s.serveRateWait p).port p).queue = e :: rest)
          ∧ (e.kind = .exchange → e.fields.textLength = 0 →
            ((s.serveRateWait p).port p).exc.state = .awaiting
            ∧ ((s.serveRateWait p).port p).exc.attempts = (s.port p).exc.attempts + 1
            ∧ ((s.serveRateWait p).port p).exc.timer.isSome = true
            ∧ ((s.serveRateWait p).port p).pm.await = some (Fin.ofNat 32 e.fields.patternId))
          ∧ (e.kind = .brk → ((s.serveRateWait p).port p).exc.state = .breaking
            ∧ ((s.serveRateWait p).port p).exc.startTime = (s.port p).exc.startTime
            ∧ ((s.port p).slu.tx = .free → ((s.serveRateWait p).port p).slu.tx = .breakSpace))))

/-- R29, R27: the rate-wait limit's expiry ends the task NO_RATE with every other result 0, and the entry leaves the
queue; here the only entry of the port. R55: where its originator holds the port, the end arms the hold's idle timer.
Before its expiry nothing happens. -/
def Obligations.RateWaitLimitEndsNoRate : Prop :=
  (∀ (s : State) (p : PortId) (e : QueueEntry) (tm : Timer), (s.port p).queue = [e] →
      e.kind ≠ .broadcast → (s.port p).exc.state = .rateWait → (s.port p).exc.timer = some tm →
      tm.armedAt + tm.span ≤ s.time.increments → (s.port p).exc.attempts = 0 →
      (s.port p).exc.bytesSent = 0 →
      ∃ t, exec (.rateWaitLimitExpiry p) s = .next t
        ∧ (t.port p).queue = [] ∧ (t.port p).exc = Exc.idle ∧ (t.port p).slu = (s.port p).slu
        ∧ (t.port p).rf = (s.port p).rf ∧ (t.port p).guard = (s.port p).guard
        ∧ (t.port p).hold = (s.port p).hold.restarted e.fields.originator
            (some (s.arm ((s.port p).hold.idleSeconds * 1000)))
        ∧ t.tsu.completions = s.tsu.completions ++
            [{ slot := e.slot, notify := e.fields.notify, code := ResultCode.noRate, attempts := 0,
               bytesSent := 0, matchSequence := 0, startTime := (s.port p).exc.startTime,
               endTime := s.partTime, outcomeA := 0, outcomeB := 0 }]
        ∧ t.tsu.inFlight = s.tsu.inFlight
        ∧ (s.bus.control ≠ .draining → s.sameElsewhere p t ∧ t.hme = s.hme))
  ∧ (∀ (s : State) (p : PortId) (tm : Timer), s.bus.control ≠ .draining →
      (s.port p).exc.timer = some tm → s.time.increments < tm.armedAt + tm.span →
      exec (.rateWaitLimitExpiry p) s = .next s)

/-- R35, R33: at the deadline's expiry the await is disarmed; with attempts left and a pause set the EXC pauses; with
attempts left and no pause the next attempt begins at once; with none left the task ends NO_MATCH. At most 16
attempts are allowed. R41, R76: an attempt with no text arms the deadline and the await again, with the default response
time where the field is 0. -/
def Obligations.ResponseDeadlineRetriesOrEnds : Prop :=
  ∀ (s : State) (p : PortId) (e : QueueEntry) (tm : Timer), (s.port p).queue = [e] →
    e.kind = .exchange → (s.port p).exc.state = .awaiting → (s.port p).exc.timer = some tm →
    tm.armedAt + tm.span ≤ s.time.increments →
    ∃ t, exec (.responseDeadlineExpiry p) s = .next t
      ∧ ((s.port p).exc.attempts < min e.fields.retries 15 + 1 → 0 < e.fields.retryPause →
          (t.port p).exc = { (s.port p).exc with
            state := .pausing, timer := some (s.arm e.fields.retryPause) }
          ∧ (t.port p).pm.await = none ∧ (t.port p).queue = [e] ∧ t.tsu.completions = s.tsu.completions
          ∧ (t.port p).slu = (s.port p).slu)
      ∧ ((s.port p).exc.attempts < min e.fields.retries 15 + 1 → e.fields.retryPause = 0 →
          0 < e.fields.textLength →
          (t.port p).exc.state = .sending ∧ (t.port p).exc.attempts = (s.port p).exc.attempts + 1
          ∧ (t.port p).exc.bytesSent = (s.port p).exc.bytesSent ∧ (t.port p).exc.timer = none
          ∧ (t.port p).slu.staging = [] ∧ (t.port p).slu.fetchOffset = 0
          ∧ (t.port p).slu.textRead = none ∧ (t.port p).pm.await = none ∧ (t.port p).queue = [e])
      ∧ ((s.port p).exc.attempts < min e.fields.retries 15 + 1 → e.fields.retryPause = 0 →
          e.fields.textLength = 0 →
          (t.port p).exc = { (s.port p).exc with
            attempts := (s.port p).exc.attempts + 1
            timer := some (s.arm ((s.port p).deadlineMs e.fields.responseTime)) }
          ∧ (t.port p).pm.await = some (Fin.ofNat 32 e.fields.patternId)
          ∧ (t.port p).slu = (s.port p).slu ∧ (t.port p).queue = [e]
          ∧ t.tsu.completions = s.tsu.completions)
      ∧ (min e.fields.retries 15 + 1 ≤ (s.port p).exc.attempts →
          (t.port p).queue = [] ∧ (t.port p).exc = Exc.idle
          ∧ t.tsu.completions = s.tsu.completions ++
              [{ slot := e.slot, notify := e.fields.notify, code := ResultCode.noMatch,
                 attempts := (s.port p).exc.attempts, bytesSent := (s.port p).exc.bytesSent,
                 matchSequence := 0, startTime := (s.port p).exc.startTime, endTime := s.partTime,
                 outcomeA := 0, outcomeB := 0 }])
      ∧ (s.bus.control ≠ .draining → s.sameElsewhere p t)
      ∧ (t.port p).guard = (s.port p).guard ∧ (t.port p).pm.watch = (s.port p).pm.watch

/-- R36, R35, R41: the retry pause's expiry begins the next attempt: it is counted, and it sends the text from its
first byte, or with no text arms the deadline and the await at once. R33, R76: the deadline's time is the field, or
where that is 0 the time of 200 characters. -/
def Obligations.RetryPauseBeginsTheNextAttempt : Prop :=
  ∀ (s : State) (p : PortId) (e : QueueEntry) (tm : Timer), (s.port p).queue.head? = some e →
    (s.port p).exc.state = .pausing → (s.port p).exc.timer = some tm →
    tm.armedAt + tm.span ≤ s.time.increments →
    ∃ t, exec (.retryPauseExpiry p) s = .next t
      ∧ (t.port p).exc.attempts = (s.port p).exc.attempts + 1
      ∧ (t.port p).exc.bytesSent = (s.port p).exc.bytesSent
      ∧ (0 < e.fields.textLength → (t.port p).exc.state = .sending ∧ (t.port p).exc.timer = none
          ∧ (t.port p).slu.staging = [] ∧ (t.port p).slu.fetchOffset = 0
          ∧ (t.port p).slu.textRead = none)
      ∧ (e.fields.textLength = 0 → (t.port p).exc.state = .awaiting
          ∧ (t.port p).exc.timer = some (s.arm ((s.port p).deadlineMs e.fields.responseTime))
          ∧ (t.port p).pm.await = some (Fin.ofNat 32 e.fields.patternId)
          ∧ (t.port p).slu = (s.port p).slu)
      ∧ (t.port p).queue = (s.port p).queue ∧ (t.port p).guard = (s.port p).guard
      ∧ (t.port p).hold = (s.port p).hold ∧ (t.port p).slu.line = (s.port p).slu.line
      ∧ t.tsu = s.tsu ∧ t.attention = s.attention ∧ s.sameElsewhere p t

/-- R56, R57, R176: at the idle timer's expiry the hold lapses: no owner, the idle seconds as they were, a HOLD_LOST
notice counted modulo 65536, HOLD raised, and nothing else of the port changed. Before it, nothing happens. -/
def Obligations.HoldLapsesAtItsIdleTimer : Prop :=
  (∀ (s : State) (p : PortId) (tm : Timer), (s.port p).hold.timer = some tm →
      tm.armedAt + tm.span ≤ s.time.increments →
      ∃ t, exec (.holdIdleTimerExpiry p) s = .next t
        ∧ (t.port p).hold = { owner := none, idleSeconds := (s.port p).hold.idleSeconds, timer := none }
        ∧ (t.port p).status.noticeCount = (s.port p).status.noticeCount + 1
        ∧ (t.port p).status.lastNotice = .holdLost ∧ (t.port p).status.changed = true
        ∧ t.attention = s.attention ||| 1#10 <<< 5
        ∧ (t.port p).queue = (s.port p).queue ∧ (t.port p).exc = (s.port p).exc
        ∧ (t.port p).guard = (s.port p).guard ∧ (t.port p).slu = (s.port p).slu
        ∧ (t.port p).ca = (s.port p).ca ∧ (t.port p).pm = (s.port p).pm
        ∧ (t.port p).rf = (s.port p).rf ∧ (t.port p).freeze = (s.port p).freeze
        ∧ (t.port p).sense = (s.port p).sense ∧ t.tsu = s.tsu
        ∧ t.bus = s.bus ∧ s.sameElsewhere p t)
  ∧ (∀ (s : State) (p : PortId), (∀ tm, (s.port p).hold.timer = some tm →
        s.time.increments < tm.armedAt + tm.span) → exec (.holdIdleTimerExpiry p) s = .next s)

/-- R53, R54, R61, R62: HOLD grants an unheld port, renews its owner's hold and refuses any other's; RELEASE by the
owner ends the hold, by another only with FORCE, with a notice; GUARD adds the named flags and takes none away. R55: an
entry of the owner disarms the idle timer when it starts and arms it with idle seconds × 1000 ms when it ends, whatever
its code; an entry of another originator leaves it. So a granted or renewed HOLD ends with the timer armed for its new
idle time, a task of the owner refused at the head restarts it, and a SEND of the owner leaves it disarmed while it is
in progress. -/
def Obligations.HoldReleaseAndGuardFollowTheirRecords : Prop :=
  (∀ (s : State) (p : PortId) (f : TaskFields),
    ((s.port p).hold.owner = none ∨ (s.port p).hold.owner = some f.originator →
      (s.holdTask p f).2.code = .ok
      ∧ ((s.holdTask p f).1.port p).hold.owner = some f.originator
      ∧ ((s.holdTask p f).1.port p).hold.idleSeconds =
          (if f.paramA = 0 then 300 else min f.paramA.toNat 3600)
      ∧ (s.holdTask p f).2.outcomeA =
          BitVec.ofNat 32 (if f.paramA = 0 then 300 else min f.paramA.toNat 3600))
    ∧ (∀ o, (s.port p).hold.owner = some o → o ≠ f.originator →
      s.holdTask p f = (s, { code := .held, matchSequence := 0, outcomeA := 0, outcomeB := 0 })
      ∧ (f.flags.getLsbD 3 = false → s.releaseTask p f =
          (s, { code := .notHolder, matchSequence := 0, outcomeA := 0, outcomeB := 0 }))
      ∧ (f.flags.getLsbD 3 = true → (s.releaseTask p f).2.code = .ok
          ∧ ((s.releaseTask p f).1.port p).hold.owner = none
          ∧ ((s.releaseTask p f).1.port p).status.lastNotice = .holdLost
          ∧ (s.releaseTask p f).1.attention = s.attention ||| 1#10 <<< 5))
    ∧ ((s.port p).hold.owner = some f.originator → (s.releaseTask p f).2.code = .ok
      ∧ ((s.releaseTask p f).1.port p).hold.owner = none
      ∧ ((s.releaseTask p f).1.port p).hold.timer = none
      ∧ ((s.releaseTask p f).1.port p).status.noticeCount = (s.port p).status.noticeCount)
    ∧ ((s.port p).hold.owner = none → s.releaseTask p f =
        (s, { code := .ok, matchSequence := 0, outcomeA := 0, outcomeB := 0 }))
    ∧ ((s.guardTask p f).2.code = .ok
      ∧ (∀ i, i < 3 → ((s.guardTask p f).1.port p).guard.getLsbD i =
          ((s.port p).guard.getLsbD i || f.paramA.getLsbD i))
      ∧ (s.guardTask p f).2.outcomeA = ((s.guardTask p f).1.port p).guard.setWidth 32))
  ∧ (∀ (s : State) (p : PortId) (e : QueueEntry),
      ((s.startEntry p e).port p).hold = (s.port p).hold.restarted e.fields.originator none)
  ∧ (∀ (s : State) (p : PortId) (e : QueueEntry) (rest : List QueueEntry) (fin : TaskEnd),
      (s.port p).queue = e :: rest →
      ((s.finishHead p fin).port p).hold = (s.port p).hold.restarted e.fields.originator
        (some (s.arm ((s.port p).hold.idleSeconds * 1000))))
  ∧ (∀ (s : State) (p : PortId) (e : QueueEntry) (seconds : Nat), (s.port p).queue = [e] →
      (s.port p).exc.state = .idle →
      seconds = (if e.fields.paramA = 0 then 300 else min e.fields.paramA.toNat 3600) →
      ((s.port p).headCheck e ≠ none → ((s.serveQueue p).port p).queue = []
        ∧ ((s.serveQueue p).port p).hold = (s.port p).hold.restarted e.fields.originator
            (some (s.arm ((s.port p).hold.idleSeconds * 1000))))
      ∧ ((s.port p).headCheck e = none → e.kind = .hold →
        (s.port p).hold.owner = none ∨ (s.port p).hold.owner = some e.fields.originator →
        ((s.serveQueue p).port p).queue = []
        ∧ ((s.serveQueue p).port p).hold =
            { owner := some e.fields.originator, idleSeconds := seconds
              timer := some (s.arm (seconds * 1000)) })
      ∧ ((s.port p).headCheck e = none → e.kind = .send → 0 < e.fields.textLength →
        (s.port p).slu.line.mode = .fixed →
        ((s.serveQueue p).port p).queue = [e]
        ∧ ((s.serveQueue p).port p).hold =
            (s.port p).hold.restarted e.fields.originator none))

/-! ### The transmit line -/

/-- R71, R81: a character's bits in line order: SPACE, the data bits from the least significant on, the parity bit
that makes the number of MARKs even or odd, and the stop bits at MARK. -/
def Obligations.CharactersAreFramedByTheFormat : Prop :=
  ∀ (f : LineFormat) (b : Byte), f.dataBits = 7 ∨ f.dataBits = 8 →
    (f.frame b).length = f.charBits
    ∧ (f.frame b)[0]? = some false
    ∧ (∀ i, i < f.dataBits → (f.frame b)[1 + i]? = some (b.getLsbD i))
    ∧ (f.parity = .even → (((f.frame b).drop 1).take (f.dataBits + 1)).count true % 2 = 0)
    ∧ (f.parity = .odd → (((f.frame b).drop 1).take (f.dataBits + 1)).count true % 2 = 1)
    ∧ (∀ i, i < f.stopBits → (f.frame b)[f.charBits - 1 - i]? = some true)

/-- R82, R30, R32, R72, R73, R81: at a character end one byte is counted, and the transmitter goes to its gap, without
one to the line-end pause where it follows, and otherwise is FREE: so while text remains, after the last character, and
where the task stops there. A FREE transmitter takes the next staged byte of a sending at that moment. A SEND whose text
is out ends OK with its length as bytes sent, an exchange awaits, and a task that was stopped ends with its own code; a
task that ends is here the only entry of its port. In DRAINING the Bus Port then watches its drain (R182). An end beyond
the part-time value is not taken (the model's choice, log 4). -/
def Obligations.CharacterEndCountsAndGoesOn : Prop :=
  (∀ (s : State) (p : PortId) (c : TxCharacter) (e : QueueEntry) (rest : List QueueEntry) (d : Nat)
    (after : Transmitter),
    (s.port p).slu.tx = .character c → d = c.startTick + c.period * c.bits.length →
    d ≤ (s.time.increments + 1) * 36864 → s.time.ticks ≤ d → (s.port p).queue = e :: rest →
    after =
      (if 0 < (s.port p).slu.line.gap * (s.port p).slu.line.period then
        .gap (d + (s.port p).slu.line.gap * (s.port p).slu.line.period) c.pauseFollows
      else if c.pauseFollows = true ∧ 0 < (s.port p).slu.line.pauseMs then
        .pause (d + (s.port p).slu.line.pauseMs * 36864)
      else .free) →
    ∃ u, exec (.txCharacterEnd p) s = .next u.watchDrain
      ∧ u.time = { s.time with ticks := d }
      ∧ ((s.port p).exc.state = .sending → (s.port p).exc.stopping = none →
          (u.port p).exc.bytesSent = (s.port p).exc.bytesSent + 1
          ∧ (u.port p).queue = e :: rest ∧ u.tsu.completions = s.tsu.completions
          ∧ (after ≠ .free ∨ (s.port p).slu.staging = [] →
              (u.port p).slu = { (s.port p).slu with tx := after }
              ∧ (u.port p).exc.state = .sending)
          ∧ (∀ b bs, after = .free → (s.port p).slu.staging = b :: bs →
              (u.port p).slu = { (s.port p).slu with
                tx := .character
                  { byte := b, bits := (s.port p).slu.line.format.frame b, startTick := d,
                    startTime := s.partTime, period := (s.port p).slu.line.period,
                    pauseFollows := (s.port p).slu.line.pauseEnable
                      && decide ((s.port p).slu.line.lineEndCode = b) }
                staging := bs }
              ∧ (u.port p).exc.state =
                (if bs = [] ∧ (s.port p).slu.textRead = none
                    ∧ e.fields.textLength ≤ (s.port p).slu.fetchOffset then .draining else .sending)))
      ∧ ((s.port p).exc.state = .draining ∨ (s.port p).exc.stopping ≠ none → rest = [] →
          (u.port p).slu.tx = after)
      ∧ ((s.port p).exc.state = .draining → (s.port p).exc.stopping = none → e.kind = .send → rest = [] →
          (u.port p).queue = [] ∧ (u.port p).exc = Exc.idle
          ∧ u.tsu.completions = s.tsu.completions ++
              [{ slot := e.slot, notify := e.fields.notify, code := ResultCode.ok,
                 attempts := (s.port p).exc.attempts, bytesSent := (s.port p).exc.bytesSent + 1,
                 matchSequence := 0, startTime := (s.port p).exc.startTime, endTime := s.partTime,
                 outcomeA := 0, outcomeB := 0 }])
      ∧ ((s.port p).exc.state = .draining → (s.port p).exc.stopping = none → e.kind = .exchange →
          (u.port p).slu.tx = after ∧ (u.port p).queue = e :: rest
          ∧ (u.port p).exc.state = .awaiting
          ∧ (u.port p).exc.bytesSent = (s.port p).exc.bytesSent + 1
          ∧ (u.port p).pm.await = some (Fin.ofNat 32 e.fields.patternId)
          ∧ (u.port p).exc.timer.isSome = true)
      ∧ (∀ why, (s.port p).exc.stopping = some why → e.kind ≠ .broadcast → rest = [] →
          (u.port p).queue = [] ∧ (u.port p).exc = Exc.idle
          ∧ u.tsu.completions = s.tsu.completions ++
              [{ slot := e.slot, notify := e.fields.notify, code := why.code,
                 attempts := (s.port p).exc.attempts, bytesSent := (s.port p).exc.bytesSent + 1,
                 matchSequence := 0, startTime := (s.port p).exc.startTime, endTime := s.partTime,
                 outcomeA := 0, outcomeB := 0 }])
      ∧ (rest = [] → (u.port p).slu.line = (s.port p).slu.line ∧ (u.port p).guard = (s.port p).guard
          ∧ (u.port p).slu.receiveCount = (s.port p).slu.receiveCount ∧ u.attention = s.attention)
      ∧ (rest = [] ∨ ((s.port p).exc.state = .sending ∧ (s.port p).exc.stopping = none) →
          s.sameElsewhere p u))
  ∧ (∀ (s : State) (p : PortId) (c : TxCharacter), (s.port p).slu.tx = .character c →
      (s.time.increments + 1) * 36864 < c.startTick + c.period * c.bits.length →
      exec (.txCharacterEnd p) s = .next s.watchDrain)

/-- R72, R73, R74, R82, R84: a gap that ends makes way for its pause or leaves the transmitter FREE, a pause leaves it
FREE; a FREE transmitter takes the next staged byte of a sending at that moment, or the SPACE of a break that
waits; with nothing waiting it stays FREE. An end that is taken late begins what follows at the clock's tick and not
at its own (the model's choice, log 4). -/
def Obligations.GapAndPauseEndInTurn : Prop :=
  (∀ (s : State) (p : PortId) (d : Nat), (s.port p).slu.tx = .gap d true →
      d ≤ (s.time.increments + 1) * 36864 → 0 < (s.port p).slu.line.pauseMs →
      ∃ t, exec (.txGapEnd p) s = .next t
        ∧ (t.port p).slu = { (s.port p).slu with
            tx := .pause (max s.time.ticks d + (s.port p).slu.line.pauseMs * 36864) }
        ∧ (t.port p).exc = (s.port p).exc ∧ (t.port p).queue = (s.port p).queue ∧ s.onlyPort p t)
  ∧ (∀ (s : State) (p : PortId) (d : Nat) (pf : Bool), (s.port p).slu.tx = .gap d pf →
      d ≤ (s.time.increments + 1) * 36864 → (pf = false ∨ (s.port p).slu.line.pauseMs = 0) →
      (s.port p).exc.state = .idle →
      ∃ t, exec (.txGapEnd p) s = .next t ∧ (t.port p).slu = { (s.port p).slu with tx := .free }
        ∧ (t.port p).exc = (s.port p).exc ∧ (t.port p).queue = (s.port p).queue ∧ s.onlyPort p t)
  ∧ (∀ (s : State) (p : PortId) (d : Nat), (s.port p).slu.tx = .pause d →
      d ≤ (s.time.increments + 1) * 36864 → (s.port p).exc.state = .idle →
      ∃ t, exec (.txPauseEnd p) s = .next t ∧ (t.port p).slu = { (s.port p).slu with tx := .free }
        ∧ (t.port p).exc = (s.port p).exc ∧ (t.port p).queue = (s.port p).queue ∧ s.onlyPort p t)
  ∧ (∀ (s : State) (p : PortId) (d : Nat) (pf : Bool) (b : Byte) (rest : List Byte),
      d ≤ (s.time.increments + 1) * 36864 →
      (s.port p).exc.state = .sending → (s.port p).exc.stopping = none →
      (s.port p).slu.staging = b :: rest →
      ((s.port p).slu.tx = .pause d → ∃ t, exec (.txPauseEnd p) s = .next t ∧ s.byteTaken p d b rest t)
      ∧ ((s.port p).slu.tx = .gap d pf → pf = false ∨ (s.port p).slu.line.pauseMs = 0 →
          ∃ t, exec (.txGapEnd p) s = .next t ∧ s.byteTaken p d b rest t))
  ∧ (∀ (s : State) (p : PortId) (d : Nat) (pf : Bool),
      d ≤ (s.time.increments + 1) * 36864 → (s.port p).exc.state = .breaking →
      (s.port p).exc.timer = none →
      ((s.port p).slu.tx = .pause d → ∃ t, exec (.txPauseEnd p) s = .next t ∧ s.spaceTaken p t)
      ∧ ((s.port p).slu.tx = .gap d pf → pf = false ∨ (s.port p).slu.line.pauseMs = 0 →
          ∃ t, exec (.txGapEnd p) s = .next t ∧ s.spaceTaken p t))

/-- R40, R75, R84, R67: at the break timer's expiry the line returns to MARK for a guard time of two character times,
and a BREAK_TX mark of value D is handed where the port's Capture Assembler takes items. -/
def Obligations.BreakTimerReleasesTheLine : Prop :=
  ∀ (s : State) (p : PortId) (e : QueueEntry) (tm : Timer), (s.port p).queue.head? = some e →
    (s.port p).slu.tx = .breakSpace → (s.port p).exc.state = .breaking →
    (s.port p).exc.timer = some tm → tm.armedAt + tm.span ≤ s.time.increments →
    s.bus.control = .running ∨ s.bus.control = .draining → p.val < s.tsu.geometry.portCount →
    (s.port p).ca.events = [] →
    ∃ t, exec (.breakTimerExpiry p) s = .next t
      ∧ (t.port p).slu.tx = .breakGuard (s.time.ticks
          + 2 * ((s.port p).slu.line.period * (s.port p).slu.line.format.charBits))
      ∧ (t.port p).slu.tx.level s.time.ticks = true
      ∧ (t.port p).exc = { (s.port p).exc with timer := none }
      ∧ (t.port p).ca.events =
          [{ position := (s.port p).slu.receiveCount, time := s.partTime,
             action := .close [(.breakTx, BitVec.ofNat 32
               (if e.fields.paramA = 0 then 250 else min e.fields.paramA.toNat 5000))] }]
      ∧ (t.port p).queue = (s.port p).queue ∧ (t.port p).guard = (s.port p).guard ∧ s.onlyPort p t

/-- R40, R75: at the end of the guard time the transmitter is FREE and the BREAK ends OK with outcome A the duration
applied; here the only entry of the port. -/
def Obligations.BreakGuardEndsTheBreak : Prop :=
  ∀ (s : State) (p : PortId) (e : QueueEntry) (d : Nat), (s.port p).queue = [e] → e.kind = .brk →
    (s.port p).slu.tx = .breakGuard d → d ≤ (s.time.increments + 1) * 36864 →
    (s.port p).exc.attempts = 0 → (s.port p).exc.bytesSent = 0 →
    ∃ t, exec (.breakGuardEnd p) s = .next t
      ∧ (t.port p).slu.tx = .free ∧ (t.port p).queue = [] ∧ (t.port p).exc = Exc.idle
      ∧ t.tsu.completions = s.tsu.completions ++
          [{ slot := e.slot, notify := e.fields.notify, code := ResultCode.ok, attempts := 0,
             bytesSent := 0, matchSequence := 0, startTime := (s.port p).exc.startTime,
             endTime := s.partTime
             outcomeA := BitVec.ofNat 32
               (if e.fields.paramA = 0 then 250 else min e.fields.paramA.toNat 5000)
             outcomeB := 0 }]
      ∧ (t.port p).guard = (s.port p).guard ∧ (t.port p).slu.line = (s.port p).slu.line
      ∧ (s.bus.control ≠ .draining → s.sameElsewhere p t ∧ t.attention = s.attention)


/-! ### The receive line -/

/-- R85, R97: a start edge begins a character in HUNTING, its start bit sampled half a period later; a start-bit
sample at MARK is a false start and the receiver hunts on; in ARMING the return to MARK begins the hunt; in SEEKING
a start edge begins an interval of SPACE. Nothing else of the part changes. The tick of an edge, the later of the clock
and the phase that the command carries, and a false start's, the later of the clock and the sample's, are the model's
choices (logs 6 and 4). -/
def Obligations.ReceiverEdgesFollowTheLine : Prop :=
  (∀ (s : State) (p : PortId) (phase : Nat), (s.port p).slu.rx = .hunting →
      ∃ t, exec (.startEdge p phase) s = .next t
        ∧ t.time.ticks = max s.time.ticks (s.time.increments * 36864 + min phase 36864)
        ∧ t.port p = { s.port p with slu := { (s.port p).slu with
            rx := .sampling { edgeTick := t.time.ticks, edgeTime := s.time.increments,
                              period := (s.port p).slu.line.period,
                              format := (s.port p).slu.line.format }
            lineMark := false } }
        ∧ s.onlyPort p t)
  ∧ (∀ (s : State) (p : PortId) (c : RxCharacter), (s.port p).slu.rx = .sampling c →
      c.edgeTick + c.period / 2 ≤ (s.time.increments + 1) * 36864 →
      ∃ t, exec (.falseStart p) s = .next t
        ∧ t.time.ticks = max s.time.ticks (c.edgeTick + c.period / 2)
        ∧ t.port p = { s.port p with slu := { (s.port p).slu with rx := .hunting, lineMark := true } }
        ∧ s.onlyPort p t)
  ∧ (∀ (s : State) (p : PortId) (phase : Nat), (s.port p).slu.rx = .arming →
      ∃ t, exec (.armingLineReturnsToMark p phase) s = .next t
        ∧ t.time.ticks = max s.time.ticks (s.time.increments * 36864 + min phase 36864)
        ∧ t.port p = { s.port p with slu := { (s.port p).slu with rx := .hunting, lineMark := true } }
        ∧ s.onlyPort p t)
  ∧ (∀ (s : State) (p : PortId) (phase : Nat), (s.port p).slu.rx = .notDecoding →
      (s.port p).slu.lineMark = true → (s.port p).rf.state = .seeking →
      s.bus.control ≠ .off → p.val < s.tsu.geometry.portCount →
      ∃ t, exec (.startEdge p phase) s = .next t
        ∧ t.time.ticks = max s.time.ticks (s.time.increments * 36864 + min phase 36864)
        ∧ t.port p = { s.port p with
            rf := { (s.port p).rf with interval := some t.time.ticks }
            slu := { (s.port p).slu with lineMark := false } }
        ∧ s.onlyPort p t)

/-- R85, R89, R90, R91, R77: at the last stop sample a character that is no zero character is delivered: it takes the
next sequence number and goes into the FIFO with its errors and the part time, or with 64 entries there is lost and
counted; the quiet timer is restarted; the error counters hold at 65535; the receiver hunts or arms by the level of
the last stop sample. Here with no pattern armed, no verification under way and the part not in DRAINING. A sample is
not taken beyond the part-time value (the model's choice, log 4). -/
def Obligations.DecodedBytesAreDelivered : Prop :=
  ∀ (s : State) (p : PortId) (c : RxCharacter) (r : RxSamples) (phase : Nat) (b : Byte)
    (framing parity : Bool),
    (s.port p).slu.rx = .sampling c →
    c.edgeTick + c.period * (c.format.charBits - 1) + c.period / 2 ≤ (s.time.increments + 1) * 36864 →
    s.time.ticks ≤ c.edgeTick + c.period * (c.format.charBits - 1) + c.period / 2 →
    s.bus.control = .running ∨ s.bus.control = .stopped → p.val < s.tsu.geometry.portCount →
    (s.port p).rf.state ≠ .verifying → (s.port p).pm.watch = 0 → (s.port p).pm.await = none →
    b = (if c.format.dataBits = 7 then r.data &&& 0x7F else r.data) →
    framing = (!r.stop1 || (c.format.stopBits = 2 && !r.stop2)) →
    parity = (match c.format.parity with
      | .noParity => false
      | .even => decide (((c.format.dataOf r.data ++ [r.parity]).count true) % 2 = 1)
      | .odd => decide (((c.format.dataOf r.data ++ [r.parity]).count true) % 2 = 0)) →
    b ≠ 0 ∨ framing = false ∨ (c.format.parity ≠ .noParity ∧ r.parity = true) →
    ∃ t, exec (.rxByteDelivered p r phase) s = .next t
      ∧ t.time.ticks = c.edgeTick + c.period * (c.format.charBits - 1) + c.period / 2
      ∧ (t.port p).slu.receiveCount = (s.port p).slu.receiveCount + 1
      ∧ (t.port p).slu.quietEnd = some (c.edgeTick + c.period * (c.format.charBits - 1) + c.period / 2
          + (s.port p).slu.line.quiet
            * ((s.port p).slu.line.period * (s.port p).slu.line.format.charBits))
      ∧ (t.port p).slu.rx =
          (if (if c.format.stopBits = 2 then r.stop2 else r.stop1) then Receiver.hunting else .arming)
      ∧ ((s.port p).slu.fifo.length < 64 →
          (t.port p).slu.fifo = (s.port p).slu.fifo ++
            [{ byte := b, sequence := (s.port p).slu.receiveCount, framing := framing,
               parity := parity, time := s.partTime,
               note := { count := 0, lowest := none, trigger := none } }]
          ∧ (t.port p).ca = (s.port p).ca
          ∧ (t.port p).slu.errors.overruns = (s.port p).slu.errors.overruns)
      ∧ (64 ≤ (s.port p).slu.fifo.length →
          (t.port p).slu.fifo = (s.port p).slu.fifo
          ∧ (t.port p).slu.errors.overruns = min ((s.port p).slu.errors.overruns + 1) 65535
          ∧ ∃ run, (t.port p).ca.lossRuns.getLast? = some run
            ∧ run.sequence + BitVec.ofNat 32 run.count = (s.port p).slu.receiveCount + 1)
      ∧ (t.port p).slu.errors.framing = (if framing then min ((s.port p).slu.errors.framing + 1) 65535
          else (s.port p).slu.errors.framing)
      ∧ (t.port p).slu.errors.parity = (if parity then min ((s.port p).slu.errors.parity + 1) 65535
          else (s.port p).slu.errors.parity)
      ∧ (t.port p).slu.errors.breaks = (s.port p).slu.errors.breaks
      ∧ (t.port p).queue = (s.port p).queue ∧ (t.port p).exc = (s.port p).exc
      ∧ (t.port p).slu.tx = (s.port p).slu.tx ∧ (t.port p).slu.line = (s.port p).slu.line
      ∧ (t.port p).rf = (s.port p).rf ∧ (t.port p).guard = (s.port p).guard
      ∧ t.attention = s.attention ∧ s.sameElsewhere p t ∧ t.tsu = s.tsu ∧ t.hme = s.hme

/-- R85 to R87, R91, R92: a zero character that ends at SPACE waits; a return to MARK by its limit of 2c delivers it
as the byte 0 with a framing error; at the limit it is a BREAK: counted, progress reset, a close request handed, no
byte delivered; the line's return to MARK ends the BREAK with a BREAK_RX mark of its length in ms. In OFF a BREAK
has none of these effects. That RX_BYTE_DELIVERED at a last sample of SPACE moves the receiver to the wait is the
model's reading (log 24), and the ticks of the limit and of the edges are its choices (logs 4 and 6). -/
def Obligations.ZeroCharactersBecomeBytesOrBreaks : Prop :=
  (∀ (s : State) (p : PortId) (c : RxCharacter) (phase : Nat), (s.port p).slu.rx = .sampling c →
      s.bus.control ≠ .draining →
      c.edgeTick + c.period * (c.format.charBits - 1) + c.period / 2 ≤ (s.time.increments + 1) * 36864 →
      ∃ t, exec (.rxByteDelivered p { data := 0, parity := false, stop1 := false, stop2 := false }
          phase) s = .next t
        ∧ (t.port p).slu = { (s.port p).slu with rx := .zeroWait c, lineMark := false }
        ∧ (t.port p).pm = (s.port p).pm ∧ (t.port p).ca = (s.port p).ca ∧ s.onlyPort p t)
  ∧ (∀ (s : State) (p : PortId) (c : RxCharacter) (r : RxSamples) (phase : Nat),
      (s.port p).slu.rx = .zeroWait c →
      max s.time.ticks (s.time.increments * 36864 + min phase 36864)
        ≤ c.edgeTick + 2 * (c.period * c.format.charBits) →
      s.bus.control = .running ∨ s.bus.control = .stopped → p.val < s.tsu.geometry.portCount →
      (s.port p).rf.state ≠ .verifying → (s.port p).pm.watch = 0 → (s.port p).pm.await = none →
      (s.port p).slu.fifo.length < 64 →
      ∃ t e, exec (.rxByteDelivered p r phase) s = .next t
        ∧ (t.port p).slu.fifo = (s.port p).slu.fifo ++ [e] ∧ e.byte = 0 ∧ e.framing = true
        ∧ e.sequence = (s.port p).slu.receiveCount ∧ e.time = s.partTime
        ∧ (t.port p).slu.receiveCount = (s.port p).slu.receiveCount + 1
        ∧ (t.port p).slu.rx = .hunting ∧ (t.port p).slu.errors.breaks = (s.port p).slu.errors.breaks
        ∧ (t.port p).queue = (s.port p).queue ∧ s.sameElsewhere p t ∧ t.attention = s.attention)
  ∧ (∀ (s : State) (p : PortId) (c : RxCharacter), (s.port p).slu.rx = .zeroWait c →
      c.edgeTick + 2 * (c.period * c.format.charBits) ≤ (s.time.increments + 1) * 36864 →
      s.bus.control ≠ .off → p.val < s.tsu.geometry.portCount → (s.port p).ca.events = [] →
      ∃ t, exec (.rxBreakDetected p) s = .next t
        ∧ t.time.ticks = max s.time.ticks (c.edgeTick + 2 * (c.period * c.format.charBits))
        ∧ (t.port p).slu = { (s.port p).slu with
            rx := .brk c.edgeTime false
            lineMark := false
            errors := { (s.port p).slu.errors with
              breaks := min ((s.port p).slu.errors.breaks + 1) 65535 } }
        ∧ (t.port p).pm.tail = [] ∧ (∀ i : PatternId, (t.port p).pm.eligible[i] = 0)
        ∧ (t.port p).pm.watch = (s.port p).pm.watch ∧ (t.port p).pm.await = (s.port p).pm.await
        ∧ (t.port p).ca.events = [EventItem.mk (s.port p).slu.receiveCount s.partTime (.close [])]
        ∧ s.onlyPort p t)
  ∧ (∀ (s : State) (p : PortId) (c : RxCharacter), (s.port p).slu.rx = .zeroWait c →
      c.edgeTick + 2 * (c.period * c.format.charBits) ≤ (s.time.increments + 1) * 36864 →
      s.bus.control = .off →
      ∃ t, exec (.rxBreakDetected p) s = .next t
        ∧ (t.port p).slu = { (s.port p).slu with rx := .brk c.edgeTime true, lineMark := false }
        ∧ (t.port p).pm = (s.port p).pm ∧ (t.port p).ca = (s.port p).ca ∧ s.onlyPort p t)
  ∧ (∀ (s : State) (p : PortId) (edge phase : Nat), (s.port p).slu.rx = .brk edge false →
      s.bus.control ≠ .off → p.val < s.tsu.geometry.portCount → (s.port p).ca.events = [] →
      (s.port p).rf.state ≠ .seeking →
      ∃ t, exec (.rxBreakEnd p phase) s = .next t
        ∧ (t.port p).slu = { (s.port p).slu with rx := .hunting, lineMark := true }
        ∧ (t.port p).ca.events = [EventItem.mk (s.port p).slu.receiveCount s.partTime
            (.close [(.breakRx, BitVec.ofNat 32 (min (s.time.increments - edge) 4294967295))])]
        ∧ (t.port p).pm = (s.port p).pm ∧ s.onlyPort p t)

/-- R77, R130: when the quiet timer runs out it stops, and a quiet item is handed at the receive count, where the port's
Capture Assembler takes items and has room for it; a timer that is not running, or whose end lies beyond the
part-time value, does nothing. That an end beyond the part-time value is not taken, and a late one is taken at the
clock's tick, is the model's choice (log 4). -/
def Obligations.QuietTimerHandsAQuietItem : Prop :=
  (∀ (s : State) (p : PortId) (d : Nat), (s.port p).slu.quietEnd = some d →
      d ≤ (s.time.increments + 1) * 36864 → s.bus.control ≠ .off → p.val < s.tsu.geometry.portCount →
      ((s.port p).ca.events.filter fun it => !it.action.always).length < 16 →
      ∃ t, exec (.quietTimerExpiry p) s = .next t ∧ t.time.ticks = max s.time.ticks d
        ∧ (t.port p).slu = { (s.port p).slu with quietEnd := none }
        ∧ (t.port p).ca.events = (s.port p).ca.events ++
            [EventItem.mk (s.port p).slu.receiveCount s.partTime .quiet]
        ∧ (t.port p).ca.openData = (s.port p).ca.openData ∧ (t.port p).exc = (s.port p).exc
        ∧ (t.port p).pm = (s.port p).pm ∧ s.onlyPort p t)
  ∧ (∀ (s : State) (p : PortId), (∀ d, (s.port p).slu.quietEnd = some d →
        (s.time.increments + 1) * 36864 < d) → exec (.quietTimerExpiry p) s = .next s)

/-! ### The Rate Finder -/

/-- R97 to R99: a measured interval of SPACE that is shorter than 32 or longer than 122,880 ticks is ignored; another
is added to the samples; the eighth makes the estimate: VERIFYING at the period of the smallest, and the receiver
decodes again. R100 to R102, R105: in VERIFYING each delivered byte counts, and the fourth decides: with at most one
framing error the port is LOCKED, and a SEND in RATE_WAIT goes on (R29); with more it is rejected, to SEEKING, or the
third time to FAILED at the fallback rate, each with its marks and its notice. R103: what a change of presence does.
The tick of an interval's end, the later of the clock and the phase that the command carries, is the model's choice
(log 6). -/
def Obligations.RateFinderJudgesIntervals : Prop :=
  (∀ (s : State) (p : PortId) (start phase : Nat), (s.port p).slu.rx = .notDecoding →
    (s.port p).slu.lineMark = false → (s.port p).rf.state = .seeking →
    (s.port p).rf.interval = some start →
    ∃ t, exec (.rfIntervalEnd p phase) s = .next t
      ∧ t.time.ticks = max s.time.ticks (s.time.increments * 36864 + min phase 36864)
      ∧ (t.time.ticks - start < 32 ∨ 122880 < t.time.ticks - start →
          (t.port p).rf = { (s.port p).rf with interval := none }
          ∧ (t.port p).slu = { (s.port p).slu with lineMark := true })
      ∧ (32 ≤ t.time.ticks - start → t.time.ticks - start ≤ 122880 → (s.port p).rf.samples.length < 7 →
          (t.port p).rf = { (s.port p).rf with
            interval := none, samples := (s.port p).rf.samples ++ [t.time.ticks - start] }
          ∧ (t.port p).slu = { (s.port p).slu with lineMark := true })
      ∧ (32 ≤ t.time.ticks - start → t.time.ticks - start ≤ 122880 → (s.port p).rf.samples.length = 7 →
          ∃ E, E ∈ (s.port p).rf.samples ++ [t.time.ticks - start]
            ∧ (∀ x ∈ (s.port p).rf.samples ++ [t.time.ticks - start], E ≤ x)
            ∧ (t.port p).rf.state = .verifying ∧ (t.port p).rf.verifySeen = 0
            ∧ (t.port p).rf.verifyFraming = 0
            ∧ (t.port p).slu = { (s.port p).slu with
                line := { (s.port p).slu.line with period := periodOfEstimate E }
                rx := .hunting
                lineMark := true })
      ∧ (t.port p).pm = (s.port p).pm ∧ (t.port p).queue = (s.port p).queue
      ∧ (t.port p).exc = (s.port p).exc ∧ s.onlyPort p t)
  ∧ (∀ (s t : State) (p : PortId) (b : Byte) (framing parity : Bool) (errors : Nat),
    s.deliver p b framing parity = t → s.bus.control ≠ .off → p.val < s.tsu.geometry.portCount →
    (s.port p).rf.state = .verifying → (s.port p).pm.watch = 0 → (s.port p).pm.await = none →
    (s.port p).ca.events = [] →
    (s.port p).exc.state ≠ .rateWait
      ∨ (∃ e rest, (s.port p).queue = e :: rest ∧ e.kind = .send ∧ 0 < e.fields.textLength) →
    errors = (s.port p).rf.verifyFraming + (if framing then 1 else 0) →
    ((s.port p).rf.verifySeen < 3 →
        (t.port p).rf = { (s.port p).rf with
          verifySeen := (s.port p).rf.verifySeen + 1, verifyFraming := errors }
        ∧ (t.port p).ca.events = [] ∧ (t.port p).exc = (s.port p).exc
        ∧ (t.port p).status.noticeCount = (s.port p).status.noticeCount ∧ t.attention = s.attention)
    ∧ (3 ≤ (s.port p).rf.verifySeen → errors < 2 →
        (t.port p).rf.state = .locked ∧ (t.port p).rf.attempts = 0
        ∧ (t.port p).slu.line = (s.port p).slu.line
        ∧ (t.port p).ca.events = [EventItem.mk ((s.port p).slu.receiveCount + 1) s.partTime
            (.close [(.rateLocked, BitVec.ofNat 32 (achievedRate (s.port p).slu.line.period))])]
        ∧ (t.port p).status.noticeCount = (s.port p).status.noticeCount + 1
        ∧ (t.port p).status.lastNotice = .rateLocked ∧ t.attention = s.attention ||| 1#10 <<< 3
        ∧ ((s.port p).exc.state = .rateWait → (t.port p).exc.state = .sending)
        ∧ ((s.port p).exc.state ≠ .rateWait → (t.port p).exc = (s.port p).exc))
    ∧ (3 ≤ (s.port p).rf.verifySeen → 2 ≤ errors → (s.port p).rf.attempts < 2 →
        (t.port p).rf = { state := .seeking, attempts := (s.port p).rf.attempts + 1, samples := [],
                          interval := none, verifySeen := 0, verifyFraming := 0 }
        ∧ (t.port p).slu.line = (s.port p).slu.line ∧ (t.port p).exc = (s.port p).exc
        ∧ (t.port p).ca.events = [EventItem.mk ((s.port p).slu.receiveCount + 1) s.partTime
            (.close [(.rateRejected, 0)])]
        ∧ ((∀ edge silent, (s.port p).slu.rx ≠ .brk edge silent) → (t.port p).slu.rx = .notDecoding)
        ∧ (t.port p).pm.tail = [] ∧ (∀ i : PatternId, (t.port p).pm.eligible[i] = 0)
        ∧ (t.port p).status.noticeCount = (s.port p).status.noticeCount ∧ t.attention = s.attention)
    ∧ (3 ≤ (s.port p).rf.verifySeen → 2 ≤ errors → 2 ≤ (s.port p).rf.attempts →
        (t.port p).rf.state = .failed ∧ (t.port p).rf.attempts = (s.port p).rf.attempts
        ∧ (t.port p).slu.line = { (s.port p).slu.line with
            period := periodOfRate (s.port p).slu.line.fallbackRate }
        ∧ (t.port p).ca.events = [EventItem.mk ((s.port p).slu.receiveCount + 1) s.partTime
            (.close [(.rateRejected, 0), (.rateFailed, BitVec.ofNat 32
              (achievedRate (periodOfRate (s.port p).slu.line.fallbackRate)))])]
        ∧ (t.port p).status.noticeCount = (s.port p).status.noticeCount + 1
        ∧ (t.port p).status.lastNotice = .rateFailed ∧ t.attention = s.attention ||| 1#10 <<< 3
        ∧ ((s.port p).exc.state = .rateWait → (t.port p).exc.state = .sending)
        ∧ ((s.port p).exc.state ≠ .rateWait → (t.port p).exc = (s.port p).exc)))
  ∧ (∀ (s : State) (p : PortId),
    ((s.port p).rf.state = .seeking →
        ((s.ratePresence p .absent).port p).rf = { (s.port p).rf with
          samples := [], interval := none, attempts := 0 }
        ∧ ((s.ratePresence p .absent).port p).ca = (s.port p).ca
        ∧ ((s.ratePresence p .absent).port p).pm = (s.port p).pm
        ∧ s.ratePresence p .present = s)
    ∧ ((s.port p).rf.state = .verifying ∨ (s.port p).rf.state = .locked →
        ((s.ratePresence p .absent).port p).rf = { state := .seeking, attempts := 0, samples := [],
                                                   interval := none, verifySeen := 0, verifyFraming := 0 }
        ∧ ((s.ratePresence p .absent).port p).slu.line = (s.port p).slu.line
        ∧ ((s.ratePresence p .absent).port p).pm.tail = [] ∧ s.ratePresence p .present = s)
    ∧ ((s.port p).rf.state = .failed →
        ((s.ratePresence p .present).port p).rf = { state := .seeking, attempts := 0, samples := [],
                                                    interval := none, verifySeen := 0,
                                                    verifyFraming := 0 }
        ∧ ((s.ratePresence p .present).port p).slu.line = (s.port p).slu.line
        ∧ ((s.ratePresence p .present).port p).pm.tail = [] ∧ s.ratePresence p .absent = s)
    ∧ ((s.port p).rf.state = .fixed →
        s.ratePresence p .absent = s ∧ s.ratePresence p .present = s))

/-- R68, R69, R70, R98: a requested rate is clamped and divided into the reference frequency to the nearest tick; an
estimate gives the standard period whose tolerance it lies in, or itself clamped; both lie between 32 and 61440. -/
def Obligations.PeriodsFollowRatesAndEstimates : Prop :=
  (∀ rate : Nat, 32 ≤ periodOfRate rate ∧ periodOfRate rate ≤ 61440
      ∧ (600 ≤ rate → rate ≤ 1152000 →
          2 * 36864000 < (2 * periodOfRate rate + 1) * rate
          ∧ (2 * periodOfRate rate - 1) * rate ≤ 2 * 36864000)
      ∧ (rate < 600 → periodOfRate rate = 61440) ∧ (1152000 < rate → periodOfRate rate = 32))
  ∧ (∀ q : Nat, 0 < q → achievedRate q = (36864000 + q / 2) / q)
  ∧ (∀ E : Nat, 32 ≤ periodOfEstimate E ∧ periodOfEstimate E ≤ 61440)
  ∧ (∀ E q : Nat, q ∈ [61440, 30720, 15360, 7680, 3840, 1920, 960, 640, 320, 160, 80, 40] →
      100 * (if E ≤ q then q - E else E - q) ≤ 6 * q → periodOfEstimate E = q)
  ∧ (∀ E : Nat, (∀ q ∈ [61440, 30720, 15360, 7680, 3840, 1920, 960, 640, 320, 160, 80, 40],
        6 * q < 100 * (if E ≤ q then q - E else E - q)) →
      periodOfEstimate E = max 32 (min E 61440))

/-! ### The Pattern Matcher -/

/-- R108, R114, R115: which bytes each element kind matches; a defined pattern completes at a byte exactly where it is
not empty, as many bytes as it has elements have been taken since its progress was reset, and its elements match
the last bytes of the window one by one; an undefined entry never completes. R111, R115, R119 to R121: a delivered byte
joins the window of 24, raises the count of every armed pattern, and each armed pattern that completes starts again from
0; each watched one records a watch notice, in rising order; the byte's note, in the FIFO or with the loss, tells how
many, the lowest, and the lowest that is a trigger. R34: the awaited one ends the exchange OK, with the byte's sequence
number; here of a task that is the only entry of its port. -/
def Obligations.PatternsCompleteAtTheirLastByte : Prop :=
  (∀ v b : Byte,
      (({ kind := .exact, value := v } : Element).matchesByte b = true ↔ b = v)
      ∧ (({ kind := .fold, value := v } : Element).matchesByte b = true ↔
          b = v ∨ (0x41 ≤ v.toNat ∧ v.toNat ≤ 0x5A ∧ b.toNat = v.toNat + 0x20)
            ∨ (0x61 ≤ v.toNat ∧ v.toNat ≤ 0x7A ∧ b.toNat + 0x20 = v.toNat))
      ∧ ({ kind := .any, value := v } : Element).matchesByte b = true
      ∧ (({ kind := .digit, value := v } : Element).matchesByte b = true ↔
          0x30 ≤ b.toNat ∧ b.toNat ≤ 0x39)
      ∧ (({ kind := .blank, value := v } : Element).matchesByte b = true ↔ b = 0x20 ∨ b = 0x09))
  ∧ (∀ (es : List Element) (taken : Nat) (window : List Byte),
      completes (some es) taken window = true ↔
        0 < es.length ∧ es.length ≤ taken ∧ es.length ≤ window.length
        ∧ ∀ i e b, es[i]? = some e → window[window.length - es.length + i]? = some b →
            e.matchesByte b = true)
  ∧ (∀ (taken : Nat) (window : List Byte), completes none taken window = false)
  ∧ (∀ (m : PortMatch) (table : Vector (Option (List Element)) 32) (b : Byte),
      (∀ i : PatternId, i ∈ m.completedBy table b ↔
        (m.watch.getLsbD i.val = true ∨ m.await = some i)
        ∧ completes table[i] (min 24 (m.eligible[i] + 1))
            ((m.tail ++ [b]).drop (m.tail.length + 1 - 24)) = true)
      ∧ (m.completedBy table b).Pairwise (· < ·))
  ∧ (∀ (m : PortMatch) (completed : List PatternId), completed.Pairwise (· < ·) →
      (m.note completed).count = (completed.filter fun i => m.watch.getLsbD i.val).length
      ∧ (∀ i, (m.note completed).lowest = some i →
          (i ∈ completed ∧ m.watch.getLsbD i.val = true)
          ∧ ∀ j ∈ completed, m.watch.getLsbD j.val = true → i ≤ j)
      ∧ ((m.note completed).lowest = none → ∀ j ∈ completed, m.watch.getLsbD j.val = false)
      ∧ (∀ i, (m.note completed).trigger = some i →
          (i ∈ completed ∧ m.watch.getLsbD i.val = true ∧ m.trigger.getLsbD i.val = true)
          ∧ ∀ j ∈ completed, m.watch.getLsbD j.val = true → m.trigger.getLsbD j.val = true → i ≤ j)
      ∧ ((m.note completed).trigger = none →
          ∀ j ∈ completed, m.watch.getLsbD j.val = true → m.trigger.getLsbD j.val = false))
  ∧ (∀ (s t : State) (p : PortId) (b : Byte) (framing parity : Bool) (completed watched : List PatternId),
    s.deliver p b framing parity = t → (s.port p).rf.state ≠ .verifying →
    completed = (s.port p).pm.completedBy s.patterns b →
    watched = (completed.filter fun i => (s.port p).pm.watch.getLsbD i.val) →
    ((∀ i, (s.port p).pm.await = some i → i ∉ completed) →
        (t.port p).pm.tail =
          ((s.port p).pm.tail ++ [b]).drop ((s.port p).pm.tail.length + 1 - 24)
        ∧ (∀ i : PatternId, (t.port p).pm.eligible[i] =
            if i ∈ completed then 0
            else if (s.port p).pm.watch.getLsbD i.val = true ∨ (s.port p).pm.await = some i then
              min 24 ((s.port p).pm.eligible[i] + 1)
            else 0)
        ∧ (watched = [] → (t.port p).pm.lastWatch = (s.port p).pm.lastWatch
            ∧ (t.port p).status.noticeCount = (s.port p).status.noticeCount
            ∧ t.attention = s.attention)
        ∧ (∀ i, watched.getLast? = some i →
            (t.port p).pm.lastWatch = { pattern := BitVec.ofNat 8 i.val
                                        sequence := (s.port p).slu.receiveCount
                                        time := s.partTime }
            ∧ (t.port p).status.noticeCount =
                (s.port p).status.noticeCount + BitVec.ofNat 16 watched.length
            ∧ (t.port p).status.lastNotice = .watch ∧ t.attention = s.attention ||| 1#10 <<< 1)
        ∧ ((s.port p).slu.fifo.length < 64 →
            (t.port p).slu.fifo = (s.port p).slu.fifo ++
              [{ byte := b, sequence := (s.port p).slu.receiveCount, framing := framing,
                 parity := parity, time := s.partTime, note := (s.port p).pm.note completed }]
            ∧ (t.port p).ca = (s.port p).ca)
        ∧ (64 ≤ (s.port p).slu.fifo.length →
            (t.port p).slu.fifo = (s.port p).slu.fifo
            ∧ (t.port p).ca = (s.port p).ca.loseByte (s.port p).slu.receiveCount
                ((s.port p).pm.note completed).trigger)
        ∧ (t.port p).queue = (s.port p).queue ∧ (t.port p).exc = (s.port p).exc
        ∧ t.tsu = s.tsu ∧ s.sameElsewhere p t)
    ∧ (∀ (i : PatternId) (e : QueueEntry), (s.port p).pm.await = some i → i ∈ completed →
        (s.port p).exc.state = .awaiting → (s.port p).queue = [e] → e.kind ≠ .broadcast →
        (t.port p).queue = [] ∧ (t.port p).exc = Exc.idle ∧ (t.port p).pm.await = none
        ∧ t.tsu.completions = s.tsu.completions ++
            [{ slot := e.slot, notify := e.fields.notify, code := ResultCode.ok,
               attempts := (s.port p).exc.attempts, bytesSent := (s.port p).exc.bytesSent,
               matchSequence := (s.port p).slu.receiveCount, startTime := (s.port p).exc.startTime,
               endTime := s.partTime, outcomeA := BitVec.ofNat 32 e.fields.patternId, outcomeB := 0 }]
        ∧ (t.port p).slu.receiveCount = (s.port p).slu.receiveCount + 1
        ∧ (t.port p).status.noticeCount =
            (s.port p).status.noticeCount + BitVec.ofNat 16 watched.length))

/-! ### The Capture Assembler and the status writer -/

/-- R128, R132, R133, R134: with no record in hand the Capture Assembler takes the front FIFO entry; mode OFF discards
it, a settled or FROZEN port adds it to the pending gap, and elsewhere it joins the open DATA record or opens one; the
end code closes the record, which comes into hand behind the pending gap's GAP. R128, R150: which input is met where
several wait: a freeze item before everything; then, of the fronts of the FIFO, the loss runs and the event list, the
one farthest behind the receive count, modulo 2^32, an event item before the byte or the run at its own position; the
others stay. In OFF, on a port not in use, with a record in hand or with nothing waiting none is met. R120, R133: a
byte with an error or a match changes the record's flags, tag and error count, and the 240th byte closes it with
FULL_LENGTH. R129, R130, R137: what a lost byte and a handed item do to the loss runs and to the event list; a loss run
that is met closes the open record and joins the gap with the time of its meeting. R135, R136: how a sending's bytes
make TX records; the records that follow an item. R143: what the settle request writes. That FROZEN and settled come
about at the meeting is the model's reading (log 18), as are the time that a run keeps (log 19), the place of a gap
written behind a closed record (log 20) and the item of a sending whose record a freeze has closed (log 40); that a
byte is judged by the end code of its meeting is its choice (log 43). -/
def Obligations.CaptureMeetsBytesInOrder : Prop :=
  (∀ (s : State) (p : PortId) (e : FifoEntry) (rest : List FifoEntry),
    s.bus.control ≠ .off → p.val < s.tsu.geometry.portCount → (s.port p).slu.fifo = e :: rest →
    (s.port p).ca.events = [] → (s.port p).ca.lossRuns = [] → (s.port p).ca.inHand = none →
    (s.port p).ca.agenda = [] → e.framing = false → e.parity = false →
    e.note = { count := 0, lowest := none, trigger := none } →
    ∃ t, exec (.caMeetInput p) s = .next t
      ∧ (t.port p).slu = { (s.port p).slu with fifo := rest }
      ∧ ((s.port p).ca.mode = .off → (t.port p).ca = (s.port p).ca)
      ∧ ((s.port p).ca.mode ≠ .off → (s.port p).ca.settled = true → (s.port p).ca.gap = none →
          (t.port p).ca = { (s.port p).ca with
            gap := some { count := 1, cause := .stopped, sequence := e.sequence, time := e.time } })
      ∧ ((s.port p).ca.mode ≠ .off → (s.port p).ca.settled = false → (s.port p).freeze.state = .frozen →
          ∀ g, (s.port p).ca.gap = some g → (t.port p).ca = { (s.port p).ca with
            gap := some { g with count := min (g.count + 1) 4294967295 } })
      ∧ ((s.port p).ca.mode ≠ .off → (s.port p).ca.settled = false → (s.port p).freeze.state = .live →
          (s.port p).slu.line.endCodeEnable = false ∨ (s.port p).slu.line.endCode ≠ e.byte →
          ((s.port p).ca.openData = none → (t.port p).ca = { (s.port p).ca with
            openData := some { bytes := [e.byte], framing := false, parity := false, matched := false,
                               multiMatch := false, tag := 0xFF, time := e.time,
                               sequence := e.sequence, errors := 0 } })
          ∧ (∀ r, (s.port p).ca.openData = some r → r.bytes.length < 239 →
              (t.port p).ca = { (s.port p).ca with
                openData := some { r with bytes := r.bytes ++ [e.byte] } }))
      ∧ ((s.port p).ca.mode = .history → (s.port p).ca.settled = false →
          (s.port p).freeze.state = .live → (s.port p).slu.line.endCodeEnable = true →
          (s.port p).slu.line.endCode = e.byte → (s.port p).ca.gap = none →
          ∀ r, (s.port p).ca.openData = some r →
            (t.port p).ca.openData = none
            ∧ (t.port p).ca.inHand = some {
                records := placeRecords (s.port p).ca.areaSize (s.port p).ca.writePosition.toNat
                  [.record (.data { r with bytes := r.bytes ++ [e.byte] } .endCode)]
                passed := true })
      ∧ (t.port p).pm = (s.port p).pm ∧ (t.port p).freeze.state = (s.port p).freeze.state
      ∧ (t.port p).queue = (s.port p).queue ∧ s.sameElsewhere p t
      ∧ ((s.port p).ca.mode ≠ .keep → s.onlyPort p t))
  ∧ (∀ (s : State) (p : PortId) (e : FifoEntry) (rest : List FifoEntry) (before after : DataRecord)
      (lowest : PatternId),
    s.bus.control ≠ .off → p.val < s.tsu.geometry.portCount → (s.port p).slu.fifo = e :: rest →
    (s.port p).ca.events = [] → (s.port p).ca.lossRuns = [] → (s.port p).ca.inHand = none →
    (s.port p).ca.agenda = [] → (s.port p).ca.mode ≠ .off → (s.port p).ca.settled = false →
    (s.port p).freeze.state = .live → e.note.trigger = none →
    e.note.lowest = (if e.note.count = 0 then none else some lowest) →
    (s.port p).slu.line.endCodeEnable = false ∨ (s.port p).slu.line.endCode ≠ e.byte →
    (s.port p).ca.openData = some before
      ∨ ((s.port p).ca.openData = none
        ∧ before = { bytes := [], framing := false, parity := false, matched := false, multiMatch := false,
                     tag := 0xFF, time := e.time, sequence := e.sequence, errors := 0 }) →
    after = { bytes := before.bytes ++ [e.byte]
              framing := before.framing || e.framing
              parity := before.parity || e.parity
              matched := before.matched || decide (1 ≤ e.note.count)
              multiMatch := before.multiMatch || decide (2 ≤ e.note.count)
                || (before.matched && decide (1 ≤ e.note.count))
              tag := if before.matched = true ∨ e.note.count = 0 then before.tag
                else BitVec.ofNat 8 lowest.val
              time := before.time
              sequence := before.sequence
              errors := before.errors + (if e.framing = true ∨ e.parity = true then 1 else 0) } →
    ∃ t, exec (.caMeetInput p) s = .next t
      ∧ (t.port p).slu = { (s.port p).slu with fifo := rest }
      ∧ (before.bytes.length < 239 → (t.port p).ca = { (s.port p).ca with openData := some after })
      ∧ (239 ≤ before.bytes.length → (t.port p).ca.openData = none
          ∧ ((s.port p).ca.mode = .history →
            (t.port p).ca.inHand = some {
              records := placeRecords (s.port p).ca.areaSize (s.port p).ca.writePosition.toNat
                ((s.port p).ca.gap.toList.map UnitRecord.gap ++ [.record (.data after .fullLength)])
              passed := true }))
      ∧ (t.port p).freeze = (s.port p).freeze ∧ (t.port p).pm = (s.port p).pm
      ∧ s.sameElsewhere p t)
  ∧ (∀ (ca : Capture) (sequence : Word) (trigger : Option PatternId),
      (∀ front last, ca.lossRuns = front ++ [last] → ca.runGrows = true →
        last.sequence + BitVec.ofNat 32 last.count = sequence →
        ca.loseByte sequence trigger = { ca with lossRuns := front ++ [{ last with
          count := last.count + 1
          trigger := match last.trigger with
            | some t => some t
            | none => trigger.map fun i => (i, last.count) }] })
      ∧ (ca.runGrows = false ∨ ca.lossRuns = []
          ∨ (∀ front last, ca.lossRuns = front ++ [last] →
              last.sequence + BitVec.ofNat 32 last.count ≠ sequence) →
        ca.loseByte sequence trigger = { ca with
          lossRuns := ca.lossRuns ++
            [{ sequence := sequence, count := 1, trigger := trigger.map fun i => (i, 0) }]
          runGrows := true }))
  ∧ (∀ (ca : Capture) (it : EventItem),
      (it.action ≠ .settle → it.action ≠ .freeze → ca.placeItem it = { ca with
        events :=
          if (ca.events.filter fun x => x.action ≠ .settle ∧ x.action ≠ .freeze).length < 16 then
            ca.events ++ [it]
          else ca.events
        runGrows := false })
      ∧ (it.action = .settle ∨ it.action = .freeze → ca.placeItem it = { ca with
        events := (ca.events.filter fun x => x.action ≠ it.action) ++ [it]
        runGrows := false }))
  ∧ (∀ (s : State) (p : PortId) (r : LossRun) (rest : List LossRun),
      s.bus.control ≠ .off → p.val < s.tsu.geometry.portCount → (s.port p).slu.fifo = [] →
      (s.port p).ca.events = [] → (s.port p).ca.lossRuns = r :: rest → (s.port p).ca.inHand = none →
      (s.port p).ca.agenda = [] → 0 < r.count →
      ∃ t, exec (.caMeetInput p) s = .next t ∧ (t.port p).slu = (s.port p).slu
        ∧ (t.port p).ca.openData = none ∧ (t.port p).queue = (s.port p).queue
        ∧ ((s.port p).ca.mode = .off → (s.port p).ca.openData = none →
            (t.port p).ca = { (s.port p).ca with lossRuns := rest })
        ∧ ((s.port p).ca.mode ≠ .off → (s.port p).ca.openData = none →
            (s.port p).ca.settled = true ∨ (s.port p).freeze.state = .frozen
              ∨ ((s.port p).freeze.state = .live ∧ r.trigger = none) →
            (t.port p).ca = { (s.port p).ca with
              lossRuns := rest
              gap := some (match (s.port p).ca.gap with
                | none => { count := min r.count 4294967295, cause := .overrun, sequence := r.sequence,
                            time := s.partTime }
                | some g => { g with count := min (g.count + r.count) 4294967295 }) }
            ∧ (t.port p).freeze = (s.port p).freeze)
        ∧ (∀ d, (s.port p).ca.mode = .history → (s.port p).ca.openData = some d →
            (t.port p).ca = { (s.port p).ca with
              lossRuns := rest
              openData := none
              inHand := some {
                records := placeRecords (s.port p).ca.areaSize (s.port p).ca.writePosition.toNat
                  ((s.port p).ca.gap.toList.map UnitRecord.gap ++ [.record (.data d .event)])
                passed := true }
              agenda := [.loseRun r s.partTime] })
        ∧ ((s.port p).ca.mode ≠ .keep → s.onlyPort p t))
  ∧ (∀ (s : State) (p : PortId) (r : LossRun) (met : Word), (s.port p).ca.agenda = [.loseRun r met] →
      (s.port p).ca.mode ≠ .off → (s.port p).ca.gap = none → 0 < r.count →
      (s.port p).ca.settled = true ∨ (s.port p).freeze.state = .frozen
        ∨ ((s.port p).freeze.state = .live ∧ r.trigger = none) →
      ((s.resumeAgenda p).port p).ca = { (s.port p).ca with
        agenda := []
        gap := some { count := min r.count 4294967295, cause := .overrun, sequence := r.sequence,
                      time := met } })
  ∧ (∀ (s t : State) (p : PortId) (slot : Nat) (b : Byte) (start : Word),
      s.logTxByte p slot b start = t →
      ((s.port p).ca.mode = .off ∨ (s.port p).freeze.state = .frozen → t = s)
      ∧ ((s.port p).ca.mode ≠ .off → (s.port p).freeze.state ≠ .frozen →
        ((s.port p).ca.openTx = none → s.bus.control ≠ .off → p.val < s.tsu.geometry.portCount →
          (s.port p).ca.events = [] → (t.port p).ca = { (s.port p).ca with
            openTx := some { slot := slot, time := start, bytes := [b] }
            events := [EventItem.mk (s.port p).slu.receiveCount s.partTime (.close [])]
            runGrows := false })
        ∧ (∀ r, (s.port p).ca.openTx = some r → r.bytes.length < 239 →
          (t.port p).ca = { (s.port p).ca with openTx := some { r with bytes := r.bytes ++ [b] } })
        ∧ (∀ r, (s.port p).ca.openTx = some r → r.bytes.length = 239 → s.bus.control ≠ .off →
          p.val < s.tsu.geometry.portCount → (s.port p).ca.events = [] →
          (t.port p).ca = { (s.port p).ca with
            openTx := none
            events := [EventItem.mk (s.port p).slu.receiveCount s.partTime
              (.txClosed { r with bytes := r.bytes ++ [b] })]
            runGrows := false })))
  ∧ (∀ (s : State) (p : PortId), s.bus.control ≠ .off → p.val < s.tsu.geometry.portCount →
      (s.port p).ca.events = [] →
      ((s.port p).ca.txTaken = false → (s.port p).ca.openTx = none → s.closeTx p = s)
      ∧ (∀ r, (s.port p).ca.txTaken = false → (s.port p).ca.openTx = some r →
        ((s.closeTx p).port p).ca = { (s.port p).ca with
          openTx := none
          events := [EventItem.mk (s.port p).slu.receiveCount s.partTime (.txClosed r)]
          runGrows := false })
      ∧ ((s.port p).ca.txTaken = true → (s.port p).ca.openTx = none →
        ((s.closeTx p).port p).ca = { (s.port p).ca with
          txTaken := false
          events := [EventItem.mk (s.port p).slu.receiveCount s.partTime (.close [])]
          runGrows := false }))
  ∧ (∀ (s : State) (p : PortId) (position time : Word) (action : ItemAction) (rest : List EventItem)
      (records : List CaptureRecord) (cause : CloseCause),
      s.bus.control ≠ .off → p.val < s.tsu.geometry.portCount → (s.port p).slu.fifo = [] →
      (s.port p).ca.lossRuns = [] → (s.port p).ca.inHand = none → (s.port p).ca.agenda = [] →
      (s.port p).ca.events = EventItem.mk position time action :: rest →
      (∀ x ∈ rest, x.action ≠ .freeze) →
      (∃ r, action = .txClosed r ∧ records = [.tx r position] ∧ cause = .event)
        ∨ (∃ marks, action = .close marks ∧ cause = .event
            ∧ records = marks.map fun m => .mark m.1 m.2 time position)
        ∨ (action = .quiet ∧ records = [] ∧ cause = .quiet)
        ∨ (action = .settle ∧ records = [] ∧ cause = .event) →
      ∃ t, exec (.caMeetInput p) s = .next t ∧ (t.port p).ca.events = rest
        ∧ (t.port p).ca.openData = none ∧ (t.port p).freeze = (s.port p).freeze
        ∧ ((t.port p).ca.settled = true ↔ action = .settle ∨ (s.port p).ca.settled = true)
        ∧ ((s.port p).ca.openData = none →
            (s.port p).ca.mode = .off ∨ (s.port p).ca.settled = true ∨ (s.port p).freeze.state = .frozen →
            (t.port p).ca.inHand = none ∧ (t.port p).ca.agenda = []
            ∧ (t.port p).ca.gap = (s.port p).ca.gap)
        ∧ ((s.port p).ca.mode = .history → (s.port p).ca.settled = false →
            (s.port p).freeze.state ≠ .frozen →
            (t.port p).ca.gap = (s.port p).ca.gap
            ∧ (∀ d, (s.port p).ca.openData = some d →
              (t.port p).ca.inHand = some {
                records := placeRecords (s.port p).ca.areaSize (s.port p).ca.writePosition.toNat
                  ((s.port p).ca.gap.toList.map UnitRecord.gap ++ [.record (.data d cause)])
                passed := true }
              ∧ (t.port p).ca.agenda =
                (if action = .quiet ∨ action = .settle then [.writeGap]
                  else records.map fun r => .write r true))
            ∧ (∀ r more, (s.port p).ca.openData = none → records = r :: more →
              (t.port p).ca.inHand = some {
                records := placeRecords (s.port p).ca.areaSize (s.port p).ca.writePosition.toNat
                  ((s.port p).ca.gap.toList.map UnitRecord.gap ++ [.record r])
                passed := true }
              ∧ (t.port p).ca.agenda = more.map fun r => .write r true)
            ∧ ((s.port p).ca.openData = none → records = [] →
              (t.port p).ca.agenda = []
              ∧ (t.port p).ca.inHand =
                (if action = .quiet ∨ action = .settle then
                  (s.port p).ca.gap.map fun g => {
                    records := placeRecords (s.port p).ca.areaSize (s.port p).ca.writePosition.toNat
                      [.gap g]
                    passed := true }
                else none)))
        ∧ (t.port p).slu = (s.port p).slu ∧ (t.port p).queue = (s.port p).queue
        ∧ ((s.port p).ca.mode ≠ .keep → s.onlyPort p t))
  ∧ (∀ (s : State) (p : PortId) (behind : Word → Nat), s.bus.control ≠ .off →
      p.val < s.tsu.geometry.portCount → (s.port p).ca.inHand = none → (s.port p).ca.agenda = [] →
      (∀ position, behind position = ((s.port p).slu.receiveCount - position).toNat) →
      ∃ t, exec (.caMeetInput p) s = .next t
        ∧ ((∃ it ∈ (s.port p).ca.events, it.action = .freeze) →
          (t.port p).ca.events = ((s.port p).ca.events.filter fun it => it.action ≠ .freeze)
          ∧ (t.port p).slu = (s.port p).slu ∧ (t.port p).ca.lossRuns = (s.port p).ca.lossRuns
          ∧ (t.port p).freeze.state = .frozen)
        ∧ (∀ (it : EventItem) (rest : List EventItem), (s.port p).ca.events = it :: rest →
          (∀ x ∈ it :: rest, x.action ≠ .freeze) →
          (∀ e, (s.port p).slu.fifo.head? = some e → behind e.sequence ≤ behind it.position) →
          (∀ r, (s.port p).ca.lossRuns.head? = some r → behind r.sequence ≤ behind it.position) →
          (t.port p).ca.events = rest ∧ (t.port p).slu = (s.port p).slu
          ∧ (t.port p).ca.lossRuns = (s.port p).ca.lossRuns)
        ∧ (∀ (e : FifoEntry) (rest : List FifoEntry), (s.port p).slu.fifo = e :: rest →
          (∀ x ∈ (s.port p).ca.events, x.action ≠ .freeze) →
          (∀ it, (s.port p).ca.events.head? = some it → behind it.position < behind e.sequence) →
          (∀ r, (s.port p).ca.lossRuns.head? = some r → behind r.sequence < behind e.sequence) →
          (t.port p).slu = { (s.port p).slu with fifo := rest }
          ∧ (t.port p).ca.lossRuns = (s.port p).ca.lossRuns
          ∧ ((t.port p).ca.events.filter fun it => it.action ≠ .freeze) = (s.port p).ca.events)
        ∧ (∀ (r : LossRun) (rest : List LossRun), (s.port p).ca.lossRuns = r :: rest →
          (∀ x ∈ (s.port p).ca.events, x.action ≠ .freeze) →
          (∀ it, (s.port p).ca.events.head? = some it → behind it.position < behind r.sequence) →
          (∀ e, (s.port p).slu.fifo.head? = some e → behind e.sequence < behind r.sequence) →
          (∃ n, 0 < n ∧ (t.port p).ca.lossRuns = r.after n ++ rest)
          ∧ ((s.port p).ca.mode = .off ∨ (s.port p).freeze.state = .live ∧ r.trigger = none →
            (t.port p).ca.lossRuns = rest)
          ∧ (t.port p).ca.openData = none ∧ (t.port p).slu = (s.port p).slu
          ∧ ((t.port p).ca.events.filter fun it => it.action ≠ .freeze) = (s.port p).ca.events))
  ∧ (∀ (s : State) (p : PortId), s.bus.control = .off ∨ s.tsu.geometry.portCount ≤ p.val
        ∨ (s.port p).ca.inHand ≠ none ∨ (s.port p).ca.agenda ≠ []
        ∨ ((s.port p).slu.fifo = [] ∧ (s.port p).ca.lossRuns = [] ∧ (s.port p).ca.events = []) →
      exec (.caMeetInput p) s = .next s)

/-- R126, R127: the records of a unit stand in their order, with PADs between; none of them crosses the end of the area,
and a PAD fills exactly what is left before a record that would. R131, R138, R139: a record comes into hand behind the
pending gap's GAP, in HISTORY to be issued at once. R140 to R142: in KEEP it passes where the unread span and its
advance fit the area, which ends FULL; without room the read mark is fetched, in FULL once at a part time; a mark
that is no place of the area counts as W; a unit without room then is discarded, its DATA bytes join the gap, and
FULL is entered with one notice; a fault of the fetch raises FAULT and leaves the mark. R191: what the bytes of each
type of record say. -/
def Obligations.RecordsNeverCrossTheAreaEnd : Prop :=
  (∀ (size w : Nat) (rs : List UnitRecord), 0 < size → (∀ r ∈ rs, r.size ≤ size) →
    (∀ r ∈ rs, ∀ n, r ≠ .pad n) →
    ((placeRecords size w rs).filter (fun r => match r with | .pad _ => false | _ => true) = rs)
    ∧ (∀ i r, (placeRecords size w rs)[i]? = some r →
        (w + (((placeRecords size w rs).take i).map UnitRecord.size).sum) % size + r.size ≤ size)
    ∧ (∀ i n, (placeRecords size w rs)[i]? = some (.pad n) →
        (w + (((placeRecords size w rs).take i).map UnitRecord.size).sum) % size + n = size
        ∧ ∃ r, (placeRecords size w rs)[i + 1]? = some r ∧ n < r.size))
  ∧ (∀ (s : State) (p : PortId) (record : CaptureRecord) (joinGap : Bool),
      ((s.port p).ca.mode = .off → s.takeInHand p (some record) joinGap = s)
      ∧ ((s.port p).ca.mode = .history →
        ((s.takeInHand p (some record) joinGap).port p).ca = { (s.port p).ca with inHand := some {
          records := placeRecords (s.port p).ca.areaSize (s.port p).ca.writePosition.toNat
            ((if joinGap then (s.port p).ca.gap.toList.map UnitRecord.gap else []) ++ [.record record])
          passed := true } })
      ∧ ((s.port p).ca.mode = .keep → s.takeInHand p (some record) joinGap = s.testUnit p {
          records := placeRecords (s.port p).ca.areaSize (s.port p).ca.writePosition.toNat
            ((if joinGap then (s.port p).ca.gap.toList.map UnitRecord.gap else []) ++ [.record record])
          passed := false })
      ∧ ((s.port p).ca.gap = none → s.takeInHand p none true = s))
  ∧ (∀ (s t : State) (p : PortId) (u : WriteUnit) (need : Nat), s.testUnit p u = t →
      need = ((s.port p).ca.writePosition - (s.port p).ca.readMark).toNat
        + (u.records.map UnitRecord.size).sum →
      (need ≤ (s.port p).ca.areaSize → (t.port p).ca = { (s.port p).ca with
        inHand := some { u with passed := true }, state := .normal })
      ∧ ((s.port p).ca.areaSize < need →
        ((s.port p).ca.state ≠ .full ∨ (s.port p).ca.lastFetch ≠ some s.partTime →
          (t.port p).ca = { (s.port p).ca with inHand := some u, fetch := .wanted })
        ∧ ((s.port p).ca.state = .full → (s.port p).ca.lastFetch = some s.partTime →
          t = s.discardUnit p u))
      ∧ (t.port p).slu = (s.port p).slu ∧ (t.port p).queue = (s.port p).queue
      ∧ (t.port p).status.noticeCount = (s.port p).status.noticeCount ∧ t.attention = s.attention
      ∧ s.sameElsewhere p t)
  ∧ (∀ (s t : State) (p : PortId) (u : WriteUnit) (pads : List Nat) (old : List PendingGap)
      (record : CaptureRecord), s.discardUnit p u = t →
      (u.records.filter fun r => ∀ n ∈ pads, r ≠ .pad n) = old.map UnitRecord.gap ++ [.record record] →
      (t.port p).ca.inHand = none ∧ (t.port p).ca.writePosition = (s.port p).ca.writePosition
      ∧ ((∀ d c, record ≠ .data d c) → (t.port p).ca.gap = (s.port p).ca.gap)
      ∧ (∀ d c, record = .data d c → 0 < d.bytes.length →
        (t.port p).ca.gap = some (match (s.port p).ca.gap with
          | none => { count := min d.bytes.length 4294967295, cause := .full, sequence := d.sequence,
                      time := d.time }
          | some g => { g with count := min (g.count + d.bytes.length) 4294967295 }))
      ∧ ((s.port p).ca.state = .normal → (t.port p).ca.state = .full
        ∧ (t.port p).status.noticeCount = (s.port p).status.noticeCount + 1
        ∧ (t.port p).status.lastNotice = .full ∧ t.attention = s.attention ||| 1#10 <<< 6)
      ∧ ((s.port p).ca.state = .full → (t.port p).ca.state = .full
        ∧ (t.port p).status.noticeCount = (s.port p).status.noticeCount
        ∧ t.attention = s.attention)
      ∧ (t.port p).freeze = (s.port p).freeze ∧ (t.port p).slu = (s.port p).slu
      ∧ (t.port p).queue = (s.port p).queue ∧ s.sameElsewhere p t)
  ∧ (∀ (s t : State) (p : PortId) (read need : Nat) (answer : Option (List Byte)) (u : WriteUnit)
      (mark : Word), s.readMarkEnds p read answer = t → (s.port p).ca.fetch = .outstanding read →
      (s.port p).ca.inHand = some u → u.passed = false → (s.port p).ca.agenda = [] →
      mark = (match answer with
        | none => (s.port p).ca.readMark
        | some b =>
          if ((s.port p).ca.writePosition - BitVec.ofNat 32 (leNat b)).toNat ≤ (s.port p).ca.areaSize then
            BitVec.ofNat 32 (leNat b)
          else (s.port p).ca.writePosition) →
      need = ((s.port p).ca.writePosition - mark).toNat + (u.records.map UnitRecord.size).sum →
      (t.port p).ca.readMark = mark ∧ (t.port p).ca.fetch = .idle
      ∧ (need ≤ (s.port p).ca.areaSize → (t.port p).ca = { (s.port p).ca with
            readMark := mark
            fetch := .idle
            inHand := some { u with passed := true }
            state := .normal }
          ∧ (t.port p).status.noticeCount = (s.port p).status.noticeCount
          ∧ t.attention = s.attention ||| (if answer.isNone then 1#10 <<< 7 else 0))
      ∧ ((s.port p).ca.areaSize < need →
          (t.port p).ca.inHand = none ∧ (t.port p).ca.writePosition = (s.port p).ca.writePosition
          ∧ ((s.port p).ca.state = .normal → (t.port p).ca.state = .full
            ∧ (t.port p).status.noticeCount = (s.port p).status.noticeCount + 1
            ∧ (t.port p).status.lastNotice = .full
            ∧ t.attention = s.attention ||| 1#10 <<< 6 ||| (if answer.isNone then 1#10 <<< 7 else 0))
          ∧ ((s.port p).ca.state = .full → (t.port p).ca.state = .full
            ∧ (t.port p).status.noticeCount = (s.port p).status.noticeCount
            ∧ t.attention = s.attention ||| (if answer.isNone then 1#10 <<< 7 else 0)))
      ∧ (t.port p).slu = (s.port p).slu ∧ (t.port p).queue = (s.port p).queue ∧ s.sameElsewhere p t)
  ∧ (∀ now receiveCount : Word,
      (∀ (d : DataRecord) (c : CloseCause), d.bytes.length ≤ 240 → d.errors ≤ 240 →
        (UnitRecord.record (.data d c)).Says now receiveCount 1 d.bytes.length (d.flags c) d.tag d.time
          d.sequence d.errors d.bytes
        ∧ ((d.flags c).getLsbD 0 = d.framing ∧ (d.flags c).getLsbD 1 = d.parity
          ∧ (d.flags c).getLsbD 2 = d.matched ∧ (d.flags c).getLsbD 3 = d.multiMatch
          ∧ ((d.flags c).getLsbD 4 = true ↔ c = .endCode) ∧ ((d.flags c).getLsbD 5 = true ↔ c = .quiet)
          ∧ ((d.flags c).getLsbD 6 = true ↔ c = .fullLength)
          ∧ ((d.flags c).getLsbD 7 = true ↔ c = .event)))
      ∧ (∀ (r : TxRecord) (sequence : Word), r.bytes.length ≤ 240 → r.slot < 128 →
        (UnitRecord.record (.tx r sequence)).Says now receiveCount 2 r.bytes.length 0 0 r.time sequence
          r.slot r.bytes)
      ∧ (∀ (kind : MarkKind) (value time sequence : Word),
        (UnitRecord.record (.mark kind value time sequence)).Says now receiveCount 4 0 0
          (match kind with
            | .presenceUp => 1 | .presenceDown => 2 | .rateLocked => 3 | .rateRejected => 4
            | .rateFailed => 5 | .settings => 6 | .breakRx => 7 | .frozen => 8 | .thawed => 9
            | .breakTx => 10 | .enabled => 11) time sequence value.toNat [])
      ∧ (∀ g : PendingGap, g.count ≤ 4294967295 →
        (UnitRecord.gap g).Says now receiveCount 3 0 0
          (match g.cause with | .overrun => 1 | .full => 2 | .frozen => 3 | .stopped => 4) g.time
          g.sequence g.count [])
      ∧ (∀ n, 16 ≤ n → n ≤ 240 →
        (UnitRecord.pad n).Says now receiveCount 5 (n - 16) 0 0 now receiveCount 0 []))

/-- R146, R143: in RUNNING and DRAINING a port in use whose changed flag is set asks for a status write, once in each
part-time value; a port with no change asks for none; nothing else changes. A port that has settled with no unit in
hand asks for its final write, with or without a change. R189: the record is 64 bytes with the port's fields at their
offsets; R189 to R191: the codes of the fields, of the marks, of the gap causes, of the results and of the kinds. What
marks a request as the final write is the model's reading (log 25). -/
def Obligations.StatusWritesFollowChanges : Prop :=
  (∀ (s : State) (p : PortId), s.bus.control = .running ∨ s.bus.control = .draining →
      p.val < s.tsu.geometry.portCount → (s.port p).status.finalIssued = false →
      (s.port p).status.request = none →
      (s.port p).status.changed = true
        ∨ ((s.port p).ca.settled = true ∧ (s.port p).ca.inHand = none ∧ (s.port p).ca.agenda = []) →
      (s.port p).status.lastWrite ≠ some s.partTime →
      ∃ t, exec (.statusWriteIssue p) s = .next t
        ∧ (t.port p) = { (s.port p) with status := { (s.port p).status with
            request := some ((s.port p).ca.settled && (s.port p).ca.inHand.isNone
              && (s.port p).ca.agenda.isEmpty) } }
        ∧ s.onlyPort p t)
  ∧ (∀ (s : State) (p : PortId), s.bus.control = .off ∨ s.bus.control = .stopped
        ∨ s.tsu.geometry.portCount ≤ p.val ∨ (s.port p).status.lastWrite = some s.partTime
        ∨ ((s.port p).status.changed = false ∧ (s.port p).ca.settled = false)
        ∨ (s.port p).status.finalIssued = true →
      exec (.statusWriteIssue p) s = .next s)
  ∧ (∀ f : StatusFields, f.bytes.length = 64
      ∧ leNat (f.bytes.take 4) = f.writePosition.toNat
      ∧ leNat ((f.bytes.drop 4).take 2) = f.noticeCount.toNat
      ∧ (f.bytes.drop 6).take 1 = [match f.lastNotice with
          | .noNotice => 0 | .watch => 1 | .presenceUp => 2 | .presenceDown => 3 | .rateLocked => 4
          | .rateFailed => 5 | .frozen => 6 | .holdLost => 7 | .full => 8]
      ∧ (f.bytes.drop 7).take 1 = [match f.presence with | .unknown => 0 | .present => 1 | .absent => 2]
      ∧ (f.bytes.drop 8).take 1 = [match f.rateState with
          | .fixed => 0 | .seeking => 1 | .verifying => 2 | .locked => 3 | .failed => 4]
      ∧ (f.bytes.drop 9).take 1 = [match f.exchange with
          | .idle => 0 | .rateWait => 1 | .sending => 2 | .draining => 3 | .awaiting => 4
          | .pausing => 5 | .breaking => 6]
      ∧ (f.period ≤ 61440 → leNat ((f.bytes.drop 10).take 2) = f.period)
      ∧ (32 ≤ f.period → f.period ≤ 61440 →
          leNat ((f.bytes.drop 12).take 4) = achievedRate f.period)
      ∧ (f.queueDepth ≤ 8 → leNat ((f.bytes.drop 16).take 1) = f.queueDepth)
      ∧ (f.bytes.drop 17).take 1 = [match f.holdOwner with | none => 0xFF | some o => o.setWidth 8]
      ∧ (f.bytes.drop 18).take 1 = [match f.freeze with | .live => 0 | .counting => 1 | .frozen => 2]
      ∧ (f.bytes.drop 19).take 1 = [f.guard.setWidth 8]
      ∧ (f.bytes.drop 20).take 1 = [match f.capture with | .normal => 0 | .full => 1 | .off => 2]
      ∧ (f.bytes.drop 21).take 1 = [f.lastWatch.pattern]
      ∧ (-32768 ≤ f.level → f.level < 32768 →
          (BitVec.ofNat 16 (leNat ((f.bytes.drop 22).take 2))).toInt = f.level)
      ∧ leNat ((f.bytes.drop 24).take 4) = f.receiveCount.toNat
      ∧ leNat ((f.bytes.drop 28).take 4) = f.lastWatch.sequence.toNat
      ∧ leNat ((f.bytes.drop 32).take 4) = f.lastWatch.time.toNat
      ∧ (f.errors.framing ≤ 65535 → leNat ((f.bytes.drop 36).take 2) = f.errors.framing)
      ∧ (f.errors.parity ≤ 65535 → leNat ((f.bytes.drop 38).take 2) = f.errors.parity)
      ∧ (f.errors.overruns ≤ 65535 → leNat ((f.bytes.drop 40).take 2) = f.errors.overruns)
      ∧ (f.errors.breaks ≤ 65535 → leNat ((f.bytes.drop 42).take 2) = f.errors.breaks)
      ∧ (f.pendingGap ≤ 4294967295 → leNat ((f.bytes.drop 44).take 4) = f.pendingGap)
      ∧ (f.bytes.drop 48).all (fun b => b = 0))
  ∧ (∀ v : Port, v.published =
      { writePosition := v.ca.writePosition
        noticeCount := v.status.noticeCount
        lastNotice := v.status.lastNotice
        presence := v.sense.presence
        rateState := v.rf.state
        exchange := v.exc.state
        period := v.slu.line.period
        queueDepth := v.queue.length
        holdOwner := v.hold.owner
        freeze := v.freeze.state
        guard := v.guard
        capture := v.ca.state
        lastWatch := v.pm.lastWatch
        level := v.sense.level
        receiveCount := v.slu.receiveCount
        errors := v.slu.errors
        pendingGap := match v.ca.gap with | none => 0 | some g => g.count })
  ∧ ([MarkKind.presenceUp, .presenceDown, .rateLocked, .rateRejected, .rateFailed, .settings, .breakRx,
        .frozen, .thawed, .breakTx, .enabled].map MarkKind.code = [1, 2, 3, 4, 5, 6, 7, 8, 9, 10, 11]
    ∧ [GapCause.overrun, .full, .frozen, .stopped].map GapCause.code = [1, 2, 3, 4]
    ∧ [ResultCode.ok, .noMatch, .cancelled, .held, .notHolder, .lineLost, .badTask, .guarded,
        .memoryFault, .notFound, .partialResult, .noRate, .drained].map ResultCode.code
      = [0, 1, 2, 3, 4, 5, 6, 7, 8, 9, 10, 11, 12]
    ∧ (∀ (n : Nat) (k : TaskKind), TaskKind.ofCode n = some k ↔
        (n, k) ∈ [(1, TaskKind.send), (2, .exchange), (3, .brk), (4, .line), (5, .hold), (6, .release),
          (7, .watch), (8, .thaw), (9, .guard), (10, .broadcast), (16, .abort), (17, .pattern),
          (18, .sense)])
    ∧ (∀ (n : Nat) (k : ElementKind), ElementKind.ofCode n = some k ↔
        (n, k) ∈ [(0, ElementKind.exact), (1, .fold), (2, .any), (3, .digit), (4, .blank)]))

/-! ### The Line Sense Scanner -/

/-- R157 to R162: a sense sweep begins with port 0 at its timer's expiry and takes the ports in rising order; each
sample gives a level of (c − 2048) × 8 mV and moves its port's run; a run of K samples changes the presence, with a
mark, a notice and PRESENCE raised in RUNNING; a sample that completes no run changes only its port's level and run.
R39, R163: a change to ABSENT reaches the task that runs: without REQUIRE_PRESENCE it runs on; with it a task with a
character on the line stops at that character's end, and any other ends LINE_LOST at once, shown for a task that is no
share and has no entry behind it. R40, R84: a break at SPACE is cut to MARK with its BREAK_TX mark, a break in its guard
time goes to MARK, and one that waits for a gap or a pause is withdrawn. A late sample is taken at the clock's tick (the
model's choice, log 4), and a sweep goes on by the scan port count as it stands at each sample (its choice for a sweep
that runs while an enable changes the count, log 39). -/
def Obligations.SenseSamplesFollowTheirRules : Prop :=
  (∀ (s : State) (tm : Timer), s.scanner.sweep = none → s.scanner.timer = some tm →
      tm.armedAt + tm.span ≤ s.time.increments →
      exec .senseIntervalExpiry s = .next { s with scanner := { s.scanner with
        sweep := some { startTick := s.time.ticks, port := 0 }
        timer := some (s.arm s.scanner.interval)
        firstDue := false } })
  ∧ (∀ (c : Scanner) (v : PortSense) (code : BitVec 12) (mv : Int),
      mv = ((code.toNat : Int) - 2048) * 8 → c.absentMv ≤ c.presentMv →
      (v.sample c code).level = mv
      ∧ (c.absentMv ≤ mv.natAbs → mv.natAbs < c.presentMv →
          v.sample c code = { level := mv, presence := v.presence, runClass := .noRun, runCount := 0 })
      ∧ (c.presentMv ≤ mv.natAbs → v.presence = .present →
          v.sample c code = { level := mv, presence := .present, runClass := .noRun, runCount := 0 })
      ∧ (mv.natAbs < c.absentMv → v.presence = .absent →
          v.sample c code = { level := mv, presence := .absent, runClass := .noRun, runCount := 0 })
      ∧ (c.presentMv ≤ mv.natAbs → v.presence ≠ .present → v.runClass ≠ .high →
          v.sample c code =
            if c.debounce ≤ 1 then
              { level := mv, presence := .present, runClass := .noRun, runCount := 0 }
            else { level := mv, presence := v.presence, runClass := .high, runCount := 1 })
      ∧ (c.presentMv ≤ mv.natAbs → v.presence ≠ .present → v.runClass = .high →
          v.sample c code =
            if c.debounce ≤ v.runCount + 1 then
              { level := mv, presence := .present, runClass := .noRun, runCount := 0 }
            else { level := mv, presence := v.presence, runClass := .high, runCount := v.runCount + 1 })
      ∧ (mv.natAbs < c.absentMv → v.presence ≠ .absent → v.runClass ≠ .low →
          v.sample c code =
            if c.debounce ≤ 1 then
              { level := mv, presence := .absent, runClass := .noRun, runCount := 0 }
            else { level := mv, presence := v.presence, runClass := .low, runCount := 1 })
      ∧ (mv.natAbs < c.absentMv → v.presence ≠ .absent → v.runClass = .low →
          v.sample c code =
            if c.debounce ≤ v.runCount + 1 then
              { level := mv, presence := .absent, runClass := .noRun, runCount := 0 }
            else { level := mv, presence := v.presence, runClass := .low, runCount := v.runCount + 1 }))
  ∧ (∀ (s : State) (w : SenseSweep) (p : PortId) (code : BitVec 12), s.scanner.sweep = some w →
      w.port = p.val → p.val < s.scanner.scanPorts →
      w.startTick + (p.val + 1) * 1475 ≤ (s.time.increments + 1) * 36864 →
      s.bus.control ≠ .draining →
      ((s.port p).sense.sample s.scanner code).presence = (s.port p).sense.presence →
      ∃ t, exec (.senseSampleDone code) s = .next t
        ∧ (t.port p).sense = (s.port p).sense.sample s.scanner code
        ∧ (t.port p).ca = (s.port p).ca ∧ (t.port p).rf = (s.port p).rf
        ∧ (t.port p).status.noticeCount = (s.port p).status.noticeCount
        ∧ t.scanner = { s.scanner with sweep :=
            if p.val + 1 < s.scanner.scanPorts then some { w with port := p.val + 1 } else none }
        ∧ t.time.ticks = max s.time.ticks (w.startTick + (p.val + 1) * 1475)
        ∧ s.sameElsewhere p t ∧ t.attention = s.attention ∧ t.tsu = s.tsu ∧ t.hme = s.hme)
  ∧ (∀ (s : State) (w : SenseSweep) (p : PortId) (code : BitVec 12), s.scanner.sweep = some w →
      w.port = p.val → p.val < s.scanner.scanPorts → p.val < s.tsu.geometry.portCount →
      w.startTick + (p.val + 1) * 1475 ≤ (s.time.increments + 1) * 36864 →
      s.bus.control = .running → (s.port p).rf.state = .fixed → (s.port p).ca.events = [] →
      (s.port p).sense.presence ≠ .present →
      ((s.port p).sense.sample s.scanner code).presence = .present →
      ∃ t, exec (.senseSampleDone code) s = .next t
        ∧ (t.port p).sense = (s.port p).sense.sample s.scanner code
        ∧ (t.port p).ca.events = [EventItem.mk (s.port p).slu.receiveCount s.partTime (.close [(.presenceUp, 0)])]
        ∧ (t.port p).status.noticeCount = (s.port p).status.noticeCount + 1
        ∧ (t.port p).status.lastNotice = .presenceUp
        ∧ t.attention = s.attention ||| 1#10 <<< 2
        ∧ (t.port p).queue = (s.port p).queue ∧ (t.port p).exc = (s.port p).exc
        ∧ s.sameElsewhere p t ∧ t.tsu = s.tsu)
  ∧ (∀ (s : State) (w : SenseSweep) (p : PortId) (code : BitVec 12), s.scanner.sweep = some w →
      w.port = p.val → p.val < s.scanner.scanPorts → p.val < s.tsu.geometry.portCount →
      w.startTick + (p.val + 1) * 1475 ≤ (s.time.increments + 1) * 36864 →
      s.bus.control = .running → (s.port p).rf.state = .fixed → (s.port p).ca.events = [] →
      (s.port p).sense.presence ≠ .absent →
      ((s.port p).sense.sample s.scanner code).presence = .absent →
      ∃ t, exec (.senseSampleDone code) s = .next t
        ∧ (t.port p).sense = (s.port p).sense.sample s.scanner code
        ∧ s.sameElsewhere p t ∧ t.attention.getLsbD 2 = true
        ∧ ((s.port p).queue = [] ∨ (s.port p).exc.state = .idle
            ∨ (∃ e rest, (s.port p).queue = e :: rest ∧ (e.fields.flags.getLsbD 1 = false
                ∨ ((s.port p).exc.state = .sending ∨ (s.port p).exc.state = .draining)
                  ∧ (∃ c, (s.port p).slu.tx = .character c) ∧ (s.port p).exc.stopping ≠ none)) →
          s.absenceReported p t ∧ (t.port p).ca.events = [s.presenceDownItem p]
          ∧ (t.port p).queue = (s.port p).queue ∧ (t.port p).exc = (s.port p).exc
          ∧ (t.port p).slu = (s.port p).slu ∧ t.tsu = s.tsu)
        ∧ (∀ e rest c, (s.port p).queue = e :: rest → e.fields.flags.getLsbD 1 = true →
          (s.port p).exc.state = .sending ∨ (s.port p).exc.state = .draining →
          (s.port p).slu.tx = .character c → (s.port p).exc.stopping = none →
          s.absenceReported p t ∧ (t.port p).ca.events = [s.presenceDownItem p]
          ∧ (t.port p).exc = { (s.port p).exc with stopping := some .lineLost }
          ∧ (t.port p).slu = { (s.port p).slu with staging := [], textRead := none }
          ∧ (t.port p).queue = e :: rest ∧ t.tsu = s.tsu)
        ∧ (∀ e, (s.port p).queue = [e] → e.fields.flags.getLsbD 1 = true → e.kind ≠ .broadcast →
          ((s.port p).exc.state = .rateWait ∨ (s.port p).exc.state = .awaiting
              ∨ (s.port p).exc.state = .pausing →
            s.lineLost p e 0 t ∧ (t.port p).ca.events = [s.presenceDownItem p]
            ∧ (t.port p).slu = (s.port p).slu
            ∧ ((s.port p).exc.state = .awaiting → (t.port p).pm.await = none))
          ∧ ((s.port p).exc.state = .sending ∨ (s.port p).exc.state = .draining →
            (∀ c, (s.port p).slu.tx ≠ .character c) →
            s.lineLost p e 0 t
            ∧ (t.port p).slu = { (s.port p).slu with staging := [], textRead := none }
            ∧ ((s.port p).ca.openTx = none → (s.port p).ca.txTaken = false →
              (t.port p).ca.events = [s.presenceDownItem p]))
          ∧ ((s.port p).exc.state = .breaking →
            (∀ tm held, (s.port p).slu.tx = .breakSpace → (s.port p).exc.timer = some tm →
              held = BitVec.ofNat 32 (min (s.time.increments - tm.armedAt) 4294967295) →
              s.lineLost p e held t ∧ (t.port p).slu = { (s.port p).slu with tx := .free }
              ∧ (t.port p).ca.events = [s.presenceDownItem p,
                  { position := (s.port p).slu.receiveCount, time := s.partTime,
                    action := .close [(.breakTx, held)] }])
            ∧ (∀ d, (s.port p).slu.tx = .breakGuard d →
              s.lineLost p e (BitVec.ofNat 32
                  (if e.fields.paramA = 0 then 250 else min e.fields.paramA.toNat 5000)) t
              ∧ (t.port p).slu = { (s.port p).slu with tx := .free }
              ∧ (t.port p).ca.events = [s.presenceDownItem p])
            ∧ (∀ d b, (s.port p).slu.tx = .gap d b ∨ (s.port p).slu.tx = .pause d →
              s.lineLost p e 0 t ∧ (t.port p).slu = (s.port p).slu
              ∧ (t.port p).ca.events = [s.presenceDownItem p]))))


/-! ### What the other kinds of task do -/

/-- R42, R79, R96, R104: LINE with a rate makes every setting that of its parameters, resets progress and leaves FIXED
with no trace of a search; LINE with parameter A of 0 selects AUTO, keeps the period and starts to seek. R43, R112,
R147: WATCH sets the watch set, the trigger set within it and the count, and keeps the progress of what stays watched.
-/
def Obligations.LineAndWatchTakeTheirParameters : Prop :=
  ∀ (s : State) (p : PortId) (f : TaskFields),
    (f.paramA ≠ 0 →
      (s.lineTask p f).2 = { code := .ok, matchSequence := 0,
                             outcomeA := BitVec.ofNat 32 (achievedRate (periodOfRate f.paramA.toNat)),
                             outcomeB := BitVec.ofNat 32 (periodOfRate f.paramA.toNat) }
      ∧ ((s.lineTask p f).1.port p).slu.line =
          { mode := .fixed
            period := periodOfRate f.paramA.toNat
            format := { dataBits := if f.paramC.extractLsb' 0 8 = 7 then 7 else 8
                        parity := if f.paramC.extractLsb' 8 8 = 1 then .even
                          else if f.paramC.extractLsb' 8 8 = 2 then .odd else .noParity
                        stopBits := if f.paramC.extractLsb' 16 8 = 2 then 2 else 1 }
            gap := (f.paramC.extractLsb' 24 8).toNat
            fallbackRate := (f.paramB.extractLsb' 0 24).toNat
            pauseEnable := f.paramB.getLsbD 24
            lineEndCode := f.paramD.extractLsb' 0 8
            pauseMs := min 1000 (4 * (f.paramD.extractLsb' 24 8).toNat)
            endCodeEnable := f.paramB.getLsbD 25
            endCode := f.paramD.extractLsb' 8 8
            quiet := if f.paramD.extractLsb' 16 8 = 0 then 4 else (f.paramD.extractLsb' 16 8).toNat }
      ∧ ((s.lineTask p f).1.port p).rf = { state := .fixed, attempts := 0, samples := [], interval := none,
                                           verifySeen := 0, verifyFraming := 0 })
    ∧ (f.paramA = 0 →
      (s.lineTask p f).2 = { code := .ok, matchSequence := 0, outcomeA := 0, outcomeB := 0 }
      ∧ ((s.lineTask p f).1.port p).slu.line.mode = .auto
      ∧ ((s.lineTask p f).1.port p).slu.line.period = (s.port p).slu.line.period
      ∧ ((s.lineTask p f).1.port p).rf = { state := .seeking, attempts := 0, samples := [],
                                           interval := none, verifySeen := 0, verifyFraming := 0 }
      ∧ ((∀ edge silent, (s.port p).slu.rx ≠ .brk edge silent) →
          ((s.lineTask p f).1.port p).slu.rx = .notDecoding))
    ∧ ((s.lineTask p f).1.port p).pm = { (s.port p).pm with
        tail := [], eligible := Vector.replicate 32 0 }
    ∧ ((s.lineTask p f).1.port p).slu.tx = (s.port p).slu.tx
    ∧ ((s.lineTask p f).1.port p).slu.receiveCount = (s.port p).slu.receiveCount
    ∧ ((s.lineTask p f).1.port p).guard = (s.port p).guard
    ∧ s.sameElsewhere p (s.lineTask p f).1
    ∧ ((s.watchTask p f).2 = { code := .ok, matchSequence := 0, outcomeA := f.paramA,
                               outcomeB := f.paramB &&& f.paramA }
      ∧ ((s.watchTask p f).1.port p).pm.watch = f.paramA
      ∧ ((s.watchTask p f).1.port p).pm.trigger = f.paramB &&& f.paramA
      ∧ ((s.watchTask p f).1.port p).pm.tail = (s.port p).pm.tail
      ∧ (∀ i : PatternId, ((s.watchTask p f).1.port p).pm.eligible[i] =
          if (f.paramA.getLsbD i.val ∧ (s.port p).pm.watch.getLsbD i.val) ∨ (s.port p).pm.await = some i
          then (s.port p).pm.eligible[i] else 0)
      ∧ ((s.watchTask p f).1.port p).freeze = { (s.port p).freeze with
          postCount := min f.paramC.toNat 65535 }
      ∧ s.onlyPort p (s.watchTask p f).1)

/-- R147 to R152, R176: in LIVE a byte that carries a trigger starts the count, in COUNTING each byte counts it down,
and at 0 the freeze item is handed at the position behind the byte; the bytes of a loss run count in their order, and a
run in which the count ends is divided there. Where the Capture Assembler meets the freeze item, the open DATA record,
an open TX record and the FROZEN mark are to be written in that order, under the port's mode, and the freeze is FROZEN
with its notice and its cause. THAW returns to LIVE, from FROZEN with the count of the pending gap and with an item;
R153: that item writes the open DATA record, the pending gap's GAP and the THAWED mark. That FROZEN and its notice come
about at the meeting, before the records are issued, is the model's reading (log 18), and the sequence of the TX record
that the freeze closes is its choice (log 38). -/
def Obligations.FreezeFollowsItsTrigger : Prop :=
  (∀ (v : Port) (sequence now : Word) (i : PatternId), v.ca.mode ≠ .off → v.ca.settled = false →
      v.freeze.state = .live →
      (0 < v.freeze.postCount → v.freezeByte sequence now (some i) = { v with freeze :=
        { state := .counting, postCount := v.freeze.postCount, remaining := v.freeze.postCount,
          trigger := some i } })
      ∧ (v.freeze.postCount = 0 → (v.freezeByte sequence now (some i)).freeze.trigger = some i
        ∧ EventItem.mk (sequence + 1) now .freeze ∈ (v.freezeByte sequence now (some i)).ca.events)
      ∧ v.freezeByte sequence now none = v)
  ∧ (∀ (v : Port) (sequence now : Word) (n : Nat) (i : Option PatternId), v.ca.mode ≠ .off →
      v.ca.settled = false → v.freeze.state = .counting → v.freeze.remaining = n + 1 →
      (v.freezeByte sequence now i).freeze = { v.freeze with remaining := n }
      ∧ (0 < n → (v.freezeByte sequence now i).ca = v.ca)
      ∧ (n = 0 → EventItem.mk (sequence + 1) now .freeze ∈ (v.freezeByte sequence now i).ca.events))
  ∧ (∀ (v : Port) (run : LossRun) (now : Word), v.ca.mode ≠ .off → v.ca.settled = false →
      v.ca.gap = none →
      (v.freeze.state = .counting → 0 < v.freeze.remaining → run.count < v.freeze.remaining →
        (v.loseRun run now).freeze = { v.freeze with remaining := v.freeze.remaining - run.count }
        ∧ (v.loseRun run now).ca.lossRuns = v.ca.lossRuns ∧ (v.loseRun run now).ca.events = v.ca.events
        ∧ (v.loseRun run now).ca.gapCount = min run.count 4294967295)
      ∧ (v.freeze.state = .counting → 0 < v.freeze.remaining → v.freeze.remaining ≤ run.count →
        (v.loseRun run now).freeze = { v.freeze with remaining := 0 }
        ∧ EventItem.mk (run.sequence + BitVec.ofNat 32 v.freeze.remaining) now .freeze ∈
            (v.loseRun run now).ca.events
        ∧ (v.loseRun run now).ca.gapCount = min v.freeze.remaining 4294967295
        ∧ (v.freeze.remaining = run.count → (v.loseRun run now).ca.lossRuns = v.ca.lossRuns)
        ∧ (v.freeze.remaining < run.count → ∃ rest,
            (v.loseRun run now).ca.lossRuns = rest :: v.ca.lossRuns
            ∧ rest.sequence = run.sequence + BitVec.ofNat 32 v.freeze.remaining
            ∧ rest.count = run.count - v.freeze.remaining))
      ∧ (∀ (i : PatternId) (place : Nat), v.freeze.state = .live → run.trigger = some (i, place) →
        place < run.count →
        (run.count < place + 1 + v.freeze.postCount →
          (v.loseRun run now).freeze = { v.freeze with
            state := .counting, trigger := some i
            remaining := v.freeze.postCount - (run.count - (place + 1)) }
          ∧ (v.loseRun run now).ca.events = v.ca.events
          ∧ (v.loseRun run now).ca.gapCount = min run.count 4294967295)
        ∧ (place + 1 + v.freeze.postCount ≤ run.count →
          (v.loseRun run now).freeze = { v.freeze with
            state := .counting, trigger := some i, remaining := 0 }
          ∧ EventItem.mk (run.sequence + BitVec.ofNat 32 (place + 1 + v.freeze.postCount)) now .freeze ∈
              (v.loseRun run now).ca.events
          ∧ (v.loseRun run now).ca.gapCount = min (place + 1 + v.freeze.postCount) 4294967295)))
  ∧ (∀ (s : State) (p : PortId) (position time : Word) (i : PatternId) (r : CaptureRecord)
      (more : List CaptureRecord) (records : List UnitRecord) (need : Nat), s.bus.control ≠ .off →
      p.val < s.tsu.geometry.portCount → (s.port p).ca.events = [EventItem.mk position time .freeze] →
      (s.port p).ca.inHand = none → (s.port p).ca.agenda = [] → (s.port p).ca.mode ≠ .off →
      (s.port p).ca.settled = false → (s.port p).freeze.state = .counting →
      (s.port p).freeze.trigger = some i →
      (s.port p).ca.openData.toList.map (fun d => CaptureRecord.data d .event)
        ++ (s.port p).ca.openTx.toList.map (fun x => CaptureRecord.tx x position)
        ++ [.mark .frozen (BitVec.ofNat 32 i.val) s.partTime position] = r :: more →
      records = placeRecords (s.port p).ca.areaSize (s.port p).ca.writePosition.toNat
        ((s.port p).ca.gap.toList.map UnitRecord.gap ++ [.record r]) →
      need = ((s.port p).ca.writePosition - (s.port p).ca.readMark).toNat
        + (records.map UnitRecord.size).sum →
      ∃ t, exec (.caMeetInput p) s = .next t
        ∧ (t.port p).freeze = { (s.port p).freeze with state := .frozen }
        ∧ (t.port p).ca.events = [] ∧ (t.port p).ca.openData = none ∧ (t.port p).ca.openTx = none
        ∧ (t.port p).ca.txTaken = ((s.port p).ca.txTaken || (s.port p).ca.openTx.isSome)
        ∧ t.attention.getLsbD 4 = true
        ∧ ((s.port p).ca.mode = .history ∨ need ≤ (s.port p).ca.areaSize →
          (t.port p).ca.inHand = some { records := records, passed := true })
        ∧ ((s.port p).ca.mode = .keep → (s.port p).ca.areaSize < need →
          (s.port p).ca.state ≠ .full ∨ (s.port p).ca.lastFetch ≠ some s.partTime →
          (t.port p).ca.inHand = some { records := records, passed := false }
          ∧ (t.port p).ca.fetch = .wanted)
        ∧ ((s.port p).ca.mode = .history ∨ need ≤ (s.port p).ca.areaSize
            ∨ (s.port p).ca.state ≠ .full ∨ (s.port p).ca.lastFetch ≠ some s.partTime →
          (t.port p).ca.agenda = more.map (fun x => .write x true)
          ∧ (t.port p).ca.gap = (s.port p).ca.gap
          ∧ (t.port p).status.noticeCount = (s.port p).status.noticeCount + 1
          ∧ (t.port p).status.lastNotice = .frozen ∧ t.attention = s.attention ||| 1#10 <<< 4)
        ∧ (t.port p).slu = (s.port p).slu ∧ (t.port p).queue = (s.port p).queue
        ∧ s.sameElsewhere p t ∧ t.tsu = s.tsu)
  ∧ (∀ (s : State) (p : PortId),
      ((s.port p).freeze.state = .live → s.thaw p = (s, 0))
      ∧ ((s.port p).freeze.state = .counting → (s.thaw p).2 = 0
        ∧ ((s.thaw p).1.port p).freeze =
          { state := .live, postCount := (s.port p).freeze.postCount, remaining := 0, trigger := none }
        ∧ ((s.thaw p).1.port p).ca.openData = (s.port p).ca.openData
        ∧ ∀ it ∈ ((s.thaw p).1.port p).ca.events, it.action ≠ .freeze)
      ∧ ((s.port p).freeze.state = .frozen →
        (s.thaw p).2 = (match (s.port p).ca.gap with | none => 0 | some g => g.count)
        ∧ ((s.thaw p).1.port p).freeze =
          { state := .live, postCount := (s.port p).freeze.postCount, remaining := 0, trigger := none }
        ∧ (s.bus.control ≠ .off → p.val < s.tsu.geometry.portCount → (s.port p).ca.events = [] →
          ((s.thaw p).1.port p).ca = { (s.port p).ca with
            events := [EventItem.mk (s.port p).slu.receiveCount s.partTime (.thaw (s.thaw p).2)]
            runGrows := false })))
  ∧ (∀ (s : State) (p : PortId) (position time : Word) (c : Nat) (rest : List EventItem)
      (thawed : CaptureStep), s.bus.control ≠ .off → p.val < s.tsu.geometry.portCount →
      (s.port p).slu.fifo = [] → (s.port p).ca.lossRuns = [] → (s.port p).ca.inHand = none →
      (s.port p).ca.agenda = [] → (s.port p).ca.events = EventItem.mk position time (.thaw c) :: rest →
      (∀ x ∈ rest, x.action ≠ .freeze) →
      thawed = .write (.mark .thawed (BitVec.ofNat 32 c) time position) true →
      ∃ t, exec (.caMeetInput p) s = .next t ∧ (t.port p).ca.events = rest
        ∧ (t.port p).ca.openData = none ∧ (t.port p).freeze = (s.port p).freeze
        ∧ ((s.port p).ca.mode = .history → (s.port p).ca.settled = false →
            (s.port p).freeze.state ≠ .frozen →
            (t.port p).ca.gap = (s.port p).ca.gap
            ∧ (∀ d, (s.port p).ca.openData = some d →
              (t.port p).ca.inHand = some {
                records := placeRecords (s.port p).ca.areaSize (s.port p).ca.writePosition.toNat
                  ((s.port p).ca.gap.toList.map UnitRecord.gap ++ [.record (.data d .event)])
                passed := true }
              ∧ (t.port p).ca.agenda = [.writeGap, thawed])
            ∧ (∀ g, (s.port p).ca.openData = none → (s.port p).ca.gap = some g →
              (t.port p).ca.inHand = some {
                records := placeRecords (s.port p).ca.areaSize (s.port p).ca.writePosition.toNat [.gap g]
                passed := true }
              ∧ (t.port p).ca.agenda = [thawed])
            ∧ ((s.port p).ca.openData = none → (s.port p).ca.gap = none →
              (t.port p).ca.inHand = some {
                records := placeRecords (s.port p).ca.areaSize (s.port p).ca.writePosition.toNat
                  [.record (.mark .thawed (BitVec.ofNat 32 c) time position)]
                passed := true }
              ∧ (t.port p).ca.agenda = []))
        ∧ ((s.port p).ca.openData = none →
            (s.port p).ca.mode = .off ∨ (s.port p).ca.settled = true ∨ (s.port p).freeze.state = .frozen →
            (t.port p).ca.inHand = none ∧ (t.port p).ca.agenda = []
            ∧ (t.port p).ca.gap = (s.port p).ca.gap)
        ∧ (t.port p).slu = (s.port p).slu ∧ s.sameElsewhere p t ∧ t.tsu = s.tsu)

/-- R46 to R49: the set that a share's end joins; a share's end is noted, and the last one hands the completion of the
slot: its code by the order of R48, its sets as outcomes, and as bytes sent the text length for each port of the sent
set, with the characters of each share that was stopped before its last byte; its start time is the earliest of its
shares', as seen from the present. The last share may be sent, refused, drained or in neither set. A share refused once
all its text was out adds no characters (the model's reading, log 21). -/
def Obligations.BroadcastCompletesWithItsLastShare : Prop :=
  (∀ complete, shareSet .ok complete = .sent ∧ shareSet .drained complete = .drained
      ∧ shareSet .guarded complete = .refused ∧ shareSet .held complete = .refused
      ∧ shareSet .lineLost complete = .refused ∧ shareSet .noRate complete = .refused
      ∧ shareSet .memoryFault complete = .refused
      ∧ shareSet .cancelled complete = (if complete then .sent else .neither))
  ∧ (∀ b : Broadcast, b.code =
      (if b.cancelled then .cancelled
        else if b.nDrained = b.total then .drained
        else if b.fault then .memoryFault
        else if b.refused ||| b.drained ≠ 0 then .partialResult
        else .ok))
  ∧ (∀ (s : State) (p : PortId) (b : Broadcast) (start : Word) (n : Nat), s.tsu.broadcasts = [b] →
      (1 < b.left →
        (s.shareEnds p b.slot .sent start n false).tsu.completions = s.tsu.completions
        ∧ ∃ c, (s.shareEnds p b.slot .sent start n false).tsu.broadcasts = [c] ∧ c.left = b.left - 1
          ∧ c.sent = b.sent ||| 1#24 <<< p.val ∧ c.refused = b.refused ∧ c.drained = b.drained
          ∧ c.characters = b.characters ∧ c.total = b.total ∧ c.nDrained = b.nDrained)
      ∧ (b.left = 1 → b.cancelled = false → b.nDrained < b.total → b.fault = false →
        (s.shareEnds p b.slot .sent start n false).tsu.broadcasts = []
        ∧ ∃ c, (s.shareEnds p b.slot .sent start n false).tsu.completions = s.tsu.completions ++ [c]
          ∧ c.slot = b.slot ∧ c.notify = b.notify ∧ c.attempts = 0 ∧ c.matchSequence = 0
          ∧ c.code = (if b.refused ||| b.drained ≠ 0 then .partialResult else .ok)
          ∧ c.endTime = s.partTime
          ∧ c.outcomeA = (b.sent ||| 1#24 <<< p.val).setWidth 32
          ∧ c.outcomeB = (b.refused ||| b.drained).setWidth 32
          ∧ c.bytesSent = b.textLength * ((List.finRange 24).filter fun q : PortId =>
              (b.sent ||| 1#24 <<< p.val).getLsbD q.val).length + b.characters))
  ∧ (∀ (s : State) (p : PortId) (b : Broadcast) (start : Word) (n : Nat) (fault : Bool),
      s.tsu.broadcasts = [b] → 1 < b.left →
      (∃ c, (s.shareEnds p b.slot .refused start n fault).tsu.broadcasts = [c] ∧ c.left = b.left - 1
        ∧ c.refused = b.refused ||| 1#24 <<< p.val ∧ c.sent = b.sent ∧ c.drained = b.drained
        ∧ c.nDrained = b.nDrained ∧ c.fault = (b.fault || fault)
        ∧ c.characters = (if n < b.textLength then b.characters + n else b.characters))
      ∧ (∃ c, (s.shareEnds p b.slot .neither start n false).tsu.broadcasts = [c] ∧ c.left = b.left - 1
        ∧ c.refused = b.refused ∧ c.sent = b.sent ∧ c.drained = b.drained
        ∧ c.nDrained = b.nDrained ∧ c.fault = b.fault
        ∧ c.characters = (if n < b.textLength then b.characters + n else b.characters))
      ∧ (∃ c, (s.shareEnds p b.slot .drained start 0 false).tsu.broadcasts = [c] ∧ c.left = b.left - 1
        ∧ c.drained = b.drained ||| 1#24 <<< p.val ∧ c.nDrained = b.nDrained + 1
        ∧ c.refused = b.refused ∧ c.sent = b.sent ∧ c.fault = b.fault
        ∧ c.characters = b.characters)
      ∧ (s.shareEnds p b.slot .refused start n fault).tsu.completions = s.tsu.completions)
  ∧ (∀ (s : State) (p : PortId) (b : Broadcast) (set : ShareSet) (start earliest : Word) (n : Nat)
      (fault : Bool), s.tsu.broadcasts = [b] →
      earliest = (match b.start with
        | none => start
        | some first => if (s.partTime - first).toNat < (s.partTime - start).toNat then start else first) →
      (1 < b.left → ∃ c, (s.shareEnds p b.slot set start n fault).tsu.broadcasts = [c]
        ∧ c.start = some earliest)
      ∧ (∀ (sent refused drained : BitVec 24) (nDrained : Nat), b.left = 1 →
        sent = (if set = .sent then b.sent ||| 1#24 <<< p.val else b.sent) →
        refused = (if set = .refused then b.refused ||| 1#24 <<< p.val else b.refused) →
        drained = (if set = .drained then b.drained ||| 1#24 <<< p.val else b.drained) →
        nDrained = (if set = .drained then b.nDrained + 1 else b.nDrained) →
        (s.shareEnds p b.slot set start n fault).tsu.broadcasts = []
        ∧ (s.shareEnds p b.slot set start n fault).tsu.completions = s.tsu.completions ++
          [{ slot := b.slot, notify := b.notify
             code := if b.cancelled = true then .cancelled
               else if nDrained = b.total then .drained
               else if (b.fault || fault) = true then .memoryFault
               else if refused ||| drained ≠ 0 then .partialResult
               else .ok
             attempts := 0
             bytesSent := b.textLength * ((List.finRange 24).filter fun q : PortId =>
                 sent.getLsbD q.val).length + b.characters
               + (if set ≠ .sent ∧ n < b.textLength then n else 0)
             matchSequence := 0, startTime := earliest, endTime := s.partTime
             outcomeA := sent.setWidth 32
             outcomeB := (if nDrained = b.total then refused else refused ||| drained).setWidth 32 }]
        ∧ (s.shareEnds p b.slot set start n fault).ports = s.ports))

/-- R15, R109: a PATTERN text gives its entry one element for each pair of bytes, completes OK with their number and
resets the entry's progress on every port; one that names an element kind above 4 is refused with reason 7 and one that
cannot be read is MEMORY_FAULT, and the table stays; with no text the entry is cleared at once. R16, R164: SENSE clamps
its settings, resets every run and reports both thresholds. R17, R18, R21, R23: ABORT of a slot that is not in flight is
NOT_FOUND, with its result and DONE to be written; of an entry that has not started, it removes the entry, completes it
CANCELLED and is OK with outcome A 1. R19, R40: of a started one it is OK with outcome A 2 and stops the work by its
state, as it does for one that has ended or is stopping already, without further effect; the ends are shown where no
entry stands behind it. R20: of a BROADCAST it takes unstarted shares out and stops started ones, and the slot is marked
cancelled; shown where one port still holds a share. That a PATTERN whose text is on its way at a STOP still takes
effect, that a PATTERN and an ABORT start at the answer of their whole-slot reads, that the writes of an ABORT come
first, and what outcome A says of a BROADCAST are the model's (logs 36, 37, 41, 42 and 23). -/
def Obligations.ImmediateKindsTakeEffect : Prop :=
  (∀ (s : State) (w : Sweep) (t : TaskSlot) (start : Word) (bytes : List Byte) (es : List Element),
      bytes = es.flatMap (fun e => [match e.kind with
        | .exact => 0 | .fold => 1 | .any => 2 | .digit => 3 | .blank => 4, e.value]) →
      (s.patternArrives w t start bytes).patterns =
          s.patterns.set (Fin.ofNat 32 t.fields.patternId) (some es)
      ∧ (∀ p : PortId, ((s.patternArrives w t start bytes).port p).pm.eligible[
            Fin.ofNat 32 t.fields.patternId] = 0
          ∧ ((s.patternArrives w t start bytes).port p).pm.watch = (s.port p).pm.watch
          ∧ ((s.patternArrives w t start bytes).port p).pm.tail = (s.port p).pm.tail)
      ∧ (es.length ≤ 24 → (s.patternArrives w t start bytes).tsu
          = (s.slotCompleted w 0 start es.length 0 (t.fields.flags.getLsbD 0)).tsu))
  ∧ (∀ (s : State) (w : Sweep) (t : TaskSlot),
      (t.fields.textLength = 0 →
        (s.runPattern w t).patterns = s.patterns.set (Fin.ofNat 32 t.fields.patternId) none
        ∧ (∀ p : PortId, ((s.runPattern w t).port p).pm.eligible[Fin.ofNat 32 t.fields.patternId] = 0
          ∧ ((s.runPattern w t).port p).pm.watch = (s.port p).pm.watch
          ∧ ((s.runPattern w t).port p).pm.tail = (s.port p).pm.tail)
        ∧ (s.runPattern w t).tsu
          = (s.slotCompleted w 0 s.partTime 0 0 (t.fields.flags.getLsbD 0)).tsu)
      ∧ (t.fields.textLength ≠ 0 → s.runPattern w t = { s with tsu := { s.tsu with
          sweep := some { w with stage := .patternWanted t s.partTime } } }))
  ∧ (∀ (s : State) (w : Sweep) (t : TaskSlot) (start : Word) (read : Nat) (bytes : List Byte),
      s.tsu.sweep = some w → w.stage = .patternOut t start read →
      s.sweepReadEnds read none = s.slotCompleted w 8 start 0 0 (t.fields.flags.getLsbD 0)
      ∧ s.sweepReadEnds read (some bytes) = s.patternArrives w t start bytes)
  ∧ (∀ (s : State) (w : Sweep) (t : TaskSlot) (start : Word) (bytes : List Byte) (i : Nat) (k : Byte),
      bytes.length % 2 = 0 → bytes[2 * i]? = some k → 4 < k.toNat →
      s.patternArrives w t start bytes = { s with tsu := { s.tsu with
        writes := s.tsu.writes ++
          [ { address := addrPlus s.tsu.geometry.tableAddress (64 * w.index) + 40
              bytes := [6, 0, 0, 0, 0, 0, 0, 0] ++ leBytes 4 start.toNat
                ++ leBytes 4 s.partTime.toNat ++ [7, 0, 0, 0, 0, 0, 0, 0]
              raisesTask := false },
            { address := addrPlus s.tsu.geometry.tableAddress (64 * w.index)
              bytes := [3]
              raisesTask := t.fields.flags.getLsbD 0 } ]
        sweep := some { w with stage := .writing } } })
  ∧ (∀ (s : State) (w : Sweep) (t : TaskSlot),
      (s.runSense w t).scanner.presentMv =
          max 1000 (min (if t.fields.paramA = 0 then 3000 else t.fields.paramA.toNat) 12000)
      ∧ (s.runSense w t).scanner.absentMv =
          max 500 (min (if t.fields.paramB = 0 then 2000 else t.fields.paramB.toNat)
            ((s.runSense w t).scanner.presentMv - 200))
      ∧ (s.runSense w t).scanner.debounce =
          max 1 (min (if t.fields.paramC = 0 then 3 else t.fields.paramC.toNat) 15)
      ∧ (s.runSense w t).scanner.interval =
          max 1 (min (if t.fields.paramD = 0 then 10 else t.fields.paramD.toNat) 255)
      ∧ (s.runSense w t).tsu = (s.slotCompleted w 0 s.partTime (s.runSense w t).scanner.presentMv
          (s.runSense w t).scanner.absentMv (t.fields.flags.getLsbD 0)).tsu
      ∧ (s.runSense w t).scanner.timer = s.scanner.timer
      ∧ ∀ p : PortId, ((s.runSense w t).port p).sense =
          { (s.port p).sense with runClass := .noRun, runCount := 0 })
  ∧ (∀ (s : State) (w : Sweep) (t : TaskSlot), t.fields.paramA.toNat ∉ s.tsu.inFlight →
      s.runAbort w t = { s with tsu := { s.tsu with
        writes := s.tsu.writes ++
          [ { address := addrPlus s.tsu.geometry.tableAddress (64 * w.index) + 40
              bytes := [9, 0, 0, 0, 0, 0, 0, 0] ++ leBytes 4 s.partTime.toNat
                ++ leBytes 4 s.partTime.toNat ++ [0, 0, 0, 0, 0, 0, 0, 0]
              raisesTask := false },
            { address := addrPlus s.tsu.geometry.tableAddress (64 * w.index)
              bytes := [3]
              raisesTask := t.fields.flags.getLsbD 0 } ]
        sweep := some { w with stage := .writing } } })
  ∧ (∀ (s : State) (w : Sweep) (t : TaskSlot) (p : PortId) (head e : QueueEntry),
      t.fields.paramA.toNat ∈ s.tsu.inFlight → s.tsu.broadcasts = [] →
      (s.port p).queue = [head, e] → (s.port p).exc.state ≠ .idle → head.slot ≠ e.slot →
      e.slot = t.fields.paramA.toNat → e.kind ≠ .broadcast →
      (∀ q : PortId, q ≠ p → ∀ x ∈ (s.port q).queue, x.slot ≠ e.slot) →
      ((s.runAbort w t).port p).queue = [head]
      ∧ ((s.runAbort w t).port p).exc = (s.port p).exc
      ∧ (s.runAbort w t).tsu.completions = s.tsu.completions ++
          [{ slot := e.slot, notify := e.fields.notify, code := ResultCode.cancelled, attempts := 0,
             bytesSent := 0, matchSequence := 0, startTime := s.partTime, endTime := s.partTime,
             outcomeA := 0, outcomeB := 0 }]
      ∧ s.abortDone w t 1 (s.runAbort w t)
      ∧ s.sameElsewhere p (s.runAbort w t))
  ∧ (∀ (s : State) (w : Sweep) (t : TaskSlot), t.fields.paramA.toNat ∈ s.tsu.inFlight →
      s.tsu.broadcasts = [] → (∀ q : PortId, ∀ x ∈ (s.port q).queue, x.slot ≠ t.fields.paramA.toNat) →
      s.runAbort w t = s.slotCompleted w 0 s.partTime 2 0 (t.fields.flags.getLsbD 0))
  ∧ (∀ (s u : State) (w : Sweep) (t : TaskSlot) (p : PortId) (e : QueueEntry) (rest : List QueueEntry),
      t.fields.paramA.toNat ∈ s.tsu.inFlight → s.tsu.broadcasts = [] →
      (s.port p).queue = e :: rest → (s.port p).exc.state ≠ .idle → e.slot = t.fields.paramA.toNat →
      e.kind ≠ .broadcast → (∀ q : PortId, q ≠ p → ∀ x ∈ (s.port q).queue, x.slot ≠ e.slot) →
      s.runAbort w t = u →
      ((s.port p).exc.stopping ≠ none →
        u = s.slotCompleted w 0 s.partTime 2 0 (t.fields.flags.getLsbD 0))
      ∧ (∀ c, (s.port p).exc.stopping = none →
        (s.port p).exc.state = .sending ∨ (s.port p).exc.state = .draining →
        (s.port p).slu.tx = .character c →
        s.stopsAtCharacterEnd p .cancelled u ∧ s.abortDone w t 2 u ∧ s.sameElsewhere p u)
      ∧ ((s.port p).exc.stopping = none → rest = [] →
        ((s.port p).exc.state = .rateWait ∨ (s.port p).exc.state = .awaiting
            ∨ (s.port p).exc.state = .pausing →
          s.taskEnded p e .cancelled 0 u ∧ s.abortDone w t 2 u
          ∧ (u.port p).slu = (s.port p).slu ∧ s.sameElsewhere p u
          ∧ ((s.port p).exc.state = .awaiting → (u.port p).pm.await = none))
        ∧ ((s.port p).exc.state = .sending ∨ (s.port p).exc.state = .draining →
          (∀ c, (s.port p).slu.tx ≠ .character c) →
          s.taskEnded p e .cancelled 0 u ∧ s.abortDone w t 2 u
          ∧ (u.port p).slu = { (s.port p).slu with staging := [], textRead := none }
          ∧ s.sameElsewhere p u)
        ∧ ((s.port p).exc.state = .breaking →
          (∀ tm held, (s.port p).slu.tx = .breakSpace → (s.port p).exc.timer = some tm →
            held = BitVec.ofNat 32 (min (s.time.increments - tm.armedAt) 4294967295) →
            s.taskEnded p e .cancelled held u ∧ s.abortDone w t 2 u
            ∧ (u.port p).slu = { (s.port p).slu with tx := .free } ∧ s.sameElsewhere p u
            ∧ (s.bus.control ≠ .off → p.val < s.tsu.geometry.portCount → (s.port p).ca.events = [] →
              (u.port p).ca.events = [{ position := (s.port p).slu.receiveCount, time := s.partTime,
                                        action := .close [(.breakTx, held)] }]))
          ∧ (∀ d, (s.port p).slu.tx = .breakGuard d →
            s.taskEnded p e .cancelled (BitVec.ofNat 32
                (if e.fields.paramA = 0 then 250 else min e.fields.paramA.toNat 5000)) u
            ∧ s.abortDone w t 2 u ∧ (u.port p).slu = { (s.port p).slu with tx := .free }
            ∧ (u.port p).ca = (s.port p).ca ∧ s.sameElsewhere p u)
          ∧ (∀ d b, (s.port p).slu.tx = .gap d b ∨ (s.port p).slu.tx = .pause d →
            s.taskEnded p e .cancelled 0 u ∧ s.abortDone w t 2 u
            ∧ (u.port p).slu = (s.port p).slu ∧ (u.port p).ca = (s.port p).ca
            ∧ s.sameElsewhere p u))))
  ∧ (∀ (s u : State) (w : Sweep) (t : TaskSlot) (p : PortId) (b : Broadcast),
      t.fields.paramA.toNat ∈ s.tsu.inFlight → s.tsu.broadcasts = [b] → b.slot = t.fields.paramA.toNat →
      0 < b.total →
      (∀ q : PortId, q ≠ p → ∀ x ∈ (s.port q).queue, x.slot ≠ b.slot) → s.runAbort w t = u →
      (∀ head e, (s.port p).queue = [head, e] → (s.port p).exc.state ≠ .idle → head.slot ≠ b.slot →
        e.slot = b.slot → e.kind = .broadcast →
        (u.port p).queue = [head] ∧ (u.port p).exc = (s.port p).exc
        ∧ s.abortDone w t (if b.total = 1 then 1 else 2) u ∧ s.sameElsewhere p u
        ∧ (1 < b.left → u.tsu.completions = s.tsu.completions
          ∧ ∃ c, u.tsu.broadcasts = [c] ∧ c.cancelled = true ∧ c.left = b.left - 1
            ∧ c.sent = b.sent ∧ c.refused = b.refused ∧ c.drained = b.drained)
        ∧ (b.left = 1 → u.tsu.broadcasts = []
          ∧ ∃ c, u.tsu.completions = s.tsu.completions ++ [c] ∧ c.slot = b.slot ∧ c.code = .cancelled
            ∧ c.outcomeA = b.sent.setWidth 32))
      ∧ (∀ e, (s.port p).queue = [e] → e.slot = b.slot → e.kind = .broadcast →
        (s.port p).exc.state = .sending ∨ (s.port p).exc.state = .draining →
        (s.port p).exc.stopping = none →
        ((∃ c, (s.port p).slu.tx = .character c) →
          s.stopsAtCharacterEnd p .cancelled u ∧ s.abortDone w t 2 u ∧ s.sameElsewhere p u
          ∧ u.tsu.broadcasts = [{ b with cancelled := true }])
        ∧ ((∀ c, (s.port p).slu.tx ≠ .character c) → 1 < b.left →
          (u.port p).queue = [] ∧ (u.port p).exc = Exc.idle ∧ s.abortDone w t 2 u
          ∧ s.sameElsewhere p u ∧ u.tsu.completions = s.tsu.completions
          ∧ ∃ c, u.tsu.broadcasts = [c] ∧ c.cancelled = true ∧ c.left = b.left - 1
            ∧ c.refused = b.refused ∧ c.drained = b.drained
            ∧ c.sent = (if e.fields.textLength ≤ (s.port p).exc.bytesSent then
                b.sent ||| 1#24 <<< p.val else b.sent))))

/-! ### Invariants of every step -/

/-- R25, R69, R89, R91, R137, R169, R170: from every state within the bounds a step leads to a state within them. The
bounds of a line queue, a FIFO, a period, the error counters, the pending gap, the write queue and the read table. -/
def Obligations.EveryStepKeepsTheBounds : Prop :=
  ∀ s t : State, s.Safe → step s = .next t → t.Safe

/-- R60, R61: a guard flag that is set stays set through every command but a hard reset. -/
def Obligations.GuardFlagsLastUntilAHardReset : Prop :=
  ∀ (c : Instr) (s t : State) (p : PortId) (i : Nat), c ≠ .hardReset → exec c s = .next t →
    (s.port p).guard.getLsbD i = true → (t.port p).guard.getLsbD i = true

/-- R146: through every command but the two resets, a port whose published fields differ after it from before has its
changed flag set. -/
def Obligations.PublishedChangesSetTheChangedFlag : Prop :=
  ∀ (c : Instr) (s t : State) (p : PortId), c ≠ .hardReset → c ≠ .softReset →
    (∀ (n : Nat) (v : Word), v.getLsbD 3 = true → c ≠ .registerWrite .control n v) → exec c s = .next t →
    (t.port p).published ≠ (s.port p).published → (t.port p).status.changed = true
end

