-- ==== Sys2Proof/Laws/State.lean ====
section
/-! SUPPORT. What each update of the state leaves unchanged: one lemma for each field and each update, so that no
later proof unfolds a record update; and what a port reads after an update of the ports. -/

namespace Sys2Proof.Machine

/-! ### Reading a port after an update -/

@[simp] theorem State.port_setPort_same (s : State) (p : PortId) (v : Port) :
    (s.setPort p v).port p = v := by
  simp [State.port, State.setPort]

theorem State.port_setPort_ne (s : State) {p q : PortId} (v : Port) (h : q ≠ p) :
    (s.setPort p v).port q = s.port q := by
  have h' : p.val ≠ q.val := fun e => h (Fin.ext e.symm)
  simp [State.port, State.setPort, h']

@[simp] theorem State.port_modPort_same (s : State) (p : PortId) (f : Port → Port) :
    (s.modPort p f).port p = (s.port p).noting (f (s.port p)) := by
  simp [State.modPort]

theorem State.port_modPort_ne (s : State) {p q : PortId} (f : Port → Port) (h : q ≠ p) :
    (s.modPort p f).port q = s.port q := by
  simp [State.modPort, State.port_setPort_ne, h]

@[simp] theorem State.port_modPorts (s : State) (f : PortId → Port → Port) (p : PortId) :
    (s.modPorts f).port p = (s.port p).noting (f p (s.port p)) := by
  simp [State.port, State.modPorts]

/-! ### A port after its change is noted: only the status writer's flag can differ -/

@[simp] theorem Port.noting_queue (old new : Port) : (old.noting new).queue = new.queue := by
  unfold Port.noting; split <;> rfl

@[simp] theorem Port.noting_exc (old new : Port) : (old.noting new).exc = new.exc := by
  unfold Port.noting; split <;> rfl

@[simp] theorem Port.noting_hold (old new : Port) : (old.noting new).hold = new.hold := by
  unfold Port.noting; split <;> rfl

@[simp] theorem Port.noting_guard (old new : Port) : (old.noting new).guard = new.guard := by
  unfold Port.noting; split <;> rfl

@[simp] theorem Port.noting_slu (old new : Port) : (old.noting new).slu = new.slu := by
  unfold Port.noting; split <;> rfl

@[simp] theorem Port.noting_rf (old new : Port) : (old.noting new).rf = new.rf := by
  unfold Port.noting; split <;> rfl

@[simp] theorem Port.noting_pm (old new : Port) : (old.noting new).pm = new.pm := by
  unfold Port.noting; split <;> rfl

@[simp] theorem Port.noting_ca (old new : Port) : (old.noting new).ca = new.ca := by
  unfold Port.noting; split <;> rfl

@[simp] theorem Port.noting_freeze (old new : Port) : (old.noting new).freeze = new.freeze := by
  unfold Port.noting; split <;> rfl

@[simp] theorem Port.noting_sense (old new : Port) : (old.noting new).sense = new.sense := by
  unfold Port.noting; split <;> rfl

@[simp] theorem Port.noting_status_lastWrite (old new : Port) :
    (old.noting new).status.lastWrite = new.status.lastWrite := by
  unfold Port.noting; split <;> rfl

@[simp] theorem Port.noting_status_request (old new : Port) :
    (old.noting new).status.request = new.status.request := by
  unfold Port.noting; split <;> rfl

@[simp] theorem Port.noting_status_finalIssued (old new : Port) :
    (old.noting new).status.finalIssued = new.status.finalIssued := by
  unfold Port.noting; split <;> rfl

@[simp] theorem Port.noting_status_noticeCount (old new : Port) :
    (old.noting new).status.noticeCount = new.status.noticeCount := by
  unfold Port.noting; split <;> rfl

@[simp] theorem Port.noting_status_lastNotice (old new : Port) :
    (old.noting new).status.lastNotice = new.status.lastNotice := by
  unfold Port.noting; split <;> rfl

@[simp] theorem Port.noting_published (old new : Port) : (old.noting new).published = new.published := by
  unfold Port.noting; split <;> rfl

/-- A change of a published field sets the changed flag (R146). -/
theorem Port.noting_changed {old new : Port} (h : new.published ≠ old.published) :
    (old.noting new).status.changed = true := by
  simp [Port.noting, h]

/-- A change of no published field leaves the port as it is given. -/
theorem Port.noting_same {old new : Port} (h : new.published = old.published) : old.noting new = new := by
  simp [Port.noting, h]

/-! ### Port updates -/

@[simp] theorem State.setPort_pending (s : State) (p : PortId) (v : Port) :
    (s.setPort p v).pending = s.pending := rfl

@[simp] theorem State.setPort_time (s : State) (p : PortId) (v : Port) :
    (s.setPort p v).time = s.time := rfl

@[simp] theorem State.setPort_bus (s : State) (p : PortId) (v : Port) :
    (s.setPort p v).bus = s.bus := rfl

@[simp] theorem State.setPort_attention (s : State) (p : PortId) (v : Port) :
    (s.setPort p v).attention = s.attention := rfl

@[simp] theorem State.setPort_attnEnable (s : State) (p : PortId) (v : Port) :
    (s.setPort p v).attnEnable = s.attnEnable := rfl

@[simp] theorem State.setPort_hme (s : State) (p : PortId) (v : Port) :
    (s.setPort p v).hme = s.hme := rfl

@[simp] theorem State.setPort_tsu (s : State) (p : PortId) (v : Port) :
    (s.setPort p v).tsu = s.tsu := rfl

@[simp] theorem State.setPort_patterns (s : State) (p : PortId) (v : Port) :
    (s.setPort p v).patterns = s.patterns := rfl

@[simp] theorem State.setPort_scanner (s : State) (p : PortId) (v : Port) :
    (s.setPort p v).scanner = s.scanner := rfl

@[simp] theorem State.setPort_freeCount (s : State) (p : PortId) (v : Port) :
    (s.setPort p v).freeCount = s.freeCount := rfl

@[simp] theorem State.modPort_pending (s : State) (p : PortId) (f : Port → Port) :
    (s.modPort p f).pending = s.pending := rfl

@[simp] theorem State.modPort_time (s : State) (p : PortId) (f : Port → Port) :
    (s.modPort p f).time = s.time := rfl

@[simp] theorem State.modPort_bus (s : State) (p : PortId) (f : Port → Port) :
    (s.modPort p f).bus = s.bus := rfl

@[simp] theorem State.modPort_attention (s : State) (p : PortId) (f : Port → Port) :
    (s.modPort p f).attention = s.attention := rfl

@[simp] theorem State.modPort_attnEnable (s : State) (p : PortId) (f : Port → Port) :
    (s.modPort p f).attnEnable = s.attnEnable := rfl

@[simp] theorem State.modPort_hme (s : State) (p : PortId) (f : Port → Port) :
    (s.modPort p f).hme = s.hme := rfl

@[simp] theorem State.modPort_tsu (s : State) (p : PortId) (f : Port → Port) :
    (s.modPort p f).tsu = s.tsu := rfl

@[simp] theorem State.modPort_patterns (s : State) (p : PortId) (f : Port → Port) :
    (s.modPort p f).patterns = s.patterns := rfl

@[simp] theorem State.modPort_scanner (s : State) (p : PortId) (f : Port → Port) :
    (s.modPort p f).scanner = s.scanner := rfl

@[simp] theorem State.modPort_freeCount (s : State) (p : PortId) (f : Port → Port) :
    (s.modPort p f).freeCount = s.freeCount := rfl

@[simp] theorem State.modPorts_pending (s : State) (f : PortId → Port → Port) :
    (s.modPorts f).pending = s.pending := by unfold State.modPorts; rfl

@[simp] theorem State.modPorts_time (s : State) (f : PortId → Port → Port) :
    (s.modPorts f).time = s.time := by unfold State.modPorts; rfl

@[simp] theorem State.modPorts_bus (s : State) (f : PortId → Port → Port) :
    (s.modPorts f).bus = s.bus := by unfold State.modPorts; rfl

@[simp] theorem State.modPorts_attention (s : State) (f : PortId → Port → Port) :
    (s.modPorts f).attention = s.attention := by unfold State.modPorts; rfl

@[simp] theorem State.modPorts_attnEnable (s : State) (f : PortId → Port → Port) :
    (s.modPorts f).attnEnable = s.attnEnable := by unfold State.modPorts; rfl

@[simp] theorem State.modPorts_hme (s : State) (f : PortId → Port → Port) :
    (s.modPorts f).hme = s.hme := by unfold State.modPorts; rfl

@[simp] theorem State.modPorts_tsu (s : State) (f : PortId → Port → Port) :
    (s.modPorts f).tsu = s.tsu := by unfold State.modPorts; rfl

@[simp] theorem State.modPorts_patterns (s : State) (f : PortId → Port → Port) :
    (s.modPorts f).patterns = s.patterns := by unfold State.modPorts; rfl

@[simp] theorem State.modPorts_scanner (s : State) (f : PortId → Port → Port) :
    (s.modPorts f).scanner = s.scanner := by unfold State.modPorts; rfl

@[simp] theorem State.modPorts_freeCount (s : State) (f : PortId → Port → Port) :
    (s.modPorts f).freeCount = s.freeCount := by unfold State.modPorts; rfl

/-! ### Time -/

@[simp] theorem State.reachTick_pending (s : State) (tick : Nat) :
    (s.reachTick tick).pending = s.pending := rfl

@[simp] theorem State.reachTick_bus (s : State) (tick : Nat) :
    (s.reachTick tick).bus = s.bus := rfl

@[simp] theorem State.reachTick_attention (s : State) (tick : Nat) :
    (s.reachTick tick).attention = s.attention := rfl

@[simp] theorem State.reachTick_attnEnable (s : State) (tick : Nat) :
    (s.reachTick tick).attnEnable = s.attnEnable := rfl

@[simp] theorem State.reachTick_hme (s : State) (tick : Nat) :
    (s.reachTick tick).hme = s.hme := rfl

@[simp] theorem State.reachTick_tsu (s : State) (tick : Nat) :
    (s.reachTick tick).tsu = s.tsu := rfl

@[simp] theorem State.reachTick_patterns (s : State) (tick : Nat) :
    (s.reachTick tick).patterns = s.patterns := rfl

@[simp] theorem State.reachTick_scanner (s : State) (tick : Nat) :
    (s.reachTick tick).scanner = s.scanner := rfl

@[simp] theorem State.reachTick_ports (s : State) (tick : Nat) :
    (s.reachTick tick).ports = s.ports := rfl

@[simp] theorem State.reachTick_freeCount (s : State) (tick : Nat) :
    (s.reachTick tick).freeCount = s.freeCount := rfl

@[simp] theorem State.reachPhase_pending (s : State) (phase : Nat) :
    (s.reachPhase phase).pending = s.pending := rfl

@[simp] theorem State.reachPhase_bus (s : State) (phase : Nat) :
    (s.reachPhase phase).bus = s.bus := rfl

@[simp] theorem State.reachPhase_attention (s : State) (phase : Nat) :
    (s.reachPhase phase).attention = s.attention := rfl

@[simp] theorem State.reachPhase_attnEnable (s : State) (phase : Nat) :
    (s.reachPhase phase).attnEnable = s.attnEnable := rfl

@[simp] theorem State.reachPhase_hme (s : State) (phase : Nat) :
    (s.reachPhase phase).hme = s.hme := rfl

@[simp] theorem State.reachPhase_tsu (s : State) (phase : Nat) :
    (s.reachPhase phase).tsu = s.tsu := rfl

@[simp] theorem State.reachPhase_patterns (s : State) (phase : Nat) :
    (s.reachPhase phase).patterns = s.patterns := rfl

@[simp] theorem State.reachPhase_scanner (s : State) (phase : Nat) :
    (s.reachPhase phase).scanner = s.scanner := rfl

@[simp] theorem State.reachPhase_ports (s : State) (phase : Nat) :
    (s.reachPhase phase).ports = s.ports := rfl

@[simp] theorem State.reachPhase_freeCount (s : State) (phase : Nat) :
    (s.reachPhase phase).freeCount = s.freeCount := rfl

@[simp] theorem State.increment_pending (s : State) :
    (s.increment).pending = s.pending := rfl

@[simp] theorem State.increment_bus (s : State) :
    (s.increment).bus = s.bus := rfl

@[simp] theorem State.increment_attention (s : State) :
    (s.increment).attention = s.attention := rfl

@[simp] theorem State.increment_attnEnable (s : State) :
    (s.increment).attnEnable = s.attnEnable := rfl

@[simp] theorem State.increment_hme (s : State) :
    (s.increment).hme = s.hme := rfl

@[simp] theorem State.increment_tsu (s : State) :
    (s.increment).tsu = s.tsu := rfl

@[simp] theorem State.increment_patterns (s : State) :
    (s.increment).patterns = s.patterns := rfl

@[simp] theorem State.increment_scanner (s : State) :
    (s.increment).scanner = s.scanner := rfl

@[simp] theorem State.increment_ports (s : State) :
    (s.increment).ports = s.ports := rfl

@[simp] theorem State.increment_freeCount (s : State) :
    (s.increment).freeCount = s.freeCount := rfl

@[simp] theorem State.reachTick_increments (s : State) (tick : Nat) :
    (s.reachTick tick).time.increments = s.time.increments := rfl

@[simp] theorem State.reachTick_ticks (s : State) (tick : Nat) :
    (s.reachTick tick).time.ticks = max s.time.ticks tick := rfl

@[simp] theorem State.reachTick_partTime (s : State) (tick : Nat) :
    (s.reachTick tick).partTime = s.partTime := rfl

@[simp] theorem State.reachPhase_increments (s : State) (phase : Nat) :
    (s.reachPhase phase).time.increments = s.time.increments := rfl

@[simp] theorem State.reachPhase_partTime (s : State) (phase : Nat) :
    (s.reachPhase phase).partTime = s.partTime := rfl

@[simp] theorem State.reachTick_port (s : State) (tick : Nat) (p : PortId) :
    (s.reachTick tick).port p = s.port p := rfl

@[simp] theorem State.reachPhase_port (s : State) (phase : Nat) (p : PortId) :
    (s.reachPhase phase).port p = s.port p := rfl

@[simp] theorem State.increment_port (s : State) (p : PortId) : s.increment.port p = s.port p := rfl

/-! ### Messages, causes and notices -/

@[simp] theorem State.sendMessage_pending (s : State) :
    (s.sendMessage).pending = s.pending := by unfold State.sendMessage; split <;> rfl

@[simp] theorem State.sendMessage_time (s : State) :
    (s.sendMessage).time = s.time := by unfold State.sendMessage; split <;> rfl

@[simp] theorem State.sendMessage_bus (s : State) :
    (s.sendMessage).bus = s.bus := by unfold State.sendMessage; split <;> rfl

@[simp] theorem State.sendMessage_attention (s : State) :
    (s.sendMessage).attention = s.attention := by unfold State.sendMessage; split <;> rfl

@[simp] theorem State.sendMessage_attnEnable (s : State) :
    (s.sendMessage).attnEnable = s.attnEnable := by unfold State.sendMessage; split <;> rfl

@[simp] theorem State.sendMessage_tsu (s : State) :
    (s.sendMessage).tsu = s.tsu := by unfold State.sendMessage; split <;> rfl

@[simp] theorem State.sendMessage_patterns (s : State) :
    (s.sendMessage).patterns = s.patterns := by unfold State.sendMessage; split <;> rfl

@[simp] theorem State.sendMessage_scanner (s : State) :
    (s.sendMessage).scanner = s.scanner := by unfold State.sendMessage; split <;> rfl

@[simp] theorem State.sendMessage_ports (s : State) :
    (s.sendMessage).ports = s.ports := by unfold State.sendMessage; split <;> rfl

@[simp] theorem State.sendMessage_freeCount (s : State) :
    (s.sendMessage).freeCount = s.freeCount := by unfold State.sendMessage; split <;> rfl

@[simp] theorem State.raiseBits_pending (s : State) (bits : BitVec 10) :
    (s.raiseBits bits).pending = s.pending := by
  unfold State.raiseBits; dsimp only; split <;> simp

@[simp] theorem State.raiseBits_time (s : State) (bits : BitVec 10) :
    (s.raiseBits bits).time = s.time := by
  unfold State.raiseBits; dsimp only; split <;> simp

@[simp] theorem State.raiseBits_bus (s : State) (bits : BitVec 10) :
    (s.raiseBits bits).bus = s.bus := by
  unfold State.raiseBits; dsimp only; split <;> simp

@[simp] theorem State.raiseBits_attnEnable (s : State) (bits : BitVec 10) :
    (s.raiseBits bits).attnEnable = s.attnEnable := by
  unfold State.raiseBits; dsimp only; split <;> simp

@[simp] theorem State.raiseBits_tsu (s : State) (bits : BitVec 10) :
    (s.raiseBits bits).tsu = s.tsu := by
  unfold State.raiseBits; dsimp only; split <;> simp

@[simp] theorem State.raiseBits_patterns (s : State) (bits : BitVec 10) :
    (s.raiseBits bits).patterns = s.patterns := by
  unfold State.raiseBits; dsimp only; split <;> simp

@[simp] theorem State.raiseBits_scanner (s : State) (bits : BitVec 10) :
    (s.raiseBits bits).scanner = s.scanner := by
  unfold State.raiseBits; dsimp only; split <;> simp

@[simp] theorem State.raiseBits_ports (s : State) (bits : BitVec 10) :
    (s.raiseBits bits).ports = s.ports := by
  unfold State.raiseBits; dsimp only; split <;> simp

@[simp] theorem State.raiseBits_freeCount (s : State) (bits : BitVec 10) :
    (s.raiseBits bits).freeCount = s.freeCount := by
  unfold State.raiseBits; dsimp only; split <;> simp

/-- Causes raised become pending (R174). -/
@[simp] theorem State.raiseBits_attention (s : State) (bits : BitVec 10) :
    (s.raiseBits bits).attention = s.attention ||| bits := by
  unfold State.raiseBits; dsimp only; split <;> simp

@[simp] theorem State.raise_attention (s : State) (c : Cause) :
    (s.raise c).attention = s.attention ||| c.bit := by
  simp [State.raise]

@[simp] theorem State.sendMessage_port (s : State) (p : PortId) : s.sendMessage.port p = s.port p := by
  simp [State.port]

@[simp] theorem State.raiseBits_port (s : State) (bits : BitVec 10) (p : PortId) :
    (s.raiseBits bits).port p = s.port p := by
  simp [State.port]

@[simp] theorem State.raise_port (s : State) (c : Cause) (p : PortId) : (s.raise c).port p = s.port p := by
  simp [State.raise]

@[simp] theorem State.raise_pending (s : State) (c : Cause) :
    (s.raise c).pending = s.pending := by simp [State.raise]

@[simp] theorem State.raise_time (s : State) (c : Cause) :
    (s.raise c).time = s.time := by simp [State.raise]

@[simp] theorem State.raise_bus (s : State) (c : Cause) :
    (s.raise c).bus = s.bus := by simp [State.raise]

@[simp] theorem State.raise_attnEnable (s : State) (c : Cause) :
    (s.raise c).attnEnable = s.attnEnable := by simp [State.raise]

@[simp] theorem State.raise_tsu (s : State) (c : Cause) :
    (s.raise c).tsu = s.tsu := by simp [State.raise]

@[simp] theorem State.raise_patterns (s : State) (c : Cause) :
    (s.raise c).patterns = s.patterns := by simp [State.raise]

@[simp] theorem State.raise_scanner (s : State) (c : Cause) :
    (s.raise c).scanner = s.scanner := by simp [State.raise]

@[simp] theorem State.raise_ports (s : State) (c : Cause) :
    (s.raise c).ports = s.ports := by simp [State.raise]

@[simp] theorem State.raise_freeCount (s : State) (c : Cause) :
    (s.raise c).freeCount = s.freeCount := by simp [State.raise]

@[simp] theorem State.notice_pending (s : State) (p : PortId) (kind : NoticeKind) :
    (s.notice p kind).pending = s.pending := by
  unfold State.notice; dsimp only; split <;> simp

@[simp] theorem State.notice_time (s : State) (p : PortId) (kind : NoticeKind) :
    (s.notice p kind).time = s.time := by
  unfold State.notice; dsimp only; split <;> simp

@[simp] theorem State.notice_bus (s : State) (p : PortId) (kind : NoticeKind) :
    (s.notice p kind).bus = s.bus := by
  unfold State.notice; dsimp only; split <;> simp

@[simp] theorem State.notice_attnEnable (s : State) (p : PortId) (kind : NoticeKind) :
    (s.notice p kind).attnEnable = s.attnEnable := by
  unfold State.notice; dsimp only; split <;> simp

@[simp] theorem State.notice_tsu (s : State) (p : PortId) (kind : NoticeKind) :
    (s.notice p kind).tsu = s.tsu := by
  unfold State.notice; dsimp only; split <;> simp

@[simp] theorem State.notice_patterns (s : State) (p : PortId) (kind : NoticeKind) :
    (s.notice p kind).patterns = s.patterns := by
  unfold State.notice; dsimp only; split <;> simp

@[simp] theorem State.notice_scanner (s : State) (p : PortId) (kind : NoticeKind) :
    (s.notice p kind).scanner = s.scanner := by
  unfold State.notice; dsimp only; split <;> simp

@[simp] theorem State.notice_freeCount (s : State) (p : PortId) (kind : NoticeKind) :
    (s.notice p kind).freeCount = s.freeCount := by
  unfold State.notice; dsimp only; split <;> simp

/-! ### Requests and completions -/

@[simp] theorem State.grantWrite_pending (s : State) (a : Addr) (bytes : List Byte) (task : Bool) :
    (s.grantWrite a bytes task).pending = s.pending := rfl

@[simp] theorem State.grantWrite_time (s : State) (a : Addr) (bytes : List Byte) (task : Bool) :
    (s.grantWrite a bytes task).time = s.time := rfl

@[simp] theorem State.grantWrite_bus (s : State) (a : Addr) (bytes : List Byte) (task : Bool) :
    (s.grantWrite a bytes task).bus = s.bus := rfl

@[simp] theorem State.grantWrite_attention (s : State) (a : Addr) (bytes : List Byte) (task : Bool) :
    (s.grantWrite a bytes task).attention = s.attention := rfl

@[simp] theorem State.grantWrite_attnEnable (s : State) (a : Addr) (bytes : List Byte) (task : Bool) :
    (s.grantWrite a bytes task).attnEnable = s.attnEnable := rfl

@[simp] theorem State.grantWrite_tsu (s : State) (a : Addr) (bytes : List Byte) (task : Bool) :
    (s.grantWrite a bytes task).tsu = s.tsu := rfl

@[simp] theorem State.grantWrite_patterns (s : State) (a : Addr) (bytes : List Byte) (task : Bool) :
    (s.grantWrite a bytes task).patterns = s.patterns := rfl

@[simp] theorem State.grantWrite_scanner (s : State) (a : Addr) (bytes : List Byte) (task : Bool) :
    (s.grantWrite a bytes task).scanner = s.scanner := rfl

@[simp] theorem State.grantWrite_ports (s : State) (a : Addr) (bytes : List Byte) (task : Bool) :
    (s.grantWrite a bytes task).ports = s.ports := rfl

@[simp] theorem State.grantWrite_freeCount (s : State) (a : Addr) (bytes : List Byte) (task : Bool) :
    (s.grantWrite a bytes task).freeCount = s.freeCount := rfl

@[simp] theorem State.grantRead_pending (s : State) (r : Requester) (a : Addr) (n : Nat) :
    (s.grantRead r a n).pending = s.pending := rfl

@[simp] theorem State.grantRead_time (s : State) (r : Requester) (a : Addr) (n : Nat) :
    (s.grantRead r a n).time = s.time := rfl

@[simp] theorem State.grantRead_bus (s : State) (r : Requester) (a : Addr) (n : Nat) :
    (s.grantRead r a n).bus = s.bus := rfl

@[simp] theorem State.grantRead_attention (s : State) (r : Requester) (a : Addr) (n : Nat) :
    (s.grantRead r a n).attention = s.attention := rfl

@[simp] theorem State.grantRead_attnEnable (s : State) (r : Requester) (a : Addr) (n : Nat) :
    (s.grantRead r a n).attnEnable = s.attnEnable := rfl

@[simp] theorem State.grantRead_tsu (s : State) (r : Requester) (a : Addr) (n : Nat) :
    (s.grantRead r a n).tsu = s.tsu := rfl

@[simp] theorem State.grantRead_patterns (s : State) (r : Requester) (a : Addr) (n : Nat) :
    (s.grantRead r a n).patterns = s.patterns := rfl

@[simp] theorem State.grantRead_scanner (s : State) (r : Requester) (a : Addr) (n : Nat) :
    (s.grantRead r a n).scanner = s.scanner := rfl

@[simp] theorem State.grantRead_ports (s : State) (r : Requester) (a : Addr) (n : Nat) :
    (s.grantRead r a n).ports = s.ports := rfl

@[simp] theorem State.grantRead_freeCount (s : State) (r : Requester) (a : Addr) (n : Nat) :
    (s.grantRead r a n).freeCount = s.freeCount := rfl

@[simp] theorem State.discardRead_pending (s : State) (read : Option Nat) :
    (s.discardRead read).pending = s.pending := by cases read <;> rfl

@[simp] theorem State.discardRead_time (s : State) (read : Option Nat) :
    (s.discardRead read).time = s.time := by cases read <;> rfl

@[simp] theorem State.discardRead_bus (s : State) (read : Option Nat) :
    (s.discardRead read).bus = s.bus := by cases read <;> rfl

@[simp] theorem State.discardRead_attention (s : State) (read : Option Nat) :
    (s.discardRead read).attention = s.attention := by cases read <;> rfl

@[simp] theorem State.discardRead_attnEnable (s : State) (read : Option Nat) :
    (s.discardRead read).attnEnable = s.attnEnable := by cases read <;> rfl

@[simp] theorem State.discardRead_tsu (s : State) (read : Option Nat) :
    (s.discardRead read).tsu = s.tsu := by cases read <;> rfl

@[simp] theorem State.discardRead_patterns (s : State) (read : Option Nat) :
    (s.discardRead read).patterns = s.patterns := by cases read <;> rfl

@[simp] theorem State.discardRead_scanner (s : State) (read : Option Nat) :
    (s.discardRead read).scanner = s.scanner := by cases read <;> rfl

@[simp] theorem State.discardRead_ports (s : State) (read : Option Nat) :
    (s.discardRead read).ports = s.ports := by cases read <;> rfl

@[simp] theorem State.discardRead_freeCount (s : State) (read : Option Nat) :
    (s.discardRead read).freeCount = s.freeCount := by cases read <;> rfl

@[simp] theorem State.withReads_pending (s : State) (reads : List ReadEntry) :
    (s.withReads reads).pending = s.pending := rfl

@[simp] theorem State.withReads_time (s : State) (reads : List ReadEntry) :
    (s.withReads reads).time = s.time := rfl

@[simp] theorem State.withReads_bus (s : State) (reads : List ReadEntry) :
    (s.withReads reads).bus = s.bus := rfl

@[simp] theorem State.withReads_attention (s : State) (reads : List ReadEntry) :
    (s.withReads reads).attention = s.attention := rfl

@[simp] theorem State.withReads_attnEnable (s : State) (reads : List ReadEntry) :
    (s.withReads reads).attnEnable = s.attnEnable := rfl

@[simp] theorem State.withReads_tsu (s : State) (reads : List ReadEntry) :
    (s.withReads reads).tsu = s.tsu := rfl

@[simp] theorem State.withReads_patterns (s : State) (reads : List ReadEntry) :
    (s.withReads reads).patterns = s.patterns := rfl

@[simp] theorem State.withReads_scanner (s : State) (reads : List ReadEntry) :
    (s.withReads reads).scanner = s.scanner := rfl

@[simp] theorem State.withReads_ports (s : State) (reads : List ReadEntry) :
    (s.withReads reads).ports = s.ports := rfl

@[simp] theorem State.withReads_freeCount (s : State) (reads : List ReadEntry) :
    (s.withReads reads).freeCount = s.freeCount := rfl

@[simp] theorem State.handCompletion_pending (s : State) (c : Completion) :
    (s.handCompletion c).pending = s.pending := rfl

@[simp] theorem State.handCompletion_time (s : State) (c : Completion) :
    (s.handCompletion c).time = s.time := rfl

@[simp] theorem State.handCompletion_bus (s : State) (c : Completion) :
    (s.handCompletion c).bus = s.bus := rfl

@[simp] theorem State.handCompletion_attention (s : State) (c : Completion) :
    (s.handCompletion c).attention = s.attention := rfl

@[simp] theorem State.handCompletion_attnEnable (s : State) (c : Completion) :
    (s.handCompletion c).attnEnable = s.attnEnable := rfl

@[simp] theorem State.handCompletion_hme (s : State) (c : Completion) :
    (s.handCompletion c).hme = s.hme := rfl

@[simp] theorem State.handCompletion_patterns (s : State) (c : Completion) :
    (s.handCompletion c).patterns = s.patterns := rfl

@[simp] theorem State.handCompletion_scanner (s : State) (c : Completion) :
    (s.handCompletion c).scanner = s.scanner := rfl

@[simp] theorem State.handCompletion_ports (s : State) (c : Completion) :
    (s.handCompletion c).ports = s.ports := rfl

@[simp] theorem State.handCompletion_freeCount (s : State) (c : Completion) :
    (s.handCompletion c).freeCount = s.freeCount := rfl

@[simp] theorem State.drawn_pending (s : State) :
    (s.drawn).pending = s.pending := rfl

@[simp] theorem State.drawn_time (s : State) :
    (s.drawn).time = s.time := rfl

@[simp] theorem State.drawn_bus (s : State) :
    (s.drawn).bus = s.bus := rfl

@[simp] theorem State.drawn_attention (s : State) :
    (s.drawn).attention = s.attention := rfl

@[simp] theorem State.drawn_attnEnable (s : State) :
    (s.drawn).attnEnable = s.attnEnable := rfl

@[simp] theorem State.drawn_hme (s : State) :
    (s.drawn).hme = s.hme := rfl

@[simp] theorem State.drawn_tsu (s : State) :
    (s.drawn).tsu = s.tsu := rfl

@[simp] theorem State.drawn_patterns (s : State) :
    (s.drawn).patterns = s.patterns := rfl

@[simp] theorem State.drawn_scanner (s : State) :
    (s.drawn).scanner = s.scanner := rfl

@[simp] theorem State.drawn_ports (s : State) :
    (s.drawn).ports = s.ports := rfl

@[simp] theorem State.push_time (s : State) (c : Instr) :
    (s.push c).time = s.time := rfl

@[simp] theorem State.push_bus (s : State) (c : Instr) :
    (s.push c).bus = s.bus := rfl

@[simp] theorem State.push_attention (s : State) (c : Instr) :
    (s.push c).attention = s.attention := rfl

@[simp] theorem State.push_attnEnable (s : State) (c : Instr) :
    (s.push c).attnEnable = s.attnEnable := rfl

@[simp] theorem State.push_hme (s : State) (c : Instr) :
    (s.push c).hme = s.hme := rfl

@[simp] theorem State.push_tsu (s : State) (c : Instr) :
    (s.push c).tsu = s.tsu := rfl

@[simp] theorem State.push_patterns (s : State) (c : Instr) :
    (s.push c).patterns = s.patterns := rfl

@[simp] theorem State.push_scanner (s : State) (c : Instr) :
    (s.push c).scanner = s.scanner := rfl

@[simp] theorem State.push_ports (s : State) (c : Instr) :
    (s.push c).ports = s.ports := rfl

@[simp] theorem State.push_freeCount (s : State) (c : Instr) :
    (s.push c).freeCount = s.freeCount := rfl

@[simp] theorem State.discardRead_port (s : State) (read : Option Nat) (p : PortId) :
    (s.discardRead read).port p = s.port p := by
  cases read <;> rfl

@[simp] theorem State.handCompletion_port (s : State) (c : Completion) (p : PortId) :
    (s.handCompletion c).port p = s.port p := rfl

@[simp] theorem State.grantWrite_port (s : State) (a : Addr) (bytes : List Byte) (task : Bool)
    (p : PortId) : (s.grantWrite a bytes task).port p = s.port p := rfl

@[simp] theorem State.grantRead_port (s : State) (r : Requester) (a : Addr) (n : Nat) (p : PortId) :
    (s.grantRead r a n).port p = s.port p := rfl

@[simp] theorem State.withReads_port (s : State) (reads : List ReadEntry) (p : PortId) :
    (s.withReads reads).port p = s.port p := rfl

@[simp] theorem State.drawn_port (s : State) (p : PortId) : s.drawn.port p = s.port p := rfl

/-! ### Event items -/

@[simp] theorem State.handItem_pending (s : State) (p : PortId) (a : ItemAction) :
    (s.handItem p a).pending = s.pending := by
  unfold State.handItem; split <;> simp

@[simp] theorem State.handItem_time (s : State) (p : PortId) (a : ItemAction) :
    (s.handItem p a).time = s.time := by
  unfold State.handItem; split <;> simp

@[simp] theorem State.handItem_bus (s : State) (p : PortId) (a : ItemAction) :
    (s.handItem p a).bus = s.bus := by
  unfold State.handItem; split <;> simp

@[simp] theorem State.handItem_attention (s : State) (p : PortId) (a : ItemAction) :
    (s.handItem p a).attention = s.attention := by
  unfold State.handItem; split <;> simp

@[simp] theorem State.handItem_attnEnable (s : State) (p : PortId) (a : ItemAction) :
    (s.handItem p a).attnEnable = s.attnEnable := by
  unfold State.handItem; split <;> simp

@[simp] theorem State.handItem_hme (s : State) (p : PortId) (a : ItemAction) :
    (s.handItem p a).hme = s.hme := by
  unfold State.handItem; split <;> simp

@[simp] theorem State.handItem_tsu (s : State) (p : PortId) (a : ItemAction) :
    (s.handItem p a).tsu = s.tsu := by
  unfold State.handItem; split <;> simp

@[simp] theorem State.handItem_patterns (s : State) (p : PortId) (a : ItemAction) :
    (s.handItem p a).patterns = s.patterns := by
  unfold State.handItem; split <;> simp

@[simp] theorem State.handItem_scanner (s : State) (p : PortId) (a : ItemAction) :
    (s.handItem p a).scanner = s.scanner := by
  unfold State.handItem; split <;> simp

@[simp] theorem State.handItem_freeCount (s : State) (p : PortId) (a : ItemAction) :
    (s.handItem p a).freeCount = s.freeCount := by
  unfold State.handItem; split <;> simp

/-! ### The link -/

@[simp] theorem State.frontLeft_pending (s : State) (item : LinkItem) (rest : List LinkItem) :
    (s.frontLeft item rest).pending = s.pending := rfl

@[simp] theorem State.frontLeft_time (s : State) (item : LinkItem) (rest : List LinkItem) :
    (s.frontLeft item rest).time = s.time := rfl

@[simp] theorem State.frontLeft_bus (s : State) (item : LinkItem) (rest : List LinkItem) :
    (s.frontLeft item rest).bus = s.bus := rfl

@[simp] theorem State.frontLeft_attention (s : State) (item : LinkItem) (rest : List LinkItem) :
    (s.frontLeft item rest).attention = s.attention := rfl

@[simp] theorem State.frontLeft_attnEnable (s : State) (item : LinkItem) (rest : List LinkItem) :
    (s.frontLeft item rest).attnEnable = s.attnEnable := rfl

@[simp] theorem State.frontLeft_tsu (s : State) (item : LinkItem) (rest : List LinkItem) :
    (s.frontLeft item rest).tsu = s.tsu := rfl

@[simp] theorem State.frontLeft_patterns (s : State) (item : LinkItem) (rest : List LinkItem) :
    (s.frontLeft item rest).patterns = s.patterns := rfl

@[simp] theorem State.frontLeft_scanner (s : State) (item : LinkItem) (rest : List LinkItem) :
    (s.frontLeft item rest).scanner = s.scanner := rfl

@[simp] theorem State.frontLeft_ports (s : State) (item : LinkItem) (rest : List LinkItem) :
    (s.frontLeft item rest).ports = s.ports := rfl

@[simp] theorem State.frontLeft_freeCount (s : State) (item : LinkItem) (rest : List LinkItem) :
    (s.frontLeft item rest).freeCount = s.freeCount := rfl

@[simp] theorem State.configure_pending (s : State) (busMaster message : Bool) :
    (s.configure busMaster message).pending = s.pending := rfl

@[simp] theorem State.configure_time (s : State) (busMaster message : Bool) :
    (s.configure busMaster message).time = s.time := rfl

@[simp] theorem State.configure_bus (s : State) (busMaster message : Bool) :
    (s.configure busMaster message).bus = s.bus := rfl

@[simp] theorem State.configure_attention (s : State) (busMaster message : Bool) :
    (s.configure busMaster message).attention = s.attention := rfl

@[simp] theorem State.configure_attnEnable (s : State) (busMaster message : Bool) :
    (s.configure busMaster message).attnEnable = s.attnEnable := rfl

@[simp] theorem State.configure_tsu (s : State) (busMaster message : Bool) :
    (s.configure busMaster message).tsu = s.tsu := rfl

@[simp] theorem State.configure_patterns (s : State) (busMaster message : Bool) :
    (s.configure busMaster message).patterns = s.patterns := rfl

@[simp] theorem State.configure_scanner (s : State) (busMaster message : Bool) :
    (s.configure busMaster message).scanner = s.scanner := rfl

@[simp] theorem State.configure_ports (s : State) (busMaster message : Bool) :
    (s.configure busMaster message).ports = s.ports := rfl

@[simp] theorem State.configure_freeCount (s : State) (busMaster message : Bool) :
    (s.configure busMaster message).freeCount = s.freeCount := rfl

/-! ### Control -/

@[simp] theorem State.enableAt_pending (s : State) (anchor : Addr) (stage : EnableStage) :
    (s.enableAt anchor stage).pending = s.pending := rfl

@[simp] theorem State.enableAt_time (s : State) (anchor : Addr) (stage : EnableStage) :
    (s.enableAt anchor stage).time = s.time := rfl

@[simp] theorem State.enableAt_attention (s : State) (anchor : Addr) (stage : EnableStage) :
    (s.enableAt anchor stage).attention = s.attention := rfl

@[simp] theorem State.enableAt_attnEnable (s : State) (anchor : Addr) (stage : EnableStage) :
    (s.enableAt anchor stage).attnEnable = s.attnEnable := rfl

@[simp] theorem State.enableAt_hme (s : State) (anchor : Addr) (stage : EnableStage) :
    (s.enableAt anchor stage).hme = s.hme := rfl

@[simp] theorem State.enableAt_tsu (s : State) (anchor : Addr) (stage : EnableStage) :
    (s.enableAt anchor stage).tsu = s.tsu := rfl

@[simp] theorem State.enableAt_patterns (s : State) (anchor : Addr) (stage : EnableStage) :
    (s.enableAt anchor stage).patterns = s.patterns := rfl

@[simp] theorem State.enableAt_scanner (s : State) (anchor : Addr) (stage : EnableStage) :
    (s.enableAt anchor stage).scanner = s.scanner := rfl

@[simp] theorem State.enableAt_ports (s : State) (anchor : Addr) (stage : EnableStage) :
    (s.enableAt anchor stage).ports = s.ports := rfl

@[simp] theorem State.enableAt_freeCount (s : State) (anchor : Addr) (stage : EnableStage) :
    (s.enableAt anchor stage).freeCount = s.freeCount := rfl

@[simp] theorem State.failEnable_pending (s : State) (code : AnchorError) :
    (s.failEnable code).pending = s.pending := by simp [State.failEnable]

@[simp] theorem State.failEnable_time (s : State) (code : AnchorError) :
    (s.failEnable code).time = s.time := by simp [State.failEnable]

@[simp] theorem State.failEnable_attnEnable (s : State) (code : AnchorError) :
    (s.failEnable code).attnEnable = s.attnEnable := by simp [State.failEnable]

@[simp] theorem State.failEnable_tsu (s : State) (code : AnchorError) :
    (s.failEnable code).tsu = s.tsu := by simp [State.failEnable]

@[simp] theorem State.failEnable_patterns (s : State) (code : AnchorError) :
    (s.failEnable code).patterns = s.patterns := by simp [State.failEnable]

@[simp] theorem State.failEnable_scanner (s : State) (code : AnchorError) :
    (s.failEnable code).scanner = s.scanner := by simp [State.failEnable]

@[simp] theorem State.failEnable_ports (s : State) (code : AnchorError) :
    (s.failEnable code).ports = s.ports := by simp [State.failEnable]

@[simp] theorem State.failEnable_freeCount (s : State) (code : AnchorError) :
    (s.failEnable code).freeCount = s.freeCount := by simp [State.failEnable]

@[simp] theorem State.softReset_pending (s : State) :
    (s.softReset).pending = s.pending := rfl

@[simp] theorem State.softReset_time (s : State) :
    (s.softReset).time = s.time := rfl

@[simp] theorem State.softReset_attnEnable (s : State) :
    (s.softReset).attnEnable = s.attnEnable := rfl

@[simp] theorem State.softReset_patterns (s : State) :
    (s.softReset).patterns = s.patterns := rfl

@[simp] theorem State.messageIfLive_pending (s : State) :
    (s.messageIfLive).pending = s.pending := by unfold State.messageIfLive; split <;> simp

@[simp] theorem State.messageIfLive_time (s : State) :
    (s.messageIfLive).time = s.time := by unfold State.messageIfLive; split <;> simp

@[simp] theorem State.messageIfLive_bus (s : State) :
    (s.messageIfLive).bus = s.bus := by unfold State.messageIfLive; split <;> simp

@[simp] theorem State.messageIfLive_attention (s : State) :
    (s.messageIfLive).attention = s.attention := by unfold State.messageIfLive; split <;> simp

@[simp] theorem State.messageIfLive_attnEnable (s : State) :
    (s.messageIfLive).attnEnable = s.attnEnable := by unfold State.messageIfLive; split <;> simp

@[simp] theorem State.messageIfLive_tsu (s : State) :
    (s.messageIfLive).tsu = s.tsu := by unfold State.messageIfLive; split <;> simp

@[simp] theorem State.messageIfLive_patterns (s : State) :
    (s.messageIfLive).patterns = s.patterns := by unfold State.messageIfLive; split <;> simp

@[simp] theorem State.messageIfLive_scanner (s : State) :
    (s.messageIfLive).scanner = s.scanner := by unfold State.messageIfLive; split <;> simp

@[simp] theorem State.messageIfLive_ports (s : State) :
    (s.messageIfLive).ports = s.ports := by unfold State.messageIfLive; split <;> simp

@[simp] theorem State.messageIfLive_freeCount (s : State) :
    (s.messageIfLive).freeCount = s.freeCount := by unfold State.messageIfLive; split <;> simp

@[simp] theorem State.writeAttention_pending (s : State) (v : Word) :
    (s.writeAttention v).pending = s.pending := by simp [State.writeAttention]

@[simp] theorem State.writeAttention_time (s : State) (v : Word) :
    (s.writeAttention v).time = s.time := by simp [State.writeAttention]

@[simp] theorem State.writeAttention_bus (s : State) (v : Word) :
    (s.writeAttention v).bus = s.bus := by simp [State.writeAttention]

@[simp] theorem State.writeAttention_attnEnable (s : State) (v : Word) :
    (s.writeAttention v).attnEnable = s.attnEnable := by simp [State.writeAttention]

@[simp] theorem State.writeAttention_tsu (s : State) (v : Word) :
    (s.writeAttention v).tsu = s.tsu := by simp [State.writeAttention]

@[simp] theorem State.writeAttention_patterns (s : State) (v : Word) :
    (s.writeAttention v).patterns = s.patterns := by simp [State.writeAttention]

@[simp] theorem State.writeAttention_scanner (s : State) (v : Word) :
    (s.writeAttention v).scanner = s.scanner := by simp [State.writeAttention]

@[simp] theorem State.writeAttention_ports (s : State) (v : Word) :
    (s.writeAttention v).ports = s.ports := by simp [State.writeAttention]

@[simp] theorem State.writeAttention_freeCount (s : State) (v : Word) :
    (s.writeAttention v).freeCount = s.freeCount := by simp [State.writeAttention]

@[simp] theorem State.writeAttnEnable_pending (s : State) (v : Word) :
    (s.writeAttnEnable v).pending = s.pending := by simp [State.writeAttnEnable]

@[simp] theorem State.writeAttnEnable_time (s : State) (v : Word) :
    (s.writeAttnEnable v).time = s.time := by simp [State.writeAttnEnable]

@[simp] theorem State.writeAttnEnable_bus (s : State) (v : Word) :
    (s.writeAttnEnable v).bus = s.bus := by simp [State.writeAttnEnable]

@[simp] theorem State.writeAttnEnable_attention (s : State) (v : Word) :
    (s.writeAttnEnable v).attention = s.attention := by simp [State.writeAttnEnable]

@[simp] theorem State.writeAttnEnable_tsu (s : State) (v : Word) :
    (s.writeAttnEnable v).tsu = s.tsu := by simp [State.writeAttnEnable]

@[simp] theorem State.writeAttnEnable_patterns (s : State) (v : Word) :
    (s.writeAttnEnable v).patterns = s.patterns := by simp [State.writeAttnEnable]

@[simp] theorem State.writeAttnEnable_scanner (s : State) (v : Word) :
    (s.writeAttnEnable v).scanner = s.scanner := by simp [State.writeAttnEnable]

@[simp] theorem State.writeAttnEnable_ports (s : State) (v : Word) :
    (s.writeAttnEnable v).ports = s.ports := by simp [State.writeAttnEnable]

@[simp] theorem State.writeAttnEnable_freeCount (s : State) (v : Word) :
    (s.writeAttnEnable v).freeCount = s.freeCount := by simp [State.writeAttnEnable]

end Sys2Proof.Machine
end

