-- ==== Sys2Proof/Laws/Operations.lean ====
section
/-! SUPPORT. What each shared operation can do, said once: its outcomes as a case list or an equation, and the
induction that its repetition over ports, steps or heads allows. -/

namespace Sys2Proof.Machine

/-! ### Ports -/

/-- A noted change is the change with the flag set where a published field differs (R146). -/
theorem Port.noting_eq (old new : Port) :
    old.noting new = new
      ∨ old.noting new = { new with status := { new.status with changed := true } } := by
  unfold Port.noting
  split
  · exact .inl rfl
  · exact .inr rfl

/-- What every port's operation keeps, the operation over all ports keeps. -/
theorem State.forPorts_keeps {P : State → Prop} {f : PortId → State → State}
    (keeps : ∀ p s, P s → P (f p s)) {s : State} (h : P s) : P (s.forPorts f) := by
  unfold State.forPorts
  generalize List.finRange 24 = ports
  induction ports generalizing s with
  | nil => exact h
  | cons p rest ih => exact ih (keeps p s h)

/-! ### Messages, causes and notices -/

/-- A message changes nothing but the link (R175). -/
theorem State.sendMessage_cases (s : State) :
    s.sendMessage = s ∨ s.sendMessage = { s with hme := s.sendMessage.hme } := by
  unfold State.sendMessage
  split
  · exact .inr rfl
  · exact .inl rfl

/-- Raised causes become pending, and a message may fall due (R174, R175). -/
theorem State.raiseBits_cases (s : State) (bits : BitVec 10) :
    s.raiseBits bits = { s with attention := s.attention ||| bits }
      ∨ s.raiseBits bits = ({ s with attention := s.attention ||| bits } : State).sendMessage := by
  unfold State.raiseBits
  dsimp only
  split
  · exact .inr rfl
  · exact .inl rfl

/-- Messages that leave take nothing else with them (R175). -/
theorem flushMessages_filter {keep : LinkItem → Bool} (h : keep .message = false)
    (out sent : List LinkItem) : (flushMessages out sent).1.filter keep = out.filter keep := by
  induction out generalizing sent with
  | nil => rfl
  | cons i rest ih =>
    cases i with
    | message => simpa [flushMessages, h] using ih (.message :: sent)
    | write w => rfl
    | read t a n => rfl

@[simp] theorem Hme.queuedWrites_flush (h : Hme) : h.flush.queuedWrites = h.queuedWrites := by
  unfold Hme.flush
  split
  · exact congrArg List.length (flushMessages_filter rfl h.outgoing h.sent)
  · rfl

@[simp] theorem Hme.reads_flush (h : Hme) : h.flush.reads = h.reads := by
  unfold Hme.flush
  split <;> rfl

/-- A notice counts, names its kind, and raises its cause (R176). -/
theorem State.port_notice (s : State) (p : PortId) (kind : NoticeKind) :
    (s.notice p kind).port p = (s.port p).noting { s.port p with status := { (s.port p).status with
      noticeCount := (s.port p).status.noticeCount + 1, lastNotice := kind } } := by
  have h : ∀ (u : State) (c : Cause), (u.raise c).port p = u.port p := by
    intro u c
    unfold State.raise State.raiseBits
    dsimp only
    split
    · unfold State.sendMessage
      split <;> rfl
    · rfl
  unfold State.notice
  cases kind <;> simp [NoticeKind.cause, h]

/-! ### Items and completions -/

/-- An item reaches the CA of a port that listens (R130, R180). -/
theorem State.handItem_listening {s : State} {p : PortId} (h : s.listening p = true) (a : ItemAction) :
    s.handItem p a = s.modPort p fun v =>
      { v with ca := v.ca.placeItem (EventItem.mk v.slu.receiveCount s.partTime a) } := by
  simp [State.handItem, h]

/-- An item for another port is dropped (R130, R180). -/
theorem State.handItem_deaf {s : State} {p : PortId} (h : s.listening p = false) (a : ItemAction) :
    s.handItem p a = s := by
  simp [State.handItem, h]

/-- An ordinary item is placed last, or dropped where sixteen wait (R130). -/
theorem Capture.placeItem_events {ca : Capture} {it : EventItem} (h : it.action.always = false) :
    (ca.placeItem it).events = ca.events ++ [it] ∨ (ca.placeItem it).events = ca.events := by
  simp only [Capture.placeItem, h, Bool.false_eq_true, if_false]
  split
  · exact .inl rfl
  · exact .inr rfl

/-! ### The transmitter -/

/-- A FREE transmitter takes a byte, takes a break, or stays (R74, R82, R84). -/
theorem State.serveTransmitter_cases (s : State) (p : PortId) :
    s.serveTransmitter p = s ∨ s.serveTransmitter p = s.handByte p
      ∨ s.serveTransmitter p = s.startSpace p := by
  simp only [State.serveTransmitter]
  split
  · split
    · split
      · exact .inr (.inl rfl)
      · exact .inl rfl
    · split
      · exact .inr (.inr rfl)
      · exact .inl rfl
    all_goals exact .inl rfl
  · exact .inl rfl

/-! ### Heads -/

/-- What the parts of a head's taking keep, the taking of heads keeps (R27, R28). -/
theorem State.takeHeads_keeps {P : State → Prop} {p : PortId}
    (start : ∀ s e, P s → P (s.startEntry p e)) (finish : ∀ s fin, P s → P (s.finishHead p fin))
    (wait : ∀ s f, P s → P (s.enterRateWait p f)) (work : ∀ s e, P s → P (s.work p e).1) (n : Nat)
    {s : State} (h : P s) : P (s.takeHeads p n) := by
  induction n generalizing s with
  | zero => exact h
  | succ n ih =>
    simp only [State.takeHeads]
    split
    · exact h
    · rename_i e rest _
      split
      · exact h
      · split
        · exact ih (finish _ _ (start _ _ h))
        · split
          · exact wait _ _ (start _ _ h)
          · have w := work _ e (start _ e h)
            split
            · rename_i worked fin eq
              rw [eq] at w
              exact ih (finish _ _ w)
            · rename_i worked eq
              rw [eq] at w
              exact w

/-! ### The agenda -/

/-- What each step of an agenda and the keeping of its rest keep, the agenda keeps (R131, R134). -/
theorem State.runAgenda_keeps {P : State → Prop} {p : PortId}
    (step : ∀ s c, P s → P (s.captureStep p c))
    (rest : ∀ s l, P s → P (s.modPort p fun v => { v with ca := { v.ca with agenda := l } }))
    (steps : List CaptureStep) {s : State} (h : P s) : P (s.runAgenda p steps) := by
  induction steps generalizing s with
  | nil => exact rest _ _ h
  | cons c l ih =>
    simp only [State.runAgenda]
    split
    · exact rest _ _ (step _ _ h)
    · exact ih (step _ _ h)

/-! ### The drain -/

/-- The Bus Port's watch of a drain: nothing, the settle point, the entry to STOPPED, or both (R182). -/
theorem State.watchDrain_cases (s : State) :
    s.watchDrain = s ∨ s.watchDrain = s.handSettle ∨ s.watchDrain = s.enterStopped
      ∨ s.watchDrain = s.handSettle.enterStopped := by
  have settle : s.watchSettle = s ∨ s.watchSettle = s.handSettle := by
    unfold State.watchSettle
    split
    · exact .inr rfl
    · exact .inl rfl
  unfold State.watchDrain
  split
  · split
    · rcases settle with h | h <;> rw [h] <;> simp
    · rcases settle with h | h <;> rw [h] <;> simp
  · exact .inl rfl

/-- Outside DRAINING the watch changes nothing. -/
theorem State.watchDrain_same {s : State} (h : s.bus.control ≠ .draining) : s.watchDrain = s := by
  simp [State.watchDrain, h]

/-! ### Grants -/

/-- A grant that the arbiter chooses comes from one of the five classes (R172). -/
theorem State.chosenGrant_class {s : State} {g : Grant} (h : s.chosenGrant = some g) :
    s.classOne = some g ∨ s.classTwo = some g ∨ s.classThree = some g ∨ s.classFour = some g
      ∨ s.classFive = some g := by
  unfold State.chosenGrant at h
  cases h1 : s.classOne <;> cases h2 : s.classTwo <;> cases h3 : s.classThree <;>
    cases h4 : s.classFour <;> simp_all

/-- The pieces of a write are as many as those of its request (R168). -/
theorem writePieces_length (a : Addr) (bytes : List Byte) (task : Bool) (pieces : List (Addr × Nat)) :
    (writePieces a bytes task pieces).length = pieces.length := by
  induction pieces generalizing bytes with
  | nil => rfl
  | cons x rest ih =>
    obtain ⟨b, n⟩ := x
    simp [writePieces, ih]

/-- A read takes one entry for each of its pieces (R170). -/
theorem readEntries_length (r : Requester) (read tag : Nat) (pieces : List (Addr × Nat)) :
    (readEntries r read tag pieces).length = pieces.length := by
  induction pieces generalizing tag with
  | nil => rfl
  | cons x rest ih =>
    obtain ⟨b, n⟩ := x
    simp [readEntries, ih]

/-! ### Queues -/

/-- An entry placed by its key makes the queue longer by one (R26). -/
theorem placeByKey_length (e : QueueEntry) (q : List QueueEntry) : (placeByKey e q).length = q.length + 1 := by
  induction q with
  | nil => rfl
  | cons x rest ih =>
    simp only [placeByKey]
    split
    · simp [ih]
    · simp

theorem placeEntry_length (started : Bool) (e : QueueEntry) (q : List QueueEntry) :
    (placeEntry started e q).length = q.length + 1 := by
  unfold placeEntry
  split
  · simp [placeByKey_length]
  · exact placeByKey_length e q

/-! ### TX records -/

/-- A port with no TX record open has none to close (R135). -/
theorem State.closeTxRecord_none {s : State} {p : PortId} (h : (s.port p).ca.openTx = none) :
    s.closeTxRecord p = s := by
  unfold State.closeTxRecord
  rw [h]

/-- Where no freeze has taken a record, the end of a sending closes the open one (R135). -/
theorem State.closeTx_untaken {s : State} {p : PortId} (h : (s.port p).ca.txTaken = false) :
    s.closeTx p = s.closeTxRecord p := by
  unfold State.closeTx
  rw [h]
  rfl

end Sys2Proof.Machine
end

