-- ==== Sys2Proof/WellFormed.lean ====
section
/-! DEFINITION. Which commands a sender can send: the checks on operands that their types do not
already make. The meanings do not depend on them. -/

namespace Sys2Proof

/-- A tick phase within one part-time value; 36,864 is the coincidence with the next increment taken
after the event (R66). -/
def phaseOk (phase : Nat) : Bool := phase ≤ Config.ticksPerMs

/-- The command is one that a sender can send: a write carries 1 to 4 bytes (R185), an answer carries
1 to 512 bytes (R168), a phase lies within the part-time value (R64). -/
def Instr.wellFormed : Instr → Bool
  | .registerWrite _ bytes _       => 1 ≤ bytes && bytes ≤ 4
  | .readPieceAnswer _ (some data) => 1 ≤ data.length && data.length ≤ 512
  | .rxByteDelivered _ _ phase     => phaseOk phase
  | .rxBreakEnd _ phase            => phaseOk phase
  | .rfIntervalEnd _ phase         => phaseOk phase
  | .startEdge _ phase             => phaseOk phase
  | .armingLineReturnsToMark _ phase => phaseOk phase
  | .readPieceAnswer _ none => true
  | .enable | .stop | .sweep | .softReset => true
  | .attentionWrite _ | .attnEnableWrite _ | .attnForceWrite _ => true
  | .hardReset | .busMasterConfigChange _ _ | .partTimeIncrement | .sweepTimerExpiry => true
  | .hmeGrant | .writePieceLeaves | .readPieceLeaves | .readPieceTimeout _ => true
  | .tsuTakeCompletion => true
  | .rateWaitLimitExpiry _ | .responseDeadlineExpiry _ | .retryPauseExpiry _ => true
  | .breakTimerExpiry _ | .breakGuardEnd _ => true
  | .txCharacterEnd _ | .txGapEnd _ | .txPauseEnd _ => true
  | .holdIdleTimerExpiry _ | .rxBreakDetected _ | .quietTimerExpiry _ => true
  | .caMeetInput _ | .statusWriteIssue _ => true
  | .senseIntervalExpiry | .senseSampleDone _ | .falseStart _ => true

end Sys2Proof
end

