-- ==== Sys2Proof/Tests/Slice0.lean ====
section
/-! SUPPORT. Tests on fixed values, each from an example or a table of the spec, and for every obligation with
hypotheses a state and operands that meet them. -/

namespace Sys2Proof.Tests

open Sys2Proof Sys2Proof.Machine

/-! ### Small states -/

/-- The part in a control state with four ports in use and sixteen slots, time 0. -/
def part (c : ControlState) : State :=
  { State.reset with
    bus := { BusPort.reset with control := c }
    tsu := { Tsu.reset with
      geometry := { tableAddress := 0x2000, slotCount := 16, portCount := 4, sweepPeriod := 0 } } }

/-- The running part with port 0 as given. -/
def with0 (v : Port) : State := (part .running).setPort 0 v

/-- A port with a receiver in a state. -/
def hearing (rx : Receiver) : Port := { Port.reset with slu := { Slu.reset with rx := rx } }

/-- A port with a transmitter in a state and an exchange in a state. -/
def sending (tx : Transmitter) (x : ExchangeState) (timer : Option Timer) (queue : List QueueEntry) : Port :=
  { Port.reset with
    queue := queue
    exc := { Exc.idle with state := x, timer := timer }
    slu := { Slu.reset with tx := tx } }

/-- A timer that has just reached its increment at time 0. -/
def due : Timer := { armedAt := 0, phase := 0, span := 0 }

/-- A timer one increment short. -/
def late : Timer := { armedAt := 0, phase := 0, span := 1 }

/-- Task fields that are all 0. -/
def blank : TaskFields :=
  { originator := 0, orderKey := 0, flags := 0, textAddress := 0, textLength := 0, patternId := 0,
    retries := 0, responseTime := 0, retryPause := 0, paramA := 0, paramB := 0, paramC := 0,
    paramD := 0 }

/-- A queue entry of a kind from slot 3. -/
def entry (k : TaskKind) : QueueEntry := { slot := 3, kind := k, fields := blank }

/-- A character of 115,200 bits per second at tick 0: last stop sample at 3040, zero limit at 6400. -/
def heard : RxCharacter := { edgeTick := 0, edgeTime := 0, period := 320, format := LineFormat.reset }

/-- The byte 41h on the transmit line from tick 0, ending at tick 3200. -/
def sent : TxCharacter :=
  { byte := 0x41, bits := LineFormat.reset.frame 0x41, startTick := 0, startTime := 0, period := 320,
    pauseFollows := false }

/-! ### Ill-formed commands -/

theorem test_no_bytes_refused : (Instr.registerWrite .control 0 0).wellFormed = false := by decide
theorem test_five_bytes_refused : (Instr.registerWrite .control 5 0).wellFormed = false := by decide
theorem test_four_bytes_accepted : (Instr.registerWrite .control 4 0).wellFormed = true := by decide
theorem test_empty_answer_refused : (Instr.readPieceAnswer 0 (some [])).wellFormed = false := by decide
theorem test_long_answer_refused :
    (Instr.readPieceAnswer 0 (some (List.replicate 513 0))).wellFormed = false := by
  simp only [Instr.wellFormed, List.length_replicate]
  decide
theorem test_byte_phase_refused :
    (Instr.rxByteDelivered 0 zeroSamples 36865).wellFormed = false := by decide
theorem test_break_phase_refused : (Instr.rxBreakEnd 0 36865).wellFormed = false := by decide
theorem test_interval_phase_refused : (Instr.rfIntervalEnd 0 36865).wellFormed = false := by decide
theorem test_edge_phase_refused : (Instr.startEdge 0 36865).wellFormed = false := by decide
theorem test_arming_phase_refused :
    (Instr.armingLineReturnsToMark 0 36865).wellFormed = false := by decide

/-! ### Values that the spec works out -/

/-- R69: 9600 gives 3840, 10,000 gives 3686, 983,040 gives 38. -/
theorem test_periods :
    periodOfRate 9600 = 3840 ∧ periodOfRate 10000 = 3686 ∧ periodOfRate 983040 = 38 := by decide

/-- R68, R69: the ends of the range. -/
theorem test_clamped_periods : periodOfRate 0 = 61440 ∧ periodOfRate 2000000 = 32 := by decide

/-- R98: 3791 snaps to 3840, 2560 does not snap, 65,127 is clamped, and both ends of the window of 40 snap. -/
theorem test_estimates :
    periodOfEstimate 3791 = 3840 ∧ periodOfEstimate 2560 = 2560 ∧ periodOfEstimate 65127 = 61440
      ∧ periodOfEstimate 38 = 40 ∧ periodOfEstimate 42 = 40 ∧ periodOfEstimate 43 = 43 := by decide

/-- R158: codes 0, 1000, 1678, 2048, 2100, 3168 and 4095. -/
theorem test_levels :
    [0, 1000, 1678, 2048, 2100, 3168, 4095].map (fun n => senseLevel (BitVec.ofNat 12 n))
      = [-16384, -8384, -2960, 0, 416, 8960, 16376] := by decide

/-- R159: −2960 is MID, −1984 LOW and −2008 MID with the default thresholds. -/
theorem test_classes :
    [-2960, -1984, -2008, 16376].map Scanner.reset.classify = [.mid, .low, .mid, .high] := by decide

/-- R114: "==>" on the stream "===>" has progress 1, 2, 2 and 3. -/
theorem test_progress :
    let p : List Element := [⟨.exact, 0x3D⟩, ⟨.exact, 0x3D⟩, ⟨.exact, 0x3E⟩]
    [progress p 1 [0x3D], progress p 2 [0x3D, 0x3D], progress p 3 [0x3D, 0x3D, 0x3D],
      progress p 4 [0x3D, 0x3D, 0x3D, 0x3E]] = [1, 2, 2, 3] := by decide

/-- R108: FOLD matches both cases of a letter, and a digit exactly. -/
theorem test_fold :
    ([0x41, 0x61, 0x42].map (⟨.fold, 0x61⟩ : Element).matchesByte = [true, true, false])
      ∧ (⟨.fold, 0x31⟩ : Element).matchesByte 0x51 = false := by decide

/-- R187: the part reads 18124C7Ah as its identity. -/
theorem test_ident : State.reset.readRegister .ident = 0x18124C7A := by decide

/-- R82: 41h in 8N1 is SPACE, 1000 0010 least significant first, MARK. -/
theorem test_frame :
    LineFormat.reset.frame 0x41 = [false, true, false, false, false, false, false, true, false, true] := by
  decide

/-- R168: from 100 bytes short of a multiple of 1024 on, 64 bytes are one piece and 512 bytes are two. -/
theorem test_pieces :
    piecesOf 0x39C 64 = [(0x39C, 64)] ∧ piecesOf 0x39C 512 = [(0x39C, 100), (0x400, 412)] := by decide

/-- R127: 48 bytes from the end of the area a record of 64 bytes stands behind a PAD of 48. -/
theorem test_pad :
    placeRecords 4096 4048 [.record (.tx { slot := 0, time := 0, bytes := List.replicate 48 0 } 0)]
      = [.pad 48, .record (.tx { slot := 0, time := 0, bytes := List.replicate 48 0 } 0)] := by decide

/-- R66 and the worked example of chapter 4: armed with T = 209 at phase 1,536 a timer waits 7,703,040 ticks. -/
theorem test_real_wait : ({ armedAt := 4021, phase := 1536, span := 209 } : Timer).realWait = 7703040 := by
  decide

/-- R76 and the worked example of chapter 4: the default response time at 9600 8N1 is 209 ms. -/
theorem test_default_response : LineSettings.reset.defaultResponse = 209 := by decide

/-- R174: writing ATTENTION with 1 clears TASK and leaves WATCH. -/
theorem test_attention_clears :
    (({ State.reset with attention := 3 } : State).writeAttention 1).attention = 2 := by decide

/-- R175: with nothing before it, a message of a newly live cause leaves at once. -/
theorem test_message_leaves :
    (({ State.reset with
        attnEnable := 1
        hme := { Hme.reset with busMaster := true, message := true } } : State).writeAttnForce 1).hme.sent
      = [.message] := by decide

/-- R4: a request in OFF is held. -/
theorem test_request_held : State.reset.requestSweep.tsu.pendingRequest = true := by decide

/-- R178: an anchor that is not a multiple of 4096 is refused with ALIGN. -/
theorem test_align :
    ({ State.reset with bus := { BusPort.reset with anchorLo := 0x10800 } } : State).enableCommand.bus
      = { BusPort.reset with anchorLo := 0x10800, anchorError := .align } := by decide

/-- R64: one tick before the increment a step makes it. -/
theorem test_idle_increment :
    ({ State.reset with time := { ticks := 36863, increments := 0 } } : State).idleTick.time
      = { ticks := 36864, increments := 1 } := by decide

/-- R85: a byte with its stop bit at MARK enters the FIFO without error, and the receiver hunts. -/
theorem test_byte_received :
    (((with0 (hearing (.sampling heard))).receiveByte 0
        { data := 0x41, parity := false, stop1 := true, stop2 := false } 0).port 0).slu.fifo
      = [{ byte := 0x41, sequence := 0, framing := false, parity := false, time := 0,
           note := { count := 0, lowest := none, trigger := none } }] := by decide

/-- R86, R87: a zero character at its limit is a BREAK, counted and without a byte. -/
theorem test_break_detected :
    (((with0 (hearing (.zeroWait heard))).zeroLimitReached 0).port 0).slu.errors.breaks = 1
      ∧ (((with0 (hearing (.zeroWait heard))).zeroLimitReached 0).port 0).slu.receiveCount = 0 := by
  decide

/-- R82, R32: at the last character's end the only SEND of a port is completed OK. -/
theorem test_send_ends :
    ((with0 (sending (.character sent) .draining none [entry .send])).endCharacter 0).tsu.completions.map
        Completion.code
      = [.ok] := by decide

/-- R56: a hold lapses with a HOLD_LOST notice. -/
theorem test_hold_lapses :
    (((with0 { Port.reset with hold := { owner := some 5, idleSeconds := 1, timer := some due } }).holdExpires
        0).port 0).status.lastNotice = .holdLost := by decide

/-- R1, R24: a hard reset keeps the geometry that the last enable latched. -/
theorem test_hard_reset_keeps_geometry :
    (part .running).hardReset.tsu.geometry.tableAddress = 0x2000 := by decide

/-- R137: the gap of a loss run carries the part time at which the run was met. -/
theorem test_loss_keeps_its_time :
    (((with0 { Port.reset with ca := { Capture.reset with
        mode := .history, agenda := [.loseRun { sequence := 5, count := 2, trigger := none } 7] } }).resumeAgenda
          0).port 0).ca.gap
      = some { count := 2, cause := .overrun, sequence := 5, time := 7 } := by decide

/-- R150: a sending whose TX record a freeze has closed still hands its item, which only closes. -/
theorem test_frozen_sending_hands_its_item :
    (((with0 { Port.reset with ca := { Capture.reset with txTaken := true } }).closeTx 0).port 0).ca.events
      = [{ position := 0, time := 0, action := .close [] }] := by decide

/-- R165: an enable that leaves the port in conversion above its count ends the sense sweep. -/
theorem test_enable_ends_a_sweep_above :
    ({ Scanner.reset with sweep := some { startTick := 0, port := 2 } } : Scanner).sweepBelow 2 = none := by
  decide

/-- The host's two questions about a word: no word spells a command (log 29). -/
theorem test_no_word : decodeTableWord 32 0 = none ∧ State.reset.withFetchWord 32 0 = State.reset := by
  decide

/-! ### Witnesses of hypotheses

For each obligation with hypotheses, clause by clause, a state and operands that meet them, at a boundary value where
a clause has a range. -/

theorem witness_StepTakesTheFrontCommand :
    (part .off).pending = [] ∧ (part .off).time.ticks + 1 < ((part .off).time.increments + 1) * 36864
    ∧ ∃ s : State, s.pending = [] ∧ (s.time.increments + 1) * 36864 ≤ s.time.ticks + 1 :=
  ⟨by decide, by decide,
    { State.reset with time := { ticks := 36863, increments := 0 } }, by decide, by decide⟩

theorem witness_TimerFollowsTheDeadlineRule :
    ∃ s u : State, (1 ≤ 1 ∧ s.time.increments * 36864 ≤ s.time.ticks
        ∧ s.time.ticks < (s.time.increments + 1) * 36864)
      ∧ (u.time.increments * 36864 ≤ u.time.ticks ∧ u.time.ticks = (u.time.increments + 1) * 36864) :=
  ⟨State.reset, { State.reset with time := { ticks := 36864, increments := 0 } }, by decide, by decide⟩

theorem witness_WindowTakesWritesByItsRules :
    3 < 4 ∧ (part .off).bus.control = .off ∧ (part .stopped).bus.control = .stopped
    ∧ (part .running).bus.control = .running ∧ (part .draining).bus.control = .draining
    ∧ (0x400#32).extractLsb' 0 10 = (0#32).extractLsb' 0 10
    ∧ (0x10#32).extractLsb' 0 4 = (0#32).extractLsb' 0 4 ∧ 3 + 1 ≤ 4 ∧ 0 < 1 := by decide

theorem witness_ControlWriteActsByItsBits :
    (8#32).getLsbD 3 = true ∧ (4#32).getLsbD 3 = false
    ∧ (if (4#32).getLsbD 0 then exec .enable State.reset else .next State.reset) = .next State.reset
    ∧ (if (4#32).getLsbD 1 then exec .stop State.reset else .next State.reset) = .next State.reset
    ∧ (if (4#32).getLsbD 2 then exec .sweep State.reset else .next State.reset)
      = .next State.reset.requestSweep
    ∧ (part .running).bus.control = .running ∧ (part .off).bus.control ≠ .running
    ∧ (0 < (part .running).tsu.geometry.portCount ∧ ((part .running).port 0).status.finalIssued = false) :=
  ⟨by decide, by decide, by simp, by simp, by simp [exec, execSweep], by decide, by decide, by decide⟩

theorem witness_MessageTakesItsPlaceInTheGrantOrder :
    State.reset.canSend = false
    ∧ ∃ s u : State, s.canSend = true ∧ s.hme.outgoing = []
      ∧ u.canSend = true ∧ u.hme.outgoing = [LinkItem.read 0 0 4] ∧ LinkItem.read 0 0 4 ≠ .message :=
  ⟨by decide, { State.reset with hme := { Hme.reset with busMaster := true, message := true } },
    { State.reset with hme :=
      { Hme.reset with busMaster := true, message := true, outgoing := [.read 0 0 4] } },
    by decide, by decide, by decide, by decide, by decide⟩

theorem witness_HardResetGivesTheResetValues :
    ((hearing .arming).slu.rx = .arming ∧ (hearing .arming).slu.lineMark = true)
    ∧ (hearing (.brk 0 false)).slu.rx = .brk 0 false := by decide

theorem witness_SoftResetKeepsWhatItsRulesKeep :
    ((part .running).port 0).slu.line.mode = .fixed
    ∧ ((with0 { Port.reset with slu := { Slu.reset with
        line := { LineSettings.reset with mode := .auto } } }).port 0).slu.line.mode = .auto := by decide

theorem witness_EnableBeginsWithTheAlignmentCheck :
    (part .off).bus.enabling = none ∧ ((part .off).bus.anchorHi ++ (part .off).bus.anchorLo).toNat % 4096 = 0
    ∧ ∃ s : State, s.bus.control = .stopped ∧ s.bus.enabling = none
      ∧ (s.bus.anchorHi ++ s.bus.anchorLo).toNat % 4096 ≠ 0 :=
  ⟨by decide, by decide,
    { State.reset with bus := { BusPort.reset with control := .stopped, anchorLo := 0xFFF } }, by decide⟩

/-- An anchor header with 24 ports and 128 slots, every other field as it must be. -/
def header (ports slots : Nat) : List Byte :=
  leBytes 4 0x57430001 ++ leBytes 2 1 ++ leBytes 1 ports ++ [0] ++ leBytes 2 slots ++ leBytes 2 0
    ++ leBytes 4 0 ++ leBytes 8 0x1000

/-- The part with an enable at a stage. -/
def enableAt (stage : EnableStage) : State :=
  { part .off with bus := { BusPort.reset with enabling := some { anchor := 0x10000, stage := stage } } }

/-- A header as it was read, for so many ports and sixteen slots. -/
def header1 (ports : Nat) : AnchorHeader :=
  { tag := 0x57430001, version := 1, portCount := ports, slotCount := 16, sweepPeriod := 1,
    tableAddress := 0 }

/-- A descriptor with a size code and a mode byte, its area at 1000h. -/
def descriptor (sizeCode mode : Nat) : List Byte :=
  leBytes 8 0x1000 ++ leBytes 1 sizeCode ++ leBytes 1 mode ++ leBytes 6 0

theorem witness_AnchorHeaderChecksAreMadeInOrder :
    (leNat ((header 24 128).take 4) = 0x57430001 ∧ leNat (((header 24 128).drop 4).take 2) = 1
      ∧ leNat (((header 24 128).drop 6).take 1) = 24 ∧ leNat (((header 24 128).drop 8).take 2) = 128
      ∧ leNat (((header 24 128).drop 16).take 8) % 4096 = 0)
    ∧ (24 < leNat (((header 25 128).drop 6).take 1) ∧ 128 < leNat (((header 24 129).drop 8).take 2))
    ∧ (enableAt (.headerOut 7)).bus.enabling = some { anchor := 0x10000, stage := .headerOut 7 }
    ∧ ((enableAt (.descriptorsOut (header1 1) 7)).bus.enabling
        = some { anchor := 0x10000, stage := .descriptorsOut (header1 1) 7 }
      ∧ 0 < (header1 1).portCount ∧ leNat (((descriptor 11 0).drop 8).take 1) < 12
      ∧ 20 < leNat (((descriptor 21 0).drop 8).take 1)
      ∧ leNat (((descriptor 12 0).drop (16 * 0 + 8)).take 1) = 12
      ∧ leNat (((descriptor 12 0).drop (16 * 0)).take 8) % 2 ^ 12 = 0) := by
  decide

theorem witness_EnableHandsEachBlockItsValues :
    (∃ (s : State) (h : AnchorHeader) (p q : PortId), h.portCount ≤ 24 ∧ s.tsu.pendingRequest = false
      ∧ h.sweepPeriod ≠ 0 ∧ p.val < h.portCount ∧ h.portCount ≤ q.val)
    ∧ (∃ s : State, s.tsu.pendingRequest = true ∧ 1 < (header1 1).slotCount ∧ 1 ∉ s.tsu.inFlight
      ∧ ∀ j, j < 1 → j ∈ s.tsu.inFlight)
    ∧ (1 < leNat (((descriptor 12 2).drop 9).take 1) ∧ leNat (((descriptor 12 1).drop 9).take 1) ≤ 1
      ∧ 12 ≤ leNat (((descriptor 12 1).drop 8).take 1))
    ∧ Freeze.reset.state ≠ .frozen ∧ ({ Freeze.reset with state := .frozen } : Freeze).state = .frozen :=
  ⟨⟨State.reset, header1 23, 22, 23, by decide⟩,
    ⟨{ part .stopped with tsu := { (part .stopped).tsu with pendingRequest := true, inFlight := [0] } },
      by decide⟩,
    by decide, by decide, by decide⟩

theorem witness_StopDrainsUnstartedEntries :
    (part .running).bus.control = .running ∧ (entry .send).kind ≠ .broadcast
    ∧ entry .send ∈ (if ((with0 (sending .free .idle none [entry .send])).port 0).exc.state = .idle
        then ((with0 (sending .free .idle none [entry .send])).port 0).queue else [])
    ∧ (3 < (part .running).tsu.geometry.portCount ∧ ((part .running).port 3).ca.ordinaryItems < 16)
    ∧ ((part .running).bus.settleHanded = false
      ∧ ∀ p : PortId, ((part .running).port p).exc.state = .idle ∨ ((part .running).port p).queue = [])
    ∧ (0 < (part .running).tsu.geometry.portCount ∧ ((part .running).port 0).status.finalIssued = false) := by
  decide

/-- The draining part with its settle requests handed and every port's final write issued, or not. -/
def settled (final : Bool) : State :=
  { part .draining with
    bus := { BusPort.reset with control := .draining, settleHanded := true }
    ports := Vector.replicate 24
      { Port.reset with status := { StatusWriter.reset with finalIssued := final } } }

theorem witness_StoppedIsEnteredWhenTheDrainIsDone :
    ((settled true).bus.control = .draining ∧ (settled true).bus.settleHanded = true
      ∧ (∀ p : PortId, ((settled true).port p).queue = [])
      ∧ (∀ p : PortId, ((settled true).port p).status.finalIssued = true)
      ∧ (settled true).tsu.sweep = none ∧ (settled true).tsu.completions = []
      ∧ (settled true).tsu.writes = [] ∧ (settled true).hme.queuedWrites = 0)
    ∧ (3 < (settled false).tsu.geometry.portCount
      ∧ ((settled false).port 3).status.finalIssued = false)
    ∧ ((part .draining).bus.settleHanded = false ∧ (∀ p : PortId, ((part .draining).port p).queue = [])
      ∧ 3 < (part .draining).tsu.geometry.portCount
      ∧ ((part .draining).port 3).status.finalIssued = false)
    ∧ (((part .draining).setPort 0 (sending .free .sending none [entry .send])).port 0).queue ≠ []
    ∧ (part .running).bus.control ≠ .draining := by decide

/-- The part with slots in flight and a sweep timer. -/
def flying (c : ControlState) (slots : List Nat) (timer : Timer) : State :=
  { part c with tsu := { (part c).tsu with inFlight := slots, timer := some timer } }

theorem witness_SweepRequestsStartOrWait :
    ((4#32).getLsbD 0 = false ∧ (4#32).getLsbD 1 = false ∧ (4#32).getLsbD 3 = false)
    ∧ ((flying .draining [0, 1] due).tsu.sweep = none ∧ 2 < (part .draining).tsu.geometry.slotCount
      ∧ 2 ∉ (flying .draining [0, 1] due).tsu.inFlight
      ∧ (∀ j, j < 2 → j ∈ (flying .draining [0, 1] due).tsu.inFlight))
    ∧ (∀ j, j < (part .running).tsu.geometry.slotCount →
        j ∈ (flying .running (List.range 16) due).tsu.inFlight)
    ∧ ((part .running).startSweep true).tsu.sweep.isSome = true
    ∧ (part .stopped).bus.control = .stopped := by decide

theorem witness_SweepTimerStartsATimedSweep :
    ((flying .draining [0, 1] due).tsu.timer = some due
      ∧ due.armedAt + due.span ≤ (flying .draining [0, 1] due).time.increments
      ∧ 2 < (part .draining).tsu.geometry.slotCount
      ∧ 2 ∉ (flying .draining [0, 1] due).tsu.inFlight
      ∧ (∀ j, j < 2 → j ∈ (flying .draining [0, 1] due).tsu.inFlight))
    ∧ ((flying .running [] late).tsu.timer = some late
      ∧ (flying .running [] late).time.increments < late.armedAt + late.span)
    ∧ State.reset.tsu.timer = none := by decide

/-- A POSTED slot of a kind, for port 0, with a text of 5 bytes. -/
def posted (kind : Nat) : TaskSlot :=
  { stateByte := 1, kindCode := kind, port := 0, fields := { blank with textLength := 5, paramA := 1 } }

theorem witness_RefusedSlotsAreCompletedBadTask :
    ((part .running).bus.control = .running ∧ 11 ∉ [1, 2, 3, 4, 5, 6, 7, 8, 9, 10, 16, 17, 18]
      ∧ (part .running).tsu.geometry.portCount ≤ 4 ∧ 3 < (part .running).tsu.geometry.portCount
      ∧ 1024 < ({ blank with textLength := 1025 } : TaskFields).textLength
      ∧ 31 < ({ blank with patternId := 32 } : TaskFields).patternId
      ∧ (part .running).patterns[(31 : PatternId)] = none
      ∧ (∀ p : PortId, p.val < (part .running).tsu.geometry.portCount → (16#32).getLsbD p.val = false)
      ∧ (part .running).tsu.geometry.slotCount ≤ (16#32).toNat
      ∧ ({ blank with textLength := 49 } : TaskFields).textLength % 2 = 1
      ∧ 48 < ({ blank with textLength := 50 } : TaskFields).textLength)
    ∧ ((part .draining).bus.control = .draining ∧ (posted 16).kindCode = 16 ∧ (posted 1).kindCode ≠ 16)
    ∧ (posted 1).stateByte = 1 ∧ ({ posted 1 with stateByte := 2 } : TaskSlot).stateByte ≠ 1 := by decide

theorem witness_AdmissionNeedsRoomInTheQueue :
    (∃ (s u : State) (p : PortId), (s.bus.control = .running ∧ p.val < s.tsu.geometry.portCount
        ∧ (s.port p).queue = entry .send :: List.replicate 6 (entry .hold)
        ∧ (s.port p).exc.state ≠ .idle ∧ (List.replicate 6 (entry .hold)).length < 7)
      ∧ ((u.port p).queue = entry .send :: List.replicate 7 (entry .hold)
        ∧ (u.port p).exc.state ≠ .idle ∧ 7 ≤ (List.replicate 7 (entry .hold)).length))
    ∧ ((part .running).bus.control = .running ∧ (posted 1).stateByte = 1 ∧ (posted 1).kindCode = 1
      ∧ 0 < (posted 1).fields.textLength ∧ (posted 1).fields.textLength ≤ 1024
      ∧ ((part .running).port 0).queue = [] ∧ ((part .running).port 0).exc.state = .idle
      ∧ ((part .running).port 0).guard.getLsbD 2 = false
      ∧ ((part .running).port 0).hold.owner = none ∧ (posted 1).fields.flags.getLsbD 1 = false
      ∧ ((part .running).port 0).slu.line.mode = .fixed)
    ∧ ∃ s u : State, ((posted 10).kindCode = 10
        ∧ ((List.finRange 24).filter fun p =>
            (posted 10).fields.paramA.getLsbD p.val && decide (p.val < s.tsu.geometry.portCount)) = [0]
        ∧ (s.port 0).exc.state ≠ .idle ∧ (s.port 0).queue ≠ [] ∧ (s.port 0).queue.length = 7)
      ∧ 8 ≤ (u.port 0).queue.length :=
  ⟨⟨with0 (sending .free .sending none (entry .send :: List.replicate 6 (entry .hold))),
    with0 (sending .free .sending none (entry .send :: List.replicate 7 (entry .hold))), 0, by decide⟩,
    by decide,
    with0 (sending .free .sending none (entry .send :: List.replicate 6 (entry .hold))),
    with0 (sending .free .sending none (entry .send :: List.replicate 7 (entry .hold))), by decide⟩

/-- An entry with an order key. -/
def keyed (key : Nat) : QueueEntry := { entry .send with fields := { blank with orderKey := key } }

theorem witness_QueueOrderIsByKeyThenAdmission :
    [keyed 100, keyed 200].Pairwise (fun x y => x.fields.orderKey ≤ y.fields.orderKey)
    ∧ (∀ x ∈ [keyed 100, keyed 200], (keyed 50).fields.orderKey < x.fields.orderKey)
    ∧ (((part .running).port 0).exc.state = .idle
      ∧ ((with0 (sending .free .sending none [keyed 500, keyed 100])).port 0).exc.state ≠ .idle
      ∧ ((with0 (sending .free .sending none [keyed 500, keyed 100])).port 0).queue
        = [keyed 500, keyed 100])
    ∧ (1 ≤ 15 ∧ 15 < (part .running).tsu.geometry.slotCount ∧ 15 ∉ (part .running).tsu.inFlight) := by
  decide

/-- R26: behind a started head of key 500 with 100 and 200, a 150 goes between them and a 600 last. -/
theorem test_order_of_a_started_head :
    placeEntry true (keyed 150) [keyed 500, keyed 100, keyed 200]
        = [keyed 500, keyed 100, keyed 150, keyed 200]
    ∧ placeEntry true (keyed 600) [keyed 500, keyed 100, keyed 200]
        = [keyed 500, keyed 100, keyed 200, keyed 600] := by decide

/-- A completion of slot 3. -/
def done : Completion := State.reset.unbegun 3 true .ok

theorem witness_CompletionsAreTakenInOrder :
    ∃ s : State, s.tsu.completions = [done] ∧ s.tsu.writes = [] ∧ State.reset.tsu.completions = [] :=
  ⟨{ State.reset with tsu := { Tsu.reset with completions := [done] } }, by decide⟩

theorem witness_PiecesCoverTheRequest : 512 ≤ 512 ∧ (piecesOf 0x39C 512)[1]? = some (0x400, 412) := by
  decide

/-- The running part with bus mastering enabled and a port 0. -/
def linked (v : Port) : State :=
  { with0 v with hme := { Hme.reset with busMaster := true, message := true } }

/-- A port that asks for a status write. -/
def asking : Port := { Port.reset with status := { StatusWriter.reset with request := some false } }

/-- A port that wants its read mark. -/
def marking : Port := { Port.reset with ca := { Capture.reset with fetch := .wanted } }

/-- A port that fetches text. -/
def fetching : Port :=
  { Port.reset with
    queue := [{ entry .send with fields := { blank with textLength := 40 } }]
    exc := { Exc.idle with state := .sending } }

/-- A port with a record of 16 bytes in hand. -/
def recording : Port :=
  { Port.reset with ca := { Capture.reset with
      mode := .history
      inHand := some { records := [.record (.mark .enabled 0 0 0)], passed := true } } }

/-- The part with a slot write waiting. -/
def writing : State :=
  { linked Port.reset with tsu := { (part .running).tsu with
      writes := [{ address := 0x2000, bytes := [2], raisesTask := false }] } }

/-- The part with a sweep at a header read, or with an enable at its first read. -/
def sweeping : State :=
  { linked Port.reset with tsu := { (part .running).tsu with sweep := some (sweepAt true 0) } }

def enabling : State :=
  { linked Port.reset with bus := { BusPort.reset with
      enabling := some { anchor := 0x10000, stage := .headerWanted } } }

theorem witness_ArbiterServesTheLowestClass :
    writing.chosenGrant = some (.slotWrite { address := 0x2000, bytes := [2], raisesTask := false })
    ∧ (linked asking).chosenGrant = some (.status 0)
    ∧ sweeping.chosenGrant = some (.sweepRead .slotHeader 0x2000 8)
    ∧ enabling.chosenGrant = some (.enableRead .anchorHeader 0x10000 64)
    ∧ (linked marking).chosenGrant = some (.readMark 0)
    ∧ (linked fetching).chosenGrant = some (.text 0 0 40)
    ∧ (linked recording).chosenGrant = some (.capture 0)
    ∧ (linked Port.reset).chosenGrant = none
    ∧ (linked asking).statusReady 0 = true
    ∧ (sweeping.sweepRequest = some (.slotHeader, 0x2000, 8) ∧ sweeping.readFits 0x2000 8 = true
      ∧ sweeping.tsu.writes.head? = none ∧ ∀ p, sweeping.statusReady p = false)
    ∧ ((linked marking).readMarkReady 0 = true ∧ (linked fetching).textReady 0 = true
      ∧ (linked recording).captureReady 0 = true)
    ∧ (writing.hme.busMaster = true ∧ (linked recording).hme.busMaster = true)
    ∧ ((part .running).bus.control = .running ∧ (part .running).bus.enabling = none
      ∧ (part .stopped).bus.control = .stopped ∧ (part .stopped).tsu.sweep = none) := by decide

/-- The part with a sweep at slot 0 in a stage. -/
def sweepingAt (stage : SweepStage) : State :=
  { linked Port.reset with tsu := { (part .running).tsu with
      sweep := some { requested := true, index := 0, stage := stage } } }

/-- The part with an enable that wants 24 descriptors. -/
def enablingDescriptors : State :=
  { linked Port.reset with bus := { BusPort.reset with
      enabling := some { anchor := 0x10000, stage := .descriptorsWanted (header1 24) } } }

/-- A sending port with so many bytes of its 40 staged and so many asked for. -/
def staged (bytes offset : Nat) : Port :=
  { fetching with slu := { Slu.reset with
      staging := List.replicate bytes (0x41 : Byte), fetchOffset := offset } }

/-- R83: with room for 32 bytes the read fills the room, or what remains of the text; with less it waits, unless
the rest of the text fits. -/
theorem test_text_request :
    (staged 32 4).textRequest = some (4, 32) ∧ (staged 33 4).textRequest = none
    ∧ (staged 33 9).textRequest = some (9, 31) ∧ (staged 0 40).textRequest = none := by decide

theorem witness_GrantIssuesTheChosenRequest :
    (linked asking).bus.control ≠ .draining ∧ (part .running).hme.busMaster = false
    ∧ (linked asking).hme.busMaster = true ∧ (linked asking).chosenGrant = some (.status 0)
    ∧ (linked Port.reset).chosenGrant = none
    ∧ (writing.chosenGrant = some (.slotWrite { address := 0x2000, bytes := [2], raisesTask := false })
      ∧ writing.tsu.writes = [{ address := 0x2000, bytes := [2], raisesTask := false }]
      ∧ writing.tsu.sweep = none)
    ∧ (((sweepingAt .writing).tsu.sweep = some { requested := true, index := 0, stage := .writing })
      ∧ SweepStage.headerWanted ≠ .writing)
    ∧ (sweepingAt .wholeWanted).chosenGrant = some (.sweepRead .wholeSlot 0x2000 64)
    ∧ (sweepingAt (.patternWanted (posted 17) 0)).chosenGrant = some (.sweepRead .patternText 0 5)
    ∧ (sweeping.chosenGrant = some (.sweepRead .slotHeader 0x2000 8)
      ∧ sweeping.tsu.sweep = some { requested := true, index := 0, stage := .headerWanted })
    ∧ (enabling.chosenGrant = some (.enableRead .anchorHeader 0x10000 64)
      ∧ enabling.bus.enabling = some { anchor := 0x10000, stage := .headerWanted })
    ∧ enablingDescriptors.chosenGrant = some (.enableRead .descriptors 0x10040 384)
    ∧ (linked marking).chosenGrant = some (.readMark 0)
    ∧ (linked fetching).chosenGrant = some (.text 0 0 40)
    ∧ (fetching.queue.length = 1 ∧ fetching.headLength = 40
      ∧ fetching.exc.state = .sending ∧ fetching.exc.stopping = none ∧ fetching.slu.textRead = none
      ∧ fetching.slu.fetchOffset = 0 ∧ fetching.slu.staging = []
      ∧ (staged 33 0).slu.staging.length = 33 ∧ 64 - 33 < 32 ∧ 64 - 33 < 40)
    ∧ ((linked recording).chosenGrant = some (.capture 0)
      ∧ ((linked recording).port 0).ca.inHand
        = some { records := [.record (.mark .enabled 0 0 0)], passed := true }
      ∧ ((linked recording).port 0).ca.agenda = []) := by decide

/-- A write piece of one byte. -/
def piece (task : Bool) : WritePiece := { address := 0, bytes := [3], raisesTask := task }

/-- The running part with a grant order. -/
def ordered (items : List LinkItem) : State :=
  { part .running with hme := { Hme.reset with busMaster := true, outgoing := items } }

theorem witness_PiecesLeaveInGrantOrder :
    ((ordered [.write (piece true)]).hme.busMaster = true
      ∧ (ordered [.write (piece true)]).hme.outgoing = [.write (piece true)])
    ∧ (ordered [.write (piece false), .read 0 0 4]).hme.outgoing = [.write (piece false), .read 0 0 4]
    ∧ ((part .running).bus.control ≠ .draining ∧ (part .running).hme.busMaster = false)
    ∧ (ordered [.read 0 0 4]).hme.outgoing = [.read 0 0 4] := by decide

/-- A read piece that has left. -/
def readPiece (tag : Nat) (who : Requester) (length : Nat) (timer : Timer) (discarded : Bool) : ReadEntry :=
  { tag := tag, read := 7, requester := who, address := 0, length := length, left := true,
    timer := some timer, discarded := discarded, data := none }

/-- The running part at a slot header read, with a table of reads. -/
def reading (reads : List ReadEntry) : State :=
  { with0 { Port.reset with slu := { Slu.reset with tx := .breakSpace, textRead := some 7 } } with
    hme := { Hme.reset with reads := reads }
    tsu := { (part .running).tsu with
      sweep := some { requested := true, index := 0, stage := .headerOut 7 } } }

/-- The same at a whole-slot read. -/
def readingSlot : State :=
  { reading [readPiece 1 .wholeSlot 64 due false] with
    tsu := { (part .running).tsu with
      sweep := some { requested := true, index := 0, stage := .wholeOut 7 } } }

/-- A port that sends, with its text read outstanding. -/
def fetchingText (tx : Transmitter) : State :=
  { with0 { sending tx .sending none [entry .send] with slu := { Slu.reset with tx := tx, textRead := some 7 } } with
    hme := { Hme.reset with reads := [readPiece 1 (.text 0) 1 due false] } }

theorem witness_faults_of_text_reads :
    (∀ tx ∈ [Transmitter.free, .character sent],
      (fetchingText tx).bus.control ≠ .draining
      ∧ (fetchingText tx).hme.reads = [readPiece 1 (.text 0) 1 due false]
      ∧ ((fetchingText tx).port 0).slu.textRead = some (readPiece 1 (.text 0) 1 due false).read
      ∧ ((fetchingText tx).port 0).queue = [entry .send] ∧ (entry .send).kind ≠ .broadcast
      ∧ ((fetchingText tx).port 0).exc.state = .sending ∧ ((fetchingText tx).port 0).exc.stopping = none
      ∧ ((fetchingText tx).port 0).slu.tx = tx
      ∧ due.armedAt + due.span ≤ (fetchingText tx).time.increments)
    ∧ readingSlot.hme.reads = [readPiece 1 .wholeSlot 64 due false]
    ∧ readingSlot.tsu.sweep = some { requested := true, index := 0, stage := .wholeOut 7 }
    ∧ (List.replicate 64 (1#8)).length = 64 := by decide

/-- R190: the originator is the low 4 bits of byte 3, the order key bytes 4 and 5, parameter D the bytes from 36. -/
theorem test_slot_fields_stand_at_their_offsets :
    (fun t : TaskSlot => (t.kindCode, t.port, t.fields.originator, t.fields.orderKey, t.fields.paramD))
      (TaskSlot.parse
        ([1, 10, 5, 0xA7, 0x34, 0x12] ++ List.replicate 30 0 ++ [4, 3, 2, 1] ++ List.replicate 24 0))
      = (10, 5, 7, 0x1234, 0x01020304) := by decide

theorem witness_AnswerGoesToItsRequester :
    ((reading [readPiece 1 .slotHeader 1 due false]).hme.reads = [readPiece 1 .slotHeader 1 due false]
      ∧ (reading []).tsu.sweep = some { requested := true, index := 0, stage := .headerOut 7 }
      ∧ [1#8].head? = some 1 ∧ [0#8].head? ≠ some 1)
    ∧ (∀ e ∈ (reading [readPiece 1 .slotHeader 1 due false]).hme.reads, e.tag ≠ 2)
    ∧ ((reading [readPiece 1 (.text 0) 1 due false, readPiece 2 (.text 0) 1 due false]).hme.reads
        = [readPiece 1 (.text 0) 1 due false, readPiece 2 (.text 0) 1 due false]
      ∧ ((reading []).port 0).slu.textRead = some 7 ∧ ((reading []).port 0).slu.tx ≠ .free
      ∧ (readPiece 1 (.text 0) 1 due false).tag ≠ (readPiece 2 (.text 0) 1 due false).tag) := by decide

theorem witness_ReadPieceTimeoutIsAReadFault :
    ((reading []).bus.control ≠ .draining
      ∧ (reading [readPiece 1 .slotHeader 8 due false]).hme.reads = [readPiece 1 .slotHeader 8 due false]
      ∧ due.armedAt + due.span ≤ (reading []).time.increments)
    ∧ (reading [readPiece 1 .slotHeader 8 due true]).hme.reads = [readPiece 1 .slotHeader 8 due true]
    ∧ ((reading [readPiece 1 .slotHeader 8 late false]).hme.reads
        = [readPiece 1 .slotHeader 8 late false]
      ∧ (reading []).time.increments < late.armedAt + late.span) := by decide

/-- A port 0 in an exchange state with a timer and one entry. -/
def waiting (x : ExchangeState) (timer : Timer) (e : QueueEntry) : State :=
  with0 (sending .free x (some timer) [e])

/-- An AUTO port with a rate state, an exchange state and one entry. -/
def rating (r : RateState) (x : ExchangeState) : State :=
  with0 { sending .free x (some due) [entry .send] with
    slu := { Slu.reset with line := { LineSettings.reset with mode := .auto } }
    rf := { RateFinder.reset with state := r } }

theorem witness_HeadChecksAreMadeInOrder :
    (((rating .seeking .idle).port 0).queue = [entry .send] ∧ ((rating .seeking .idle).port 0).exc.state = .idle
      ∧ ((rating .seeking .idle).port 0).headCheck (entry .send) = none
      ∧ ((rating .seeking .idle).port 0).slu.line.mode = .auto
      ∧ ((rating .seeking .idle).port 0).rf.state = .seeking)
    ∧ (((rating .verifying .rateWait).port 0).exc.state = .rateWait
      ∧ ((rating .verifying .rateWait).port 0).rf.state ≠ .locked
      ∧ ((rating .verifying .rateWait).port 0).rf.state ≠ .failed)
    ∧ (((rating .locked .rateWait).port 0).rf.state = .locked
      ∧ ((rating .failed .rateWait).port 0).rf.state = .failed
      ∧ 0 < (posted 1).fields.textLength ∧ blank.textLength = 0
      ∧ ((rating .locked .rateWait).port 0).slu.tx = .free) := by decide

theorem witness_RateWaitLimitEndsNoRate :
    (((waiting .rateWait due (entry .send)).port 0).queue = [entry .send]
      ∧ ((waiting .rateWait due (entry .send)).port 0).exc.state = .rateWait
      ∧ ((waiting .rateWait due (entry .send)).port 0).exc.timer = some due
      ∧ due.armedAt + due.span ≤ (part .running).time.increments
      ∧ ((waiting .rateWait due (entry .send)).port 0).exc.attempts = 0)
    ∧ (((waiting .rateWait late (entry .send)).port 0).exc.timer = some late
      ∧ (part .running).time.increments < late.armedAt + late.span) := by decide

/-- An exchange with a text length, retries and a pause. -/
def exchange (length retries pause : Nat) : QueueEntry :=
  { slot := 3, kind := .exchange
    fields := { blank with textLength := length, retries := retries, retryPause := pause, responseTime := 9 } }

theorem witness_ResponseDeadlineRetriesOrEnds :
    (((waiting .awaiting due (exchange 1 0 5)).port 0).queue = [exchange 1 0 5]
      ∧ ((waiting .awaiting due (exchange 1 0 5)).port 0).exc.state = .awaiting
      ∧ ((waiting .awaiting due (exchange 1 0 5)).port 0).exc.timer = some due
      ∧ ((waiting .awaiting due (exchange 1 0 5)).port 0).exc.attempts < min 0 15 + 1
      ∧ 0 < (exchange 1 0 5).fields.retryPause)
    ∧ ((exchange 1 0 0).fields.retryPause = 0 ∧ 0 < (exchange 1 0 0).fields.textLength)
    ∧ (((waiting .awaiting due (exchange 0 0 0)).port 0).queue = [exchange 0 0 0]
      ∧ ((waiting .awaiting due (exchange 0 0 0)).port 0).exc.attempts < min 0 15 + 1
      ∧ (exchange 0 0 0).fields.retryPause = 0 ∧ (exchange 0 0 0).fields.textLength = 0)
    ∧ ∃ s : State, (s.port 0).queue = [exchange 1 15 0] ∧ (s.port 0).exc.state = .awaiting
      ∧ (s.port 0).exc.timer = some due
      ∧ min (exchange 1 15 0).fields.retries 15 + 1 ≤ (s.port 0).exc.attempts :=
  ⟨by decide, by decide, by decide,
    with0 { Port.reset with
      queue := [exchange 1 15 0]
      exc := { Exc.idle with state := .awaiting, timer := some due, attempts := 16 } }, by decide⟩

theorem witness_RetryPauseBeginsTheNextAttempt :
    ((waiting .pausing due (exchange 1 1 5)).port 0).queue.head? = some (exchange 1 1 5)
    ∧ ((waiting .pausing due (exchange 1 1 5)).port 0).exc.state = .pausing
    ∧ ((waiting .pausing due (exchange 1 1 5)).port 0).exc.timer = some due
    ∧ 0 < (exchange 1 1 5).fields.textLength
    ∧ ((waiting .pausing due (exchange 0 1 5)).port 0).queue.head? = some (exchange 0 1 5)
    ∧ (exchange 0 1 5).fields.textLength = 0 ∧ (exchange 0 1 5).fields.responseTime ≠ 0
    ∧ (entry .exchange).fields.textLength = 0 ∧ (entry .exchange).fields.responseTime = 0
    ∧ ((waiting .pausing due (entry .exchange)).port 0).queue.head? = some (entry .exchange) := by decide

/-- R76: at 9600 8N1, 200 characters take 208.33 ms, so the default response time is 209 ms. -/
theorem test_default_response_time : Port.reset.deadlineMs 0 = 209 := by decide

/-- A port held by originator 5, its timer armed. -/
def held (timer : Timer) : State :=
  with0 { Port.reset with hold := { owner := some 5, idleSeconds := 1, timer := some timer } }

theorem witness_HoldLapsesAtItsIdleTimer :
    ((held due).port 0).hold.timer = some due ∧ due.armedAt + due.span ≤ (held due).time.increments
    ∧ ((held late).port 0).hold.timer = some late
    ∧ (held late).time.increments < late.armedAt + late.span := by decide

/-- An entry of the port's owner. -/
def owned (k : TaskKind) : QueueEntry :=
  { entry k with fields := { blank with originator := 5, textLength := 4, paramA := 7 } }

/-- A port held by originator 5 with an entry of its owner not yet taken, and some guard flags. -/
def usedBy (k : TaskKind) (guard : BitVec 3) : State :=
  with0 { Port.reset with
    queue := [owned k]
    guard := guard
    hold := { owner := some 5, idleSeconds := 1, timer := some due } }

theorem witness_HoldReleaseAndGuardFollowTheirRecords :
    ((part .running).port 0).hold.owner = none
    ∧ ((held due).port 0).hold.owner = some 5 ∧ (5#4 : BitVec 4) ≠ blank.originator
    ∧ blank.flags.getLsbD 3 = false
    ∧ ({ blank with flags := 8 } : TaskFields).flags.getLsbD 3 = true
    ∧ ({ blank with originator := 5 } : TaskFields).originator = 5
    ∧ (((usedBy .hold 0).port 0).queue = [owned .hold] ∧ ((usedBy .hold 0).port 0).exc.state = .idle
      ∧ ((usedBy .hold 0).port 0).headCheck (owned .hold) = none
      ∧ ((usedBy .hold 0).port 0).hold.owner = some (owned .hold).fields.originator)
    ∧ (((usedBy .send 4).port 0).queue = [owned .send]
      ∧ ((usedBy .send 4).port 0).headCheck (owned .send) ≠ none
      ∧ ((usedBy .send 0).port 0).headCheck (owned .send) = none ∧ 0 < (owned .send).fields.textLength
      ∧ ((usedBy .send 0).port 0).slu.line.mode = .fixed) := by decide

/-- R53, R55: the owner's renewal for 7 s arms 7000 ms, its refused SEND arms its second again, and its SEND in
progress leaves the timer disarmed. -/
theorem test_hold_timer_follows_its_owner :
    (((usedBy .hold 0).serveQueue 0).port 0).hold.timer.map Timer.span = some 7000
    ∧ (((usedBy .send 4).serveQueue 0).port 0).hold.timer.map Timer.span = some 1000
    ∧ (((usedBy .send 0).serveQueue 0).port 0).hold.timer = none := by decide

theorem witness_CharactersAreFramedByTheFormat :
    LineFormat.reset.dataBits = 8
    ∧ ({ dataBits := 7, parity := .even, stopBits := 2 } : LineFormat).dataBits = 7 := by decide

/-- A sending port with a character on the line and one entry, or one that is to stop. -/
def ending (x : ExchangeState) (stopping : Option StopCause) (gap : Nat) (e : QueueEntry) : State :=
  with0 { Port.reset with
    queue := [e]
    exc := { Exc.idle with state := x, stopping := stopping }
    slu := { Slu.reset with
      tx := .character sent
      line := { LineSettings.reset with gap := gap } } }

theorem witness_CharacterEndCountsAndGoesOn :
    (sent.startTick + sent.period * sent.bits.length ≤ ((part .running).time.increments + 1) * 36864
      ∧ (part .running).time.ticks ≤ sent.startTick + sent.period * sent.bits.length)
    ∧ (((ending .sending none 1 (entry .send)).port 0).slu.tx = .character sent
      ∧ ((ending .sending none 1 (entry .send)).port 0).queue = [entry .send]
      ∧ ((ending .sending none 1 (entry .send)).port 0).exc.state = .sending
      ∧ 0 < ((ending .sending none 1 (entry .send)).port 0).slu.line.gap
          * ((ending .sending none 1 (entry .send)).port 0).slu.line.period)
    ∧ (((ending .sending none 0 (entry .send)).port 0).slu.line.gap = 0
      ∧ ({ sent with pauseFollows := true } : TxCharacter).pauseFollows = true
      ∧ ((with0 { (ending .sending none 0 (entry .send)).port 0 with slu :=
          { ((ending .sending none 0 (entry .send)).port 0).slu with staging := [0x42] } }).port
            0).slu.staging = [0x42])
    ∧ (((ending .draining none 0 (entry .send)).port 0).exc.state = .draining
      ∧ ((ending .draining none 0 (entry .send)).port 0).exc.stopping = none)
    ∧ ((ending .draining none 0 (entry .exchange)).port 0).queue = [entry .exchange]
    ∧ ((ending .draining (some .cancelled) 0 (entry .send)).port 0).exc.stopping = some .cancelled
    ∧ ((0 + 1) * 36864 < 33665 + sent.period * sent.bits.length) := by
  decide

/-- A port with a gap or a pause that ends at tick 36864, its exchange in a state. -/
def pacing (tx : Transmitter) (x : ExchangeState) (pauseMs : Nat) (staging : List Byte) : State :=
  with0 { Port.reset with
    exc := { Exc.idle with state := x }
    slu := { Slu.reset with
      tx := tx, staging := staging, line := { LineSettings.reset with pauseMs := pauseMs } } }

theorem witness_GapAndPauseEndInTurn :
    (((pacing (.gap 36864 true) .idle 4 []).port 0).slu.tx = .gap 36864 true
      ∧ 36864 ≤ ((part .running).time.increments + 1) * 36864
      ∧ 0 < ((pacing (.gap 36864 true) .idle 4 []).port 0).slu.line.pauseMs)
    ∧ (((pacing (.gap 36864 false) .idle 0 []).port 0).slu.tx = .gap 36864 false
      ∧ ((pacing (.gap 36864 false) .idle 0 []).port 0).exc.state = .idle)
    ∧ (((pacing (.pause 36864) .idle 0 []).port 0).slu.tx = .pause 36864
      ∧ ((pacing (.pause 36864) .idle 0 []).port 0).exc.state = .idle)
    ∧ (((pacing (.pause 36864) .sending 0 [0x41]).port 0).exc.state = .sending
      ∧ ((pacing (.pause 36864) .sending 0 [0x41]).port 0).exc.stopping = none
      ∧ ((pacing (.pause 36864) .sending 0 [0x41]).port 0).slu.staging = [0x41])
    ∧ (((pacing (.gap 36864 true) .sending 0 [0x41]).port 0).slu.tx = .gap 36864 true
      ∧ ((pacing (.gap 36864 true) .sending 0 [0x41]).port 0).slu.line.pauseMs = 0
      ∧ ((pacing (.gap 36864 true) .sending 0 [0x41]).port 0).slu.staging = [0x41])
    ∧ (((pacing (.pause 36864) .breaking 0 []).port 0).exc.state = .breaking
      ∧ ((pacing (.pause 36864) .breaking 0 []).port 0).exc.timer = none
      ∧ ((pacing (.gap 36864 false) .breaking 4 []).port 0).slu.tx = .gap 36864 false) := by decide

theorem witness_BreakTimerReleasesTheLine :
    ∃ s : State, (s.port 0).queue.head? = some (entry .brk) ∧ (s.port 0).slu.tx = .breakSpace
      ∧ (s.port 0).exc.state = .breaking ∧ (s.port 0).exc.timer = some due
      ∧ due.armedAt + due.span ≤ s.time.increments ∧ s.bus.control = .running
      ∧ 0 < s.tsu.geometry.portCount ∧ (s.port 0).ca.events = [] :=
  ⟨with0 (sending .breakSpace .breaking (some due) [entry .brk]), by decide⟩

theorem witness_BreakGuardEndsTheBreak :
    ∃ s : State, (s.port 0).queue = [entry .brk] ∧ (entry .brk).kind = .brk
      ∧ (s.port 0).slu.tx = .breakGuard 36864 ∧ 36864 ≤ (s.time.increments + 1) * 36864
      ∧ (s.port 0).exc.attempts = 0 ∧ (s.port 0).exc.bytesSent = 0 :=
  ⟨with0 (sending (.breakGuard 36864) .breaking none [entry .brk]), by decide⟩

/-- A port in SEEKING with its line at a level and samples taken. -/
def seeking (mark : Bool) (samples : List Nat) (interval : Option Nat) : State :=
  with0 { Port.reset with
    slu := { Slu.reset with rx := .notDecoding, lineMark := mark }
    rf := { RateFinder.reset with state := .seeking, samples := samples, interval := interval } }

theorem witness_ReceiverEdgesFollowTheLine :
    ((part .running).port 0).slu.rx = .hunting
    ∧ ((with0 (hearing (.sampling heard))).port 0).slu.rx = .sampling heard
    ∧ heard.edgeTick + heard.period / 2 ≤ ((part .running).time.increments + 1) * 36864
    ∧ ((with0 (hearing .arming)).port 0).slu.rx = .arming
    ∧ (((seeking true [] none).port 0).slu.rx = .notDecoding
      ∧ ((seeking true [] none).port 0).slu.lineMark = true
      ∧ ((seeking true [] none).port 0).rf.state = .seeking
      ∧ (seeking true [] none).bus.control ≠ .off ∧ 0 < (seeking true [] none).tsu.geometry.portCount) := by
  decide

/-- A byte as it waits in the FIFO. -/
def stored (b : Byte) : FifoEntry :=
  { byte := b, sequence := 0, framing := false, parity := false, time := 0,
    note := { count := 0, lowest := none, trigger := none } }

/-- A port that samples a character with so many bytes in its FIFO. -/
def listening (n : Nat) : State :=
  with0 { Port.reset with slu := { Slu.reset with rx := .sampling heard, fifo := List.replicate n (stored 0) } }

theorem witness_DecodedBytesAreDelivered :
    (((listening 63).port 0).slu.rx = .sampling heard
      ∧ heard.edgeTick + heard.period * (heard.format.charBits - 1) + heard.period / 2
        ≤ ((listening 63).time.increments + 1) * 36864
      ∧ (listening 63).time.ticks
        ≤ heard.edgeTick + heard.period * (heard.format.charBits - 1) + heard.period / 2
      ∧ (listening 63).bus.control = .running ∧ 0 < (listening 63).tsu.geometry.portCount
      ∧ ((listening 63).port 0).rf.state ≠ .verifying ∧ ((listening 63).port 0).pm.watch = 0
      ∧ ((listening 63).port 0).pm.await = none ∧ ((listening 63).port 0).slu.fifo.length < 64)
    ∧ 64 ≤ ((listening 64).port 0).slu.fifo.length ∧ (0x41#8 ≠ 0) := by decide

theorem witness_ZeroCharactersBecomeBytesOrBreaks :
    (heard.edgeTick + heard.period * (heard.format.charBits - 1) + heard.period / 2
        ≤ ((listening 0).time.increments + 1) * 36864 ∧ (listening 0).bus.control ≠ .draining)
    ∧ (((with0 (hearing (.zeroWait heard))).port 0).slu.rx = .zeroWait heard
      ∧ max 0 (0 * 36864 + min 6400 36864) ≤ heard.edgeTick + 2 * (heard.period * heard.format.charBits)
      ∧ ((with0 (hearing (.zeroWait heard))).port 0).ca.events = [])
    ∧ heard.edgeTick + 2 * (heard.period * heard.format.charBits) ≤ (0 + 1) * 36864
    ∧ (((part .off).setPort 0 (hearing (.zeroWait heard))).bus.control = .off
      ∧ (((part .off).setPort 0 (hearing (.zeroWait heard))).port 0).slu.rx = .zeroWait heard)
    ∧ (((with0 (hearing (.brk 0 false))).port 0).slu.rx = .brk 0 false
      ∧ ((with0 (hearing (.brk 0 false))).port 0).rf.state ≠ .seeking) := by decide

/-- A port whose quiet timer ends at a tick, with so many quiet items waiting. -/
def quieting (tick n : Nat) : State :=
  with0 { Port.reset with
    slu := { Slu.reset with quietEnd := some tick }
    ca := { Capture.reset with events := List.replicate n { position := 0, time := 0, action := .quiet } } }

theorem witness_QuietTimerHandsAQuietItem :
    (((quieting 36864 15).port 0).slu.quietEnd = some 36864
      ∧ 36864 ≤ ((quieting 36864 15).time.increments + 1) * 36864
      ∧ (((quieting 36864 15).port 0).ca.events.filter fun it => !it.action.always).length < 16)
    ∧ (((quieting 36865 0).port 0).slu.quietEnd = some 36865
      ∧ ((quieting 36865 0).time.increments + 1) * 36864 < 36865) := by decide

/-- A port in VERIFYING with a tally, a count of framing errors and of attempts. -/
def verifying (seen errors attempts : Nat) : State :=
  with0 { Port.reset with
    rf := { RateFinder.reset with
      state := .verifying, verifySeen := seen, verifyFraming := errors, attempts := attempts } }

theorem witness_RateFinderJudgesIntervals :
    (((seeking false [] (some 0)).port 0).slu.rx = .notDecoding
      ∧ ((seeking false [] (some 0)).port 0).slu.lineMark = false
      ∧ ((seeking false [] (some 0)).port 0).rf.interval = some 0)
    ∧ ((seeking false [] (some 0)).reachPhase 31).time.ticks - 0 < 32
    ∧ 32 ≤ ((seeking false (List.replicate 6 40) (some 0)).reachPhase 32).time.ticks - 0
    ∧ ((seeking false (List.replicate 6 40) (some 0)).port 0).rf.samples.length < 7
    ∧ ((seeking false (List.replicate 7 40) (some 0)).port 0).rf.samples.length = 7
    ∧ (((verifying 2 0 0).port 0).rf.state = .verifying ∧ ((verifying 2 0 0).port 0).pm.watch = 0
      ∧ ((verifying 2 0 0).port 0).pm.await = none ∧ ((verifying 2 0 0).port 0).ca.events = []
      ∧ ((verifying 2 0 0).port 0).exc.state ≠ .rateWait ∧ ((verifying 2 0 0).port 0).rf.verifySeen < 3)
    ∧ (3 ≤ ((verifying 3 1 1).port 0).rf.verifySeen
      ∧ ((verifying 3 1 1).port 0).rf.verifyFraming + 0 < 2
      ∧ 2 ≤ ((verifying 3 1 1).port 0).rf.verifyFraming + 1
      ∧ ((verifying 3 1 1).port 0).rf.attempts < 2 ∧ 2 ≤ ((verifying 3 1 2).port 0).rf.attempts)
    ∧ ((rating .failed .idle).port 0).rf.state = .failed ∧ RateFinder.reset.state = .fixed := by decide

theorem witness_PeriodsFollowRatesAndEstimates :
    (600 ≤ 600 ∧ 1152000 ≤ 1152000 ∧ 599 < 600 ∧ 1152000 < 1152001)
    ∧ (40 ∈ [61440, 30720, 15360, 7680, 3840, 1920, 960, 640, 320, 160, 80, 40]
      ∧ 100 * (if 38 ≤ 40 then 40 - 38 else 38 - 40) ≤ 6 * 40)
    ∧ (∀ q ∈ [61440, 30720, 15360, 7680, 3840, 1920, 960, 640, 320, 160, 80, 40],
      6 * q < 100 * (if 37 ≤ q then q - 37 else 37 - q)) := by decide

/-- The running part with pattern 1 the byte 41h, watched by port 0, whose only entry awaits a pattern. -/
def matching (await : Option PatternId) : State :=
  { with0 { sending .free .awaiting (some due) [entry .exchange] with
      pm := { PortMatch.reset with watch := 2, await := await } } with
    patterns := (Vector.replicate 32 none).set 1 (some [{ kind := .exact, value := 0x41 }]) }

/-- The running part with a port's capture and the byte 0Ah at the front of its FIFO. -/
def capturing (ca : Capture) (f : FreezeState) : State :=
  with0 { Port.reset with
    slu := { Slu.reset with fifo := [stored 0x0A] }
    ca := ca
    freeze := { Freeze.reset with state := f } }

/-- A record with so many bytes. -/
def record (n : Nat) : DataRecord :=
  { bytes := List.replicate n 0, framing := false, parity := false, matched := false, multiMatch := false,
    tag := 0xFF, time := 0, sequence := 0, errors := 0 }

theorem witness_PatternsCompleteAtTheirLastByte :
    ([1, 2] : List PatternId).Pairwise (· < ·)
    ∧ (((matching none).port 0).rf.state ≠ .verifying
      ∧ (1 : PatternId) ∈ ((matching none).port 0).pm.completedBy (matching none).patterns 0x41
      ∧ (∀ i, ((matching none).port 0).pm.await = some i →
          i ∉ ((matching none).port 0).pm.completedBy (matching none).patterns 0x41)
      ∧ ((((matching none).port 0).pm.completedBy (matching none).patterns 0x41).filter fun i =>
          ((matching none).port 0).pm.watch.getLsbD i.val).getLast? = some 1
      ∧ ((matching none).port 0).slu.fifo.length < 64 ∧ 64 ≤ ((listening 64).port 0).slu.fifo.length)
    ∧ (((matching (some 1)).port 0).pm.await = some 1
      ∧ (1 : PatternId) ∈ ((matching (some 1)).port 0).pm.completedBy (matching (some 1)).patterns 0x41
      ∧ ((matching (some 1)).port 0).exc.state = .awaiting
      ∧ ((matching (some 1)).port 0).queue = [entry .exchange]) := by
  decide

/-- A run of one byte lost to overrun. -/
def run1 : LossRun := { sequence := 0, count := 1, trigger := none }

/-- A TX record of slot 3 with one byte. -/
def sentRecord : TxRecord := { slot := 3, time := 0, bytes := [0x41] }

/-- The running part with a port's capture and no byte in its FIFO. -/
def meeting (ca : Capture) : State := with0 { Port.reset with ca := ca }

/-- A byte with a framing error that completed two watched patterns, 4 and another. -/
def noted : FifoEntry :=
  { stored 0x41 with framing := true, note := { count := 2, lowest := some 4, trigger := none } }

/-- A HISTORY port with an open record, about to meet that byte. -/
def meetingNoted (open? : Option DataRecord) : State :=
  with0 { Port.reset with
    slu := { Slu.reset with fifo := [noted] }
    ca := { Capture.reset with mode := .history, openData := open? } }

theorem witness_bytes_with_errors_and_matches :
    (noted.note.trigger = none ∧ noted.note.lowest = (if noted.note.count = 0 then none else some 4))
    ∧ LineSettings.reset.endCode ≠ noted.byte ∧ (record 238).bytes.length < 239
    ∧ 239 ≤ (record 239).bytes.length
    ∧ (∀ r ∈ [none, some (record 1)],
      ((meetingNoted r).port 0).slu.fifo = [noted] ∧ ((meetingNoted r).port 0).ca.openData = r
      ∧ ((meetingNoted r).port 0).freeze.state = .live ∧ (meetingNoted r).bus.control ≠ .off
      ∧ ((meetingNoted r).port 0).ca.settled = false ∧ 0 < (meetingNoted r).tsu.geometry.portCount) := by
  simp only [record, List.length_replicate]
  decide

/-- R120, R133: the record takes the framing flag, one error, both match flags and the lowest id. -/
theorem test_noted_byte_marks_its_record :
    DataRecord.add none noted
      = { bytes := [0x41], framing := true, parity := false, matched := true, multiMatch := true, tag := 4,
          time := noted.time, sequence := noted.sequence, errors := 1 } := by decide

/-- A pending gap at its greatest count. -/
def gap1 : PendingGap := { count := 4294967295, cause := .full, sequence := 0, time := 0 }

/-- A KEEP capture in FULL whose unit in hand awaits a fetch of the read mark. -/
def full : Capture :=
  { Capture.reset with
    mode := .keep, state := .full, fetch := .outstanding 7
    inHand := some { records := [.record (.mark .enabled 0 0 0)], passed := false } }

/-- A HISTORY port at receive count 6 with a byte, a loss run and an event item waiting at these positions. -/
def several (byte run item : Word) (action : ItemAction) : State :=
  with0 { Port.reset with
    slu := { Slu.reset with receiveCount := 6, fifo := [{ stored 0x41 with sequence := byte }] }
    ca := { Capture.reset with
      mode := .history
      lossRuns := [{ run1 with sequence := run }]
      events := [EventItem.mk item 0 action] } }

theorem witness_CaptureMeetsBytesInOrder :
    ((capturing Capture.reset .live).bus.control ≠ .off
      ∧ ((capturing Capture.reset .live).port 0).slu.fifo = [stored 0x0A]
      ∧ ((capturing Capture.reset .live).port 0).ca.mode = .off
      ∧ ((capturing Capture.reset .live).port 0).ca.events = []
      ∧ ((capturing Capture.reset .live).port 0).ca.inHand = none)
    ∧ (((capturing { Capture.reset with mode := .keep, settled := true } .live).port 0).ca.settled = true)
    ∧ (((capturing { Capture.reset with
          mode := .keep
          gap := some { count := 4294967295, cause := .frozen, sequence := 0, time := 0 } }
          .frozen).port 0).freeze.state = .frozen)
    ∧ (((capturing { Capture.reset with mode := .keep, openData := some (record 238) } .live).port
        0).ca.openData = some (record 238) ∧ (record 238).bytes.length < 239
      ∧ LineSettings.reset.endCode ≠ 0x41)
    ∧ (((capturing { Capture.reset with mode := .history, openData := some (record 1) } .live).port
        0).ca.openData = some (record 1)
      ∧ LineSettings.reset.endCodeEnable = true ∧ LineSettings.reset.endCode = (stored 0x0A).byte)
    ∧ (({ Capture.reset with lossRuns := [run1], runGrows := true } : Capture).lossRuns = [] ++ [run1]
      ∧ run1.sequence + BitVec.ofNat 32 run1.count = 1 ∧ Capture.reset.runGrows = false)
    ∧ (((meeting { Capture.reset with mode := .history, lossRuns := [run1] }).port 0).slu.fifo = []
      ∧ ((meeting { Capture.reset with mode := .history, lossRuns := [run1] }).port 0).ca.lossRuns = [run1]
      ∧ 0 < run1.count ∧ run1.trigger = none)
    ∧ ((meeting { Capture.reset with mode := .keep, agenda := [.loseRun run1 7] }).port 0).ca.agenda
      = [.loseRun run1 7]
    ∧ (({ Capture.reset with openTx := some sentRecord } : Capture).openTx = some sentRecord
      ∧ ({ sentRecord with bytes := List.replicate 239 0 } : TxRecord).bytes.length = 239
      ∧ ({ Capture.reset with txTaken := true } : Capture).txTaken = true)
    ∧ (((meeting { Capture.reset with mode := .history, events := [.mk 0 0 .settle] }).port 0).ca.events
        = [EventItem.mk 0 0 .settle]
      ∧ ItemAction.settle ≠ .freeze)
    ∧ (((several 0xFFFFFFFE 2 4 .quiet).port 0).slu.receiveCount = 6
      ∧ (6 - 2#32).toNat < (6 - 0xFFFFFFFE#32).toNat ∧ (6 - 4#32).toNat < (6 - 0xFFFFFFFE#32).toNat
      ∧ (6 - 2#32).toNat ≤ (6 - 2#32).toNat
      ∧ (∀ x ∈ ((several 0xFFFFFFFE 2 4 .quiet).port 0).ca.events, x.action ≠ .freeze)
      ∧ (∃ it ∈ ((several 0 1 4 .freeze).port 0).ca.events, it.action = .freeze)
      ∧ ((several 0 1 4 .quiet).port 0).ca.inHand = none
      ∧ ((meeting full).port 0).ca.inHand ≠ none) :=
  ⟨by decide, by decide, by decide,
    ⟨rfl, by simp only [record, List.length_replicate]; decide, by decide⟩, ⟨rfl, by decide, by decide⟩,
    by decide, by decide, by decide,
    ⟨rfl, by simp only [List.length_replicate], rfl⟩, by decide, by decide⟩

/-- R128, R150: behind a receive count of 6 the byte of FFFFFFFEh is met before the run of 2 and the item at 4, the
run before the byte, an item before the byte of its own position, and a freeze item before all of them. -/
theorem test_lowest_position_is_met_first :
    ((several 0xFFFFFFFE 2 4 .quiet).port 0).nextInput = some (.byte { stored 0x41 with sequence := 0xFFFFFFFE })
    ∧ ((several 3 2 4 .quiet).port 0).nextInput = some (.run { run1 with sequence := 2 })
    ∧ ((several 4 5 4 .quiet).port 0).nextInput = some (.item (.mk 4 0 .quiet))
    ∧ ((several 0 1 4 .freeze).port 0).nextInput = some (.item (.mk 4 0 .freeze)) := by decide

theorem witness_RecordsNeverCrossTheAreaEnd :
    (0 < 16 ∧ (∀ r ∈ [UnitRecord.record (.mark .enabled 0 0 0)], r.size ≤ 16)
      ∧ (∀ r ∈ [UnitRecord.record (.mark .enabled 0 0 0)], ∀ n, r ≠ .pad n))
    ∧ (0 + ([UnitRecord.record (.mark .enabled 0 0 0)].map UnitRecord.size).sum ≤ 4096
      ∧ 4096 < (4081#32 - 0).toNat + ([UnitRecord.record (.mark .enabled 0 0 0)].map UnitRecord.size).sum)
    ∧ (([UnitRecord.pad 16, .gap gap1, .record (.mark .enabled 0 0 0)].filter fun r =>
          ∀ n ∈ [16], r ≠ .pad n)
        = [gap1].map UnitRecord.gap ++ [.record (.mark .enabled 0 0 0)])
    ∧ (((meeting full).port 0).ca.fetch = .outstanding 7
      ∧ ((meeting full).port 0).ca.inHand
        = some { records := [.record (.mark .enabled 0 0 0)], passed := false }
      ∧ ((meeting full).port 0).ca.agenda = [] ∧ ((meeting full).port 0).ca.state = .full)
    ∧ (record 240).bytes.length ≤ 240 ∧ 127 < 128 ∧ gap1.count ≤ 4294967295 ∧ 16 ≤ 16 ∧ 240 ≤ 240 :=
  ⟨⟨by decide, by decide, by simp⟩, by decide, by decide, by decide,
    by simp only [record, List.length_replicate]; decide, by decide, by decide, by decide, by decide⟩

/-- A port whose published fields have changed. -/
def changed : Port := { Port.reset with status := { StatusWriter.reset with changed := true } }

theorem witness_StatusWritesFollowChanges :
    ((with0 changed).bus.control = .running ∧ 0 < (with0 changed).tsu.geometry.portCount
      ∧ ((with0 changed).port 0).status.finalIssued = false
      ∧ ((with0 changed).port 0).status.request = none ∧ ((with0 changed).port 0).status.changed = true
      ∧ ((with0 changed).port 0).status.lastWrite ≠ some (with0 changed).partTime)
    ∧ (((meeting { Capture.reset with settled := true }).port 0).ca.settled = true
      ∧ ((meeting { Capture.reset with settled := true }).port 0).ca.inHand = none
      ∧ ((meeting { Capture.reset with settled := true }).port 0).ca.agenda = [])
    ∧ (part .off).bus.control = .off ∧ (part .running).tsu.geometry.portCount ≤ 4
    ∧ (((part .running).port 0).status.changed = false ∧ ((part .running).port 0).ca.settled = false)
    ∧ ((settled true).port 0).status.finalIssued = true
    ∧ (61440 ≤ 61440 ∧ 32 ≤ 32 ∧ 8 ≤ 8 ∧ (-32768 : Int) ≤ -32768 ∧ (32767 : Int) < 32768
      ∧ 65535 ≤ 65535 ∧ 4294967295 ≤ 4294967295) := by
  decide

/-- The running part with a sense sweep at port 0 of 4, or with its timer alone. -/
def sensing (sweep : Option SenseSweep) (sense : PortSense) : State :=
  { with0 { Port.reset with sense := sense } with
    scanner := { Scanner.reset with timer := some due, sweep := sweep, scanPorts := 4 } }

/-- A PRESENT port one LOW sample short of ABSENT. -/
def leaving : PortSense := { level := 0, presence := .present, runClass := .low, runCount := 2 }

/-- An entry with REQUIRE_PRESENCE. -/
def required (k : TaskKind) : QueueEntry := { entry k with fields := { blank with flags := 2 } }

/-- The sense sweep at port 0, whose sample of 0 mV makes the port ABSENT while a task runs. -/
def losing (tx : Transmitter) (x : ExchangeState) (timer : Option Timer) (queue : List QueueEntry) : State :=
  { with0 { sending tx x timer queue with sense := leaving } with
    scanner := { Scanner.reset with
      timer := some due, sweep := some { startTick := 0, port := 0 }, scanPorts := 4 } }

/-- What every loss of presence of the statement asks of the state, for port 0. -/
def lossMet (s : State) : Bool :=
  s.scanner.sweep = some { startTick := 0, port := 0 } && 0 < s.scanner.scanPorts
    && 0 < s.tsu.geometry.portCount && 0 + (0 + 1) * 1475 ≤ (s.time.increments + 1) * 36864
    && s.bus.control = .running && (s.port 0).rf.state = .fixed && (s.port 0).ca.events = []
    && (s.port 0).sense.presence ≠ .absent
    && ((s.port 0).sense.sample s.scanner 2048).presence = .absent

theorem witness_losses_of_presence :
    (lossMet (losing .free .idle none []) = true ∧ ((losing .free .idle none []).port 0).queue = [])
    ∧ (lossMet (losing .free .awaiting (some due) [entry .exchange]) = true
      ∧ (entry .exchange).fields.flags.getLsbD 1 = false)
    ∧ (lossMet (losing (.character sent) .sending none [required .send]) = true
      ∧ ((losing (.character sent) .sending none [required .send]).port 0).exc.stopping = none
      ∧ (required .send).fields.flags.getLsbD 1 = true ∧ (required .send).kind ≠ .broadcast)
    ∧ (lossMet (losing .free .awaiting (some due) [required .exchange]) = true
      ∧ ((losing .free .awaiting (some due) [required .exchange]).port 0).exc.state = .awaiting)
    ∧ (lossMet (losing .free .sending none [required .send]) = true
      ∧ ((losing .free .sending none [required .send]).port 0).ca.openTx = none
      ∧ ((losing .free .sending none [required .send]).port 0).ca.txTaken = false)
    ∧ (lossMet (losing .breakSpace .breaking (some due) [required .brk]) = true
      ∧ ((losing .breakSpace .breaking (some due) [required .brk]).port 0).exc.timer = some due)
    ∧ (lossMet (losing (.breakGuard 4) .breaking none [required .brk]) = true
      ∧ ((losing (.breakGuard 4) .breaking none [required .brk]).port 0).slu.tx = .breakGuard 4)
    ∧ (lossMet (losing (.gap 4 true) .breaking none [required .brk]) = true
      ∧ ((losing (.gap 4 true) .breaking none [required .brk]).port 0).slu.tx = .gap 4 true) := by
  decide

/-- A break cut by a change to ABSENT leaves the line at MARK at once, with the change and the break as items. -/
theorem test_presence_loss_cuts_a_break :
    (match exec (.senseSampleDone 2048) (losing .breakSpace .breaking (some due) [required .brk]) with
      | .next t => ((t.port 0).slu.tx = .free ∧ (t.port 0).ca.events.map (·.action)
          = [.close [(.presenceDown, 0)], .close [(.breakTx, 0)]] : Bool)
      | _ => false) = true := by
  decide

theorem witness_SenseSamplesFollowTheirRules :
    ((sensing none PortSense.reset).scanner.sweep = none
      ∧ (sensing none PortSense.reset).scanner.timer = some due)
    ∧ Scanner.reset.absentMv ≤ Scanner.reset.presentMv
    ∧ ((sensing (some { startTick := 0, port := 0 }) PortSense.reset).scanner.sweep
        = some { startTick := 0, port := 0 }
      ∧ 0 < (sensing none PortSense.reset).scanner.scanPorts ∧ 0 + (0 + 1) * 1475 ≤ (0 + 1) * 36864
      ∧ (PortSense.reset.sample Scanner.reset 4095).presence = PortSense.reset.presence)
    ∧ (((sensing none { PortSense.reset with runClass := .high, runCount := 2 }).port 0).rf.state = .fixed
      ∧ (({ PortSense.reset with runClass := .high, runCount := 2 } : PortSense).sample Scanner.reset
          4095).presence = .present)
    ∧ (lossMet (losing (.character sent) .draining none [required .send]) = true
      ∧ ((losing (.character sent) .draining none [required .send]).port 0).slu.tx = .character sent) := by
  decide

theorem witness_LineAndWatchTakeTheirParameters :
    ({ blank with paramA := 9600 } : TaskFields).paramA ≠ 0 ∧ blank.paramA = 0
    ∧ ∀ edge silent, ((part .running).port 0).slu.rx ≠ .brk edge silent :=
  ⟨by decide, by decide, fun _ _ h => by
    have : ((part .running).port 0).slu.rx = .hunting := by decide
    rw [this] at h
    cases h⟩

/-- A port in HISTORY mode with a freeze. -/
def freezing (f : Freeze) (events : List EventItem) : Port :=
  { Port.reset with
    ca := { Capture.reset with mode := .history, events := events }
    freeze := f }

/-- A freeze whose count has come to 0, begun by pattern 5. -/
def counting : Freeze := { state := .counting, postCount := 9, remaining := 0, trigger := some 5 }

theorem witness_FreezeFollowsItsTrigger :
    ((freezing { Freeze.reset with postCount := 1 } []).freeze.state = .live
      ∧ 0 < (freezing { Freeze.reset with postCount := 1 } []).freeze.postCount
      ∧ (freezing Freeze.reset []).freeze.postCount = 0 ∧ (freezing Freeze.reset []).ca.mode ≠ .off
      ∧ (freezing Freeze.reset []).ca.settled = false ∧ (freezing Freeze.reset []).ca.gap = none)
    ∧ (freezing { Freeze.reset with state := .counting, remaining := 1 } []).freeze.remaining = 0 + 1
    ∧ (run1.count < 2 ∧ 1 ≤ run1.count
      ∧ ({ run1 with trigger := some (5, 0) } : LossRun).trigger = some (5, 0)
      ∧ run1.count < 0 + 1 + 1 ∧ 0 + 1 + 0 ≤ run1.count)
    ∧ (((with0 (freezing counting [EventItem.mk 0 0 .freeze])).port 0).ca.events
        = [EventItem.mk 0 0 .freeze]
      ∧ ((with0 (freezing counting [EventItem.mk 0 0 .freeze])).port 0).freeze.state = .counting
      ∧ ((with0 (freezing counting [EventItem.mk 0 0 .freeze])).port 0).freeze.trigger = some 5
      ∧ 0 + (placeRecords 4096 0 [.record (.mark .frozen 5 0 0)] |>.map UnitRecord.size).sum ≤ 4096)
    ∧ ((with0 (freezing { Freeze.reset with state := .frozen } [])).port 0).freeze.state = .frozen
    ∧ (((with0 (freezing Freeze.reset [EventItem.mk 0 0 (.thaw 3)])).port 0).ca.events
        = [EventItem.mk 0 0 (.thaw 3)]
      ∧ ((with0 (freezing Freeze.reset [EventItem.mk 0 0 (.thaw 3)])).port 0).ca.lossRuns = []) := by
  decide

/-- A broadcast of slot 3 with shares left. -/
def shares (left : Nat) : Broadcast :=
  { slot := 3, textLength := 5, notify := true, total := 2, left := left, nDrained := 0, sent := 0,
    refused := 0, drained := 0, characters := 0, start := none, cancelled := false, fault := false }

/-- R48: a share that loses presence once its 5 bytes are out adds none, one stopped after 4 bytes adds them. -/
theorem test_refused_share_counts_its_part :
    ((shares 2).note 0 .refused 0 0 5 false).characters = 0
      ∧ ((shares 2).note 0 .refused 0 0 4 false).characters = 4 := by decide

theorem witness_BroadcastCompletesWithItsLastShare :
    ∃ s : State, s.tsu.broadcasts = [shares 2] ∧ 1 < (shares 2).left ∧ (shares 1).left = 1
      ∧ (shares 1).cancelled = false ∧ (shares 1).nDrained < (shares 1).total
      ∧ (shares 1).fault = false :=
  ⟨{ State.reset with tsu := { Tsu.reset with broadcasts := [shares 2] } }, by decide⟩

/-- A port with a started head and an entry of slot 4 behind it. -/
def queued : Port :=
  sending .free .sending none [entry .send, { entry .send with slot := 4 }]

/-- The running part with slots 3 and 4 in flight, port 0 as given and the broadcasts given. -/
def aborting (v : Port) (broadcasts : List Broadcast) : State :=
  { with0 v with tsu := { (part .running).tsu with inFlight := [3, 4], broadcasts := broadcasts } }

theorem witness_cancels :
    (∀ v ∈ [sending (.character sent) .sending none [entry .send], sending .free .awaiting (some due) [entry .exchange],
        sending .free .sending none [entry .send], sending .breakSpace .breaking (some due) [entry .brk],
        sending (.breakGuard 4) .breaking none [entry .brk], sending (.gap 4 true) .breaking none [entry .brk]],
      3 ∈ (aborting v []).tsu.inFlight ∧ (aborting v []).tsu.broadcasts = []
      ∧ ((aborting v []).port 0).exc.state ≠ .idle ∧ ((aborting v []).port 0).exc.stopping = none
      ∧ (aborting v []).port 0 = v ∧ (∀ e ∈ v.queue, e.slot = 3 ∧ e.kind ≠ .broadcast)
      ∧ ∀ q : PortId, q ≠ 0 → ∀ x ∈ ((aborting v []).port q).queue, x.slot ≠ 3)
    ∧ (3 ∈ (aborting Port.reset []).tsu.inFlight
      ∧ ∀ q : PortId, ∀ x ∈ ((aborting Port.reset []).port q).queue, x.slot ≠ 3)
    ∧ (((aborting { Port.reset with
          queue := [entry .send], exc := { Exc.idle with state := .sending, stopping := some .lineLost } }
          []).port 0).exc.stopping ≠ none)
    ∧ (∀ tx ∈ [Transmitter.free, .character sent],
      (aborting (sending tx .sending none [entry .broadcast]) [shares 2]).tsu.broadcasts = [shares 2]
      ∧ (shares 2).slot = 3 ∧ 0 < (shares 2).total ∧ 1 < (shares 2).left
      ∧ ((aborting (sending tx .sending none [entry .broadcast]) [shares 2]).port 0).queue = [entry .broadcast])
    ∧ (((aborting (sending .free .awaiting none [{ entry .exchange with slot := 4 }, entry .broadcast])
          [shares 1]).port 0).exc.state ≠ .idle ∧ (shares 1).left = 1 ∧ (entry .broadcast).slot = (shares 1).slot)
    ∧ ([] : List Element).length ≤ 24 ∧ blank.textLength = 0 := by decide

/-- R17: outcome A is 2 where the target has started or has ended, 1 where it stands unstarted. -/
theorem test_outcome_of_an_abort :
    (aborting (sending .free .awaiting (some due) [entry .exchange]) []).abortOutcome 3 = 2
    ∧ (aborting Port.reset []).abortOutcome 3 = 2
    ∧ (aborting (sending .free .idle none [entry .exchange]) []).abortOutcome 3 = 1 := by decide

theorem witness_ImmediateKindsTakeEffect :
    ([5#8, 0].length % 2 = 0 ∧ [5#8, 0][2 * 0]? = some 5 ∧ 4 < (5#8).toNat)
    ∧ blank.paramA.toNat ∉ State.reset.tsu.inFlight
    ∧ ∃ s : State, 4 ∈ s.tsu.inFlight ∧ s.tsu.broadcasts = []
      ∧ (s.port 0).queue = [entry .send, { entry .send with slot := 4 }] ∧ (s.port 0).exc.state ≠ .idle
      ∧ (entry .send).slot ≠ 4 ∧ ({ blank with paramA := 4 } : TaskFields).paramA.toNat = 4
      ∧ (∀ q : PortId, q ≠ 0 → ∀ x ∈ (s.port q).queue, x.slot ≠ 4) :=
  ⟨by decide, by decide,
    { with0 queued with tsu := { (part .running).tsu with inFlight := [4] } }, by decide⟩

theorem witness_EveryStepKeepsTheBounds : ∃ s t : State, s.Safe ∧ step s = .next t := by
  refine ⟨part .running, _, ⟨fun p => ?_, ?_⟩, rfl⟩
  · have h : (part .running).port p = Port.reset := by simp [part, State.port, State.reset]
    rw [h]
    simp [Port.bounded, Port.listsBounded, Port.periodInRange, Port.countersBounded, Port.gapBounded,
      Port.reset, Slu.reset, LineSettings.reset, ErrorCounters.zero, Capture.reset, Capture.gapCount]
  · simp [State.linkBounded, part, State.reset, Hme.reset, Hme.queuedWrites]

/-- A state with every list of port 0 at its bound: 8 entries, 64 bytes. -/
theorem witness_bounds_are_reached :
    ∃ v : Port, v.queue.length = 8 ∧ v.slu.fifo.length = 64 ∧ 32 ≤ v.slu.line.period :=
  ⟨{ Port.reset with
      queue := List.replicate 8 (entry .send)
      slu := { Slu.reset with fifo := List.replicate 64 (stored 0) } }, by decide⟩

theorem witness_GuardFlagsLastUntilAHardReset :
    ∃ s t : State, exec .sweep s = .next t ∧ Instr.sweep ≠ .hardReset
      ∧ (s.port 0).guard.getLsbD 2 = true :=
  ⟨with0 { Port.reset with guard := 4 }, _, rfl, by decide, by decide⟩

theorem witness_PublishedChangesSetTheChangedFlag :
    Instr.holdIdleTimerExpiry 0 ≠ .hardReset ∧ Instr.holdIdleTimerExpiry 0 ≠ .softReset
    ∧ exec (.holdIdleTimerExpiry 0) (held due) = .next ((held due).holdExpires 0)
    ∧ (((held due).holdExpires 0).port 0).published ≠ ((held due).port 0).published :=
  ⟨by decide, by decide, rfl, by decide⟩

end Sys2Proof.Tests
end

section
/-! SUPPORT. The Task Sweep Unit's sweep: where a sweep starts and goes on, and what its moves leave unchanged; the
statements on sweep requests, the sweep timer and the taking of completions. -/

namespace Sys2Proof.Machine

/-! ### What the commands of the sweep mean -/

theorem exec_sweep (s : State) : exec .sweep s = .next s.requestSweep := rfl

theorem exec_sweepTimerExpiry (s : State) : exec .sweepTimerExpiry s = .next s.sweepTimerExpires := rfl

theorem exec_tsuTakeCompletion (s : State) : exec .tsuTakeCompletion s = .next s.takeOldest := rfl

/-- Tasks run in RUNNING and in DRAINING (R181). -/
theorem State.active_iff (s : State) :
    s.active = true ↔ s.bus.control = .running ∨ s.bus.control = .draining := by
  simp [State.active]

/-! ### The scan of the table (R7) -/

/-- The search passes over the slots in flight to the first that is not. -/
theorem Tsu.nextIndex_first {t : Tsu} {k : Nat} (inTable : k < t.geometry.slotCount) (free : k ∉ t.inFlight)
    (fuel i : Nat) (le : i ≤ k) (enough : k < i + fuel) (passed : ∀ j, i ≤ j → j < k → j ∈ t.inFlight) :
    t.nextIndex fuel i = some k := by
  induction fuel generalizing i with
  | zero => omega
  | succ fuel ih =>
    have inside : ¬ t.geometry.slotCount ≤ i := by omega
    rcases Nat.eq_or_lt_of_le le with rfl | lt
    · simp [Tsu.nextIndex, inside, free]
    · have busy : i ∈ t.inFlight := passed i le_rfl lt
      simpa [Tsu.nextIndex, inside, busy] using
        ih (i + 1) lt (by omega) fun j hj => passed j (by omega)

/-- The search finds nothing where every slot from its start on is in flight. -/
theorem Tsu.nextIndex_none {t : Tsu} (fuel i : Nat)
    (full : ∀ j, i ≤ j → j < t.geometry.slotCount → j ∈ t.inFlight) : t.nextIndex fuel i = none := by
  induction fuel generalizing i with
  | zero => rfl
  | succ fuel ih =>
    by_cases outside : t.geometry.slotCount ≤ i
    · simp [Tsu.nextIndex, outside]
    · have busy : i ∈ t.inFlight := full i le_rfl (by omega)
      simpa [Tsu.nextIndex, outside, busy] using ih (i + 1) fun j hj => full j (by omega)

theorem Tsu.scanFrom_first {t : Tsu} {i k : Nat} (le : i ≤ k) (inTable : k < t.geometry.slotCount)
    (free : k ∉ t.inFlight) (passed : ∀ j, i ≤ j → j < k → j ∈ t.inFlight) : t.scanFrom i = some k :=
  Tsu.nextIndex_first inTable free _ i le (by omega) passed

theorem Tsu.scanFrom_none {t : Tsu} {i : Nat}
    (full : ∀ j, i ≤ j → j < t.geometry.slotCount → j ∈ t.inFlight) : t.scanFrom i = none :=
  Tsu.nextIndex_none _ i full

/-! ### The start of a sweep (R4, R5, R6) -/

theorem State.beginSweep_of_some {s : State} {k : Nat} (requested : Bool) (h : s.tsu.scanFrom 0 = some k) :
    s.beginSweep requested = { s with tsu := { s.tsu with
      sweep := some (sweepAt requested k)
      timer := none
      pendingRequest := if requested then false else s.tsu.pendingRequest } } := by
  simp [State.beginSweep, h]

/-- A sweep that finds the table wholly in flight has ended with its start. -/
theorem State.beginSweep_of_none {s : State} (requested : Bool) (h : s.tsu.scanFrom 0 = none) :
    (s.beginSweep requested).tsu.sweep = none
      ∧ (s.beginSweep requested).tsu.pendingRequest = if requested then false else s.tsu.pendingRequest := by
  simp [State.beginSweep, h, State.sweepIdle]

/-- A sweep with a slot to read runs from its start on. -/
theorem State.startSweep_of_some {s : State} {k : Nat} (requested : Bool) (h : s.tsu.scanFrom 0 = some k) :
    s.startSweep requested = s.beginSweep requested := by
  simp [State.startSweep, s.beginSweep_of_some requested h]

theorem State.startSweep_requested_of_none {s : State} (h : s.tsu.scanFrom 0 = none) :
    s.startSweep true = s.beginSweep true := by
  simp [State.startSweep, s.beginSweep_of_none true h]

/-- A sweep that runs after its start has disarmed the timer, and cleared the flag where it was requested. -/
theorem State.beginSweep_running {s : State} {requested : Bool} {w : Sweep}
    (h : (s.beginSweep requested).tsu.sweep = some w) :
    (s.beginSweep requested).tsu.timer = none
      ∧ (w.requested = true → (s.beginSweep requested).tsu.pendingRequest = false) := by
  cases scan : s.tsu.scanFrom 0 with
  | none => simp [s.beginSweep_of_none requested scan] at h
  | some k =>
    rw [s.beginSweep_of_some requested scan] at h ⊢
    obtain rfl : sweepAt requested k = w := Option.some.inj h
    exact ⟨rfl, fun isRequested => if_pos isRequested⟩

theorem State.startSweep_running {s : State} {requested : Bool} {w : Sweep}
    (h : (s.startSweep requested).tsu.sweep = some w) :
    (s.startSweep requested).tsu.timer = none
      ∧ (w.requested = true → (s.startSweep requested).tsu.pendingRequest = false) := by
  unfold State.startSweep at h ⊢
  dsimp only at h ⊢
  split
  · next again =>
    rw [if_pos again] at h
    exact State.beginSweep_running h
  · next once =>
    rw [if_neg once] at h
    exact State.beginSweep_running h

/-! ### Requests (R4) -/

theorem State.requestSweep_starts {s : State} (active : s.bus.control = .running ∨ s.bus.control = .draining)
    (idle : s.tsu.sweep = none) : s.requestSweep = s.startSweep true := by
  simp [State.requestSweep, s.active_iff.2 active, idle]

theorem State.requestSweep_waits {s : State} (h : s.active = false ∨ s.tsu.sweep.isSome = true) :
    s.requestSweep = { s with tsu := { s.tsu with pendingRequest := true } } := by
  rcases h with h | h
  · simp [State.requestSweep, h]
  · simp [State.requestSweep, Option.isNone_eq_false_iff.2 h]

/-- A write of CONTROL with none of ENABLE, STOP and SOFT_RESET set is a sweep request or nothing (R177). -/
theorem State.writeControl_sweep {s : State} {v : Word} (enable : v.getLsbD 0 = false)
    (stop : v.getLsbD 1 = false) (reset : v.getLsbD 3 = false) :
    s.writeControl v = if v.getLsbD 2 then s.requestSweep else s := by
  simp only [State.writeControl, enable, stop, reset, Bool.false_eq_true, if_false]

/-- Settles O19: the start of a sweep is the scan from index 0, and a request waits wherever none can start. -/
theorem sweepRequestsStartOrWait : Obligations.SweepRequestsStartOrWait := by
  refine ⟨?_, ?_, ?_, ?_, ?_, ?_⟩
  · intro v s enable stop reset
    have write : exec (.registerWrite .control 4 v) s = .next (s.writeControl v) := rfl
    rw [write, State.writeControl_sweep enable stop reset, exec_sweep]
    split <;> rfl
  · intro s k active idle inTable free passed
    have scan : s.tsu.scanFrom 0 = some k :=
      Tsu.scanFrom_first (Nat.zero_le k) inTable free fun j _ => passed j
    rw [exec_sweep, State.requestSweep_starts active idle, State.startSweep_of_some true scan,
      State.beginSweep_of_some true scan]
    rfl
  · intro s active idle full
    have scan : s.tsu.scanFrom 0 = none := Tsu.scanFrom_none fun j _ => full j
    obtain ⟨ended, cleared⟩ := State.beginSweep_of_none true scan
    refine ⟨s.beginSweep true, ?_, ended, cleared⟩
    rw [exec_sweep, State.requestSweep_starts active idle, State.startSweep_requested_of_none scan]
  · intro s _ running
    rw [exec_sweep, State.requestSweep_waits (.inr running)]
  · intro s resting
    have inactive : s.active = false := by
      rcases resting with h | h <;> simp [State.active, h]
    rw [exec_sweep, State.requestSweep_waits (.inl inactive)]
  · intro s requested w running
    exact State.startSweep_running running

/-! ### The sweep timer (R5) -/

/-- A timer has expired once its increment has been taken (R66). -/
theorem State.expired_some (s : State) (tm : Timer) :
    s.expired (some tm) = decide (tm.armedAt + tm.span ≤ s.time.increments) := rfl

theorem State.sweepTimerExpires_starts {s : State}
    (active : s.bus.control = .running ∨ s.bus.control = .draining) (idle : s.tsu.sweep = none)
    (expired : s.expired s.tsu.timer = true) : s.sweepTimerExpires = s.startSweep false := by
  simp [State.sweepTimerExpires, s.active_iff.2 active, idle, expired]

theorem State.sweepTimerExpires_same {s : State} (h : s.expired s.tsu.timer = false) :
    s.sweepTimerExpires = s := by
  simp [State.sweepTimerExpires, h]

/-- Settles O20: an expired timer starts the scan from index 0, one that runs or is not armed nothing. -/
theorem sweepTimerStartsATimedSweep : Obligations.SweepTimerStartsATimedSweep := by
  refine ⟨?_, ?_, ?_⟩
  · intro s tm k active idle armed reached inTable free passed
    have scan : s.tsu.scanFrom 0 = some k :=
      Tsu.scanFrom_first (Nat.zero_le k) inTable free fun j _ => passed j
    have expired : s.expired s.tsu.timer = true := by
      rw [armed, State.expired_some]
      exact decide_eq_true reached
    rw [exec_sweepTimerExpiry, State.sweepTimerExpires_starts active idle expired,
      State.startSweep_of_some false scan, State.beginSweep_of_some false scan]
    rfl
  · intro s tm armed early
    have running : s.expired s.tsu.timer = false := by
      rw [armed, State.expired_some]
      exact decide_eq_false (Nat.not_le.2 early)
    rw [exec_sweepTimerExpiry, State.sweepTimerExpires_same running]
  · intro s unarmed
    have running : s.expired s.tsu.timer = false := by
      rw [unarmed]
      rfl
    rw [exec_sweepTimerExpiry, State.sweepTimerExpires_same running]

/-! ### Completions (R22, R23) -/

theorem State.takeOldest_takes {s : State} {c : Completion} {rest : List Completion}
    (oldest : s.tsu.completions = c :: rest) (free : s.tsu.writes = []) :
    s.takeOldest = s.takeCompletion c := by
  simp [State.takeOldest, oldest, free]

theorem State.takeOldest_waits {s : State} (h : s.tsu.completions = [] ∨ s.tsu.writes ≠ []) :
    s.takeOldest = s := by
  unfold State.takeOldest
  split
  · next c rest oldest free => simp [oldest, free] at h
  · rfl

/-- Settles O24: the oldest completion's two writes are those that its slot's address and its fields give. -/
theorem completionsAreTakenInOrder : Obligations.CompletionsAreTakenInOrder := by
  refine ⟨?_, ?_⟩
  · intro s c rest oldest free
    rw [exec_tsuTakeCompletion, State.takeOldest_takes oldest free, State.takeCompletion, oldest, free]
    rfl
  · intro s waits
    rw [exec_tsuTakeCompletion, State.takeOldest_waits waits]

end Sys2Proof.Machine
end

section
/-! SUPPORT. Slots in hand: what the sweep's moves leave unchanged, the writes that complete a slot, and the checks
of a slot; the statement on refused slots. -/

namespace Sys2Proof.Machine

/-! ### What the sweep's moves leave unchanged (R6, R7) -/

/-- A start of a sweep changes the sweep, its timer and the pending request alone. -/
theorem State.beginSweep_frame (s : State) (requested : Bool) : ∃ sweep timer pending,
    s.beginSweep requested = { s with tsu := { s.tsu with
      sweep := sweep, timer := timer, pendingRequest := pending } } := by
  cases scan : s.tsu.scanFrom 0 with
  | some k => exact ⟨_, _, _, s.beginSweep_of_some requested scan⟩
  | none =>
    refine ⟨none, (s.beginSweep requested).tsu.timer, if requested then false else s.tsu.pendingRequest, ?_⟩
    simp [State.beginSweep, scan, State.sweepIdle]

/-- Going on to the next slot changes the sweep, its timer and the pending request alone. -/
theorem State.sweepOn_frame (s : State) (requested : Bool) (i : Nat) : ∃ sweep timer pending,
    s.sweepOn requested i = { s with tsu := { s.tsu with
      sweep := sweep, timer := timer, pendingRequest := pending } } := by
  unfold State.sweepOn
  split
  · exact ⟨_, _, _, rfl⟩
  · unfold State.endSweep
    split
    · exact s.beginSweep_frame true
    · exact ⟨_, _, _, rfl⟩

@[simp] theorem State.sweepOn_bus (s : State) (requested : Bool) (i : Nat) :
    (s.sweepOn requested i).bus = s.bus := by
  obtain ⟨_, _, _, h⟩ := s.sweepOn_frame requested i
  rw [h]

@[simp] theorem State.sweepOn_ports (s : State) (requested : Bool) (i : Nat) :
    (s.sweepOn requested i).ports = s.ports := by
  obtain ⟨_, _, _, h⟩ := s.sweepOn_frame requested i
  rw [h]

@[simp] theorem State.sweepOn_inFlight (s : State) (requested : Bool) (i : Nat) :
    (s.sweepOn requested i).tsu.inFlight = s.tsu.inFlight := by
  obtain ⟨_, _, _, h⟩ := s.sweepOn_frame requested i
  rw [h]

@[simp] theorem State.sweepOn_writes (s : State) (requested : Bool) (i : Nat) :
    (s.sweepOn requested i).tsu.writes = s.tsu.writes := by
  obtain ⟨_, _, _, h⟩ := s.sweepOn_frame requested i
  rw [h]

@[simp] theorem State.sweepOn_broadcasts (s : State) (requested : Bool) (i : Nat) :
    (s.sweepOn requested i).tsu.broadcasts = s.tsu.broadcasts := by
  obtain ⟨_, _, _, h⟩ := s.sweepOn_frame requested i
  rw [h]

/-! ### Little-endian fields (R186) -/

/-- A field holds a number modulo its size. -/
theorem leBytes_mod (n v : Nat) : leBytes n (v % 256 ^ n) = leBytes n v := by
  induction n generalizing v with
  | zero => rfl
  | succ n ih =>
    have low : BitVec.ofNat 8 (v % 256 ^ (n + 1)) = BitVec.ofNat 8 v := by
      apply BitVec.eq_of_toNat_eq
      simp
    have high : v % 256 ^ (n + 1) / 256 = v / 256 % 256 ^ n := by
      rw [pow_succ', Nat.mod_mul_right_div_self]
    rw [leBytes, leBytes, low, high, ih]

/-- The bytes of a number as a 32-bit word are those of the number. -/
@[simp] theorem leBytes_ofNat32 (v : Nat) : leBytes 4 (BitVec.ofNat 32 v).toNat = leBytes 4 v := by
  rw [BitVec.toNat_ofNat]
  exact leBytes_mod 4 v

/-- A number of one byte in a field of four. -/
theorem leBytes_small {v : Nat} (h : v < 256) : leBytes 4 v = [BitVec.ofNat 8 v, 0, 0, 0] := by
  simp [leBytes, Nat.div_eq_of_lt h]

/-! ### The writes that complete a slot (R12, R23) -/

/-- The TSU's own completion of a slot requests the two writes and waits for them. -/
theorem State.completeSlot_eq (s : State) (w : Sweep) (c : Completion) :
    s.completeSlot w c = { s with tsu := { s.tsu with
      writes := s.tsu.writes ++ c.writes s.tsu.geometry
      sweep := some { w with stage := .writing } } } := by
  simp [State.completeSlot, State.slotDone, State.queueWrites, State.sweepStage, Completion.writes]

/-- A completion of the slot in hand, with no attempts, bytes or match, gives the writes of `slotCompleted`. -/
theorem State.writes_slotCompleted (s : State) (w : Sweep) {c : Completion}
    (hc : c = { s.unbegun w.index c.notify c.code with
      startTime := c.startTime, outcomeA := c.outcomeA, outcomeB := c.outcomeB }) :
    s.tsu.writes ++ c.writes s.tsu.geometry = (s.slotCompleted w (BitVec.ofNat 8 c.code.code) c.startTime
      c.outcomeA.toNat c.outcomeB.toNat c.notify).tsu.writes := by
  rw [hc]
  simp [State.slotCompleted, Completion.writes, Completion.resultBytes, State.unbegun, leBytes,
    Geometry.slotAddress, addrPlus]

theorem State.completeSlot_slotCompleted (s : State) (w : Sweep) {c : Completion}
    (hc : c = { s.unbegun w.index c.notify c.code with
      startTime := c.startTime, outcomeA := c.outcomeA, outcomeB := c.outcomeB }) :
    s.completeSlot w c = s.slotCompleted w (BitVec.ofNat 8 c.code.code) c.startTime
      c.outcomeA.toNat c.outcomeB.toNat c.notify := by
  rw [s.completeSlot_eq, s.writes_slotCompleted w hc]
  rfl

/-- The outcomes of `slotCompleted` count modulo 2^32, as their fields do. -/
theorem State.slotCompleted_ofNat (s : State) (w : Sweep) (code : Byte) (start : Word) (a b : Nat) (notify : Bool) :
    s.slotCompleted w code start (BitVec.ofNat 32 a).toNat (BitVec.ofNat 32 b).toNat notify
      = s.slotCompleted w code start a b notify := by
  simp only [State.slotCompleted, leBytes_ofNat32]

/-- Outcomes of one byte and of 0, written out. -/
theorem State.slotCompleted_small (s : State) (w : Sweep) (code : Byte) (start : Word) {a : Nat} (notify : Bool)
    (h : a < 256) : s.slotCompleted w code start a 0 notify = { s with tsu := { s.tsu with
      writes := s.tsu.writes ++
        [ { address := addrPlus s.tsu.geometry.tableAddress (64 * w.index) + 40
            bytes := [code, 0, 0, 0, 0, 0, 0, 0] ++ leBytes 4 start.toNat ++ leBytes 4 s.partTime.toNat
              ++ [BitVec.ofNat 8 a, 0, 0, 0, 0, 0, 0, 0]
            raisesTask := false },
          { address := addrPlus s.tsu.geometry.tableAddress (64 * w.index)
            bytes := [3]
            raisesTask := notify } ]
      sweep := some { w with stage := .writing } } } := by
  simp [State.slotCompleted, leBytes_small h, leBytes_small (v := 0)]

/-- A refused slot is completed BAD_TASK with its reason (R12). -/
theorem State.refuseSlot_eq (s : State) (w : Sweep) (t : TaskSlot) (reason : Nat) :
    s.refuseSlot w t reason = s.slotCompleted w 6 s.partTime reason 0 (t.fields.flags.getLsbD 0) := by
  rw [State.refuseSlot, s.completeSlot_slotCompleted w rfl]
  exact s.slotCompleted_ofNat w 6 s.partTime reason 0 _

/-! ### Kinds and their codes (R190) -/

/-- The code of a kind. -/
def TaskKind.code : TaskKind → Nat
  | .send => 1 | .exchange => 2 | .brk => 3 | .line => 4 | .hold => 5 | .release => 6 | .watch => 7
  | .thaw => 8 | .guard => 9 | .broadcast => 10 | .abort => 16 | .pattern => 17 | .sense => 18

theorem TaskKind.code_of_ofCode {n : Nat} {k : TaskKind} (h : TaskKind.ofCode n = some k) : n = k.code := by
  unfold TaskKind.ofCode at h
  split at h <;> cases h <;> rfl

theorem TaskKind.ofCode_isSome {n : Nat} (h : n ∈ [1, 2, 3, 4, 5, 6, 7, 8, 9, 10, 16, 17, 18]) :
    ∃ k, TaskKind.ofCode n = some k := by
  simp only [List.mem_cons, List.not_mem_nil, or_false] at h
  rcases h with rfl | rfl | rfl | rfl | rfl | rfl | rfl | rfl | rfl | rfl | rfl | rfl | rfl <;> exact ⟨_, rfl⟩

theorem TaskKind.code_mem (k : TaskKind) : k.code ∈ [1, 2, 3, 4, 5, 6, 7, 8, 9, 10, 16, 17, 18] := by
  cases k <;> decide

/-! ### The checks of a slot, by the code of its kind (R11) -/

theorem TaskKind.portChecked_iff (k : TaskKind) :
    k.portChecked = true ↔ k.code ∈ [1, 2, 3, 4, 5, 6, 7, 8, 9] := by
  cases k <;> decide

theorem TaskKind.textRefused_iff (k : TaskKind) (length : Nat) :
    k.textRefused length = true
      ↔ (k.code ∈ [1, 2, 10] ∧ 1024 < length) ∨ (k.code = 10 ∧ length = 0) := by
  cases k <;> simp [TaskKind.textRefused, TaskKind.code, or_comm]

/-- The pattern named is one of the table's 32 entries, and is undefined. -/
theorem undefinedPattern_iff (table : Vector (Option (List Element)) 32) {id : Nat} (h : id ≤ 31) :
    (table[Fin.ofNat 32 id]).isNone = true ↔ ∃ i : PatternId, i.val = id ∧ table[i] = none := by
  rw [Option.isNone_iff_eq_none]
  constructor
  · intro undefined
    exact ⟨_, Nat.mod_eq_of_lt (by omega), undefined⟩
  · rintro ⟨i, rfl, undefined⟩
    simpa using undefined

theorem TaskKind.patternRefused_iff (k : TaskKind) (table : Vector (Option (List Element)) 32) (id : Nat) :
    k.patternRefused table id = true
      ↔ (k.code ∈ [2, 17] ∧ 31 < id) ∨ (k.code = 2 ∧ ∃ i : PatternId, i.val = id ∧ table[i] = none) := by
  cases k
  case exchange =>
    by_cases h : 31 < id
    · simp [TaskKind.patternRefused, TaskKind.code, h]
    · have := undefinedPattern_iff table (Nat.not_lt.1 h)
      simp_all [TaskKind.patternRefused, TaskKind.code]
  all_goals simp [TaskKind.patternRefused, TaskKind.code]

theorem memberPorts_isEmpty_iff (f : TaskFields) (portCount : Nat) :
    (memberPorts f portCount).isEmpty = true
      ↔ ∀ p : PortId, p.val < portCount → f.paramA.getLsbD p.val = false := by
  simp only [memberPorts, List.isEmpty_iff, List.filter_eq_nil_iff, List.mem_finRange, true_implies,
    Bool.and_eq_true, decide_eq_true_eq, not_and', Bool.not_eq_true]

theorem TaskKind.eq_broadcast_iff (k : TaskKind) : k = .broadcast ↔ k.code = 10 := by
  cases k <;> decide

theorem TaskKind.eq_abort_iff (k : TaskKind) : k = .abort ↔ k.code = 16 := by
  cases k <;> decide

theorem TaskKind.eq_pattern_iff (k : TaskKind) : k = .pattern ↔ k.code = 17 := by
  cases k <;> decide

/-- The number of the first check that a slot of a known kind code fails, in the order of the reasons, or 0 (R11). -/
def State.failedCheck (s : State) (code : Nat) (t : TaskSlot) : Nat :=
  if code ∈ [1, 2, 3, 4, 5, 6, 7, 8, 9] ∧ s.tsu.geometry.portCount ≤ t.port then 2
  else if (code ∈ [1, 2, 10] ∧ 1024 < t.fields.textLength) ∨ (code = 10 ∧ t.fields.textLength = 0) then 3
  else if (code ∈ [2, 17] ∧ 31 < t.fields.patternId)
      ∨ (code = 2 ∧ ∃ i : PatternId, i.val = t.fields.patternId ∧ s.patterns[i] = none) then 4
  else if code = 10 ∧ ∀ p : PortId, p.val < s.tsu.geometry.portCount →
      t.fields.paramA.getLsbD p.val = false then 5
  else if code = 16 ∧ s.tsu.geometry.slotCount ≤ t.fields.paramA.toNat then 6
  else if code = 17 ∧ (t.fields.textLength % 2 = 1 ∨ 48 < t.fields.textLength) then 7
  else 0

/-- The refusal of a slot is its first failed check. -/
theorem State.refusal_eq_failedCheck (s : State) (k : TaskKind) (t : TaskSlot) :
    s.refusal k t = if s.failedCheck k.code t = 0 then none else some (s.failedCheck k.code t) := by
  unfold State.refusal State.failedCheck
  simp only [Bool.and_eq_true, Bool.or_eq_true, decide_eq_true_eq, k.portChecked_iff, k.textRefused_iff,
    k.patternRefused_iff, memberPorts_isEmpty_iff, k.eq_broadcast_iff, k.eq_abort_iff, k.eq_pattern_iff,
    Nat.mod_two_not_eq_zero, ne_eq]
  split_ifs <;> simp_all

theorem State.failedCheck_le (s : State) (code : Nat) (t : TaskSlot) : s.failedCheck code t ≤ 7 := by
  unfold State.failedCheck
  split_ifs <;> omega

/-! ### Slots in hand (R8, R10) -/

theorem isPosted_iff (b : Byte) : isPosted b = true ↔ b = 1 := decide_eq_true_iff

/-- A slot that is not POSTED is left. -/
theorem State.wholeSlot_unposted {s : State} {t : TaskSlot} (w : Sweep) (h : t.stateByte ≠ 1) :
    s.wholeSlot w t = s.sweepOn w.requested (w.index + 1) := by
  have unposted : isPosted t.stateByte = false := Bool.eq_false_iff.2 fun posted => h ((isPosted_iff _).1 posted)
  simp [State.wholeSlot, unposted, State.slotLeft]

/-- In DRAINING a slot of a kind other than ABORT is left (R10). -/
theorem State.wholeSlot_draining {s : State} {t : TaskSlot} (w : Sweep) (draining : s.bus.control = .draining)
    (notAbort : t.kindCode ≠ 16) : s.wholeSlot w t = s.sweepOn w.requested (w.index + 1) := by
  have kind : TaskKind.ofCode t.kindCode ≠ some .abort := fun h => notAbort (TaskKind.code_of_ofCode h)
  simp [State.wholeSlot, draining, kind, State.slotLeft]

/-- A POSTED slot is validated in RUNNING, and an ABORT in DRAINING too (R8, R10). -/
theorem State.wholeSlot_posted {s : State} {t : TaskSlot} (w : Sweep)
    (taken : s.bus.control = .running ∨ (s.bus.control = .draining ∧ t.kindCode = 16))
    (posted : t.stateByte = 1) : s.wholeSlot w t = s.validateSlot w t := by
  have isPosted := (isPosted_iff t.stateByte).2 posted
  rcases taken with running | ⟨_, abort⟩
  · simp [State.wholeSlot, isPosted, running]
  · have kind : TaskKind.ofCode t.kindCode = some .abort := by rw [abort]; rfl
    simp [State.wholeSlot, isPosted, kind]

/-- A slot of a known kind is refused with its first failed check, or carried out (R11). -/
theorem State.validateSlot_known {s : State} {t : TaskSlot} {k : TaskKind} (w : Sweep)
    (kind : TaskKind.ofCode t.kindCode = some k) :
    s.validateSlot w t = if s.failedCheck t.kindCode t = 0 then s.carryOut w k t
      else s.refuseSlot w t (s.failedCheck t.kindCode t) := by
  rw [TaskKind.code_of_ofCode kind]
  simp only [State.validateSlot, kind, s.refusal_eq_failedCheck k t]
  split
  · next eq => split at eq <;> simp_all
  · next eq => split at eq <;> simp_all

/-- Settles O21: the model's chain of checks is the obligation's, read by the codes of the kinds. -/
theorem refusedSlotsAreCompletedBadTask : Obligations.RefusedSlotsAreCompletedBadTask := by
  refine ⟨?_, ?_, ?_⟩
  · intro s w t reason taken posted first
    rw [State.wholeSlot_posted w taken posted]
    by_cases known : t.kindCode ∈ [1, 2, 3, 4, 5, 6, 7, 8, 9, 10, 16, 17, 18]
    · rw [if_neg (not_not.2 known)] at first
      replace first : reason = s.failedCheck t.kindCode t := first
      obtain ⟨k, kind⟩ := TaskKind.ofCode_isSome known
      rw [State.validateSlot_known w kind, ← first]
      constructor
      · intro failed
        have small : reason < 256 := by
          have := s.failedCheck_le t.kindCode t
          omega
        rw [if_neg failed, State.refuseSlot_eq, State.slotCompleted_small _ _ _ _ _ small]
      · intro passed
        exact ⟨k, kind, if_pos passed⟩
    · rw [if_pos known] at first
      subst first
      have unknown : TaskKind.ofCode t.kindCode = none := by
        rw [Option.eq_none_iff_forall_ne_some]
        intro k kind
        exact known (TaskKind.code_of_ofCode kind ▸ k.code_mem)
      refine ⟨fun _ => ?_, fun h => absurd h one_ne_zero⟩
      rw [State.validateSlot, unknown, State.refuseSlot_eq, State.slotCompleted_small _ _ _ _ _ (by decide)]
  · intro s w t draining notAbort
    exact State.wholeSlot_draining w draining notAbort
  · intro s w t unposted
    exact State.wholeSlot_unposted w unposted

end Sys2Proof.Machine
end

section
/-! SUPPORT. Admission: the placing of entries, the taking of a head that has started and of a SEND that starts at
once, and what a slot that is admitted or left changes; the statement on admissions. -/

namespace Sys2Proof.Machine

/-! ### Entries (R13, R26) -/

theorem Port.started_iff (v : Port) : v.started = true ↔ v.exc.state ≠ .idle := decide_eq_true_iff

theorem Port.hasRoom_iff (v : Port) : v.hasRoom = true ↔ v.queue.length < 8 := decide_eq_true_iff

@[simp] theorem State.addEntry_port_same (s : State) (p : PortId) (e : QueueEntry) :
    (s.addEntry p e).port p = (s.port p).noting
      { s.port p with queue := placeEntry (s.port p).started e (s.port p).queue } := by
  simp [State.addEntry]

theorem State.addEntry_port_ne (s : State) {p q : PortId} (e : QueueEntry) (h : q ≠ p) :
    (s.addEntry p e).port q = s.port q := s.port_modPort_ne _ h

@[simp] theorem State.admitted_port (s : State) (slot : Nat) (p : PortId) :
    (s.admitted slot).port p = s.port p := rfl

/-- An entry added to each of several ports: each of them has it, and no other port has changed. -/
theorem State.foldl_addEntry_port {members : List PortId} (e : QueueEntry) (distinct : members.Nodup) (s : State)
    (q : PortId) : (members.foldl (fun s p => s.addEntry p e) s).port q =
      if q ∈ members then (s.port q).noting
        { s.port q with queue := placeEntry (s.port q).started e (s.port q).queue }
      else s.port q := by
  induction members generalizing s with
  | nil => simp
  | cons p rest ih =>
    obtain ⟨fresh, distinct⟩ := List.nodup_cons.1 distinct
    rw [List.foldl_cons, ih distinct]
    by_cases h : q = p
    · subst h
      simp [fresh]
    · simp [h, s.addEntry_port_ne e h]

theorem State.foldl_addEntry_tsu (members : List PortId) (e : QueueEntry) (s : State) :
    (members.foldl (fun s p => s.addEntry p e) s).tsu = s.tsu := by
  induction members generalizing s with
  | nil => rfl
  | cons p rest ih => exact ih _

/-! ### Heads (R27, R28) -/

/-- A port whose head has started takes none. -/
theorem State.serveQueue_started {s : State} {p : PortId} (h : (s.port p).started = true) :
    s.serveQueue p = s := by
  unfold State.serveQueue
  cases (s.port p).queue.length with
  | zero => rfl
  | succ n =>
    unfold State.takeHeads
    split
    · rfl
    · rw [if_pos h]

/-- A port with nothing queued takes none. -/
theorem State.serveQueue_empty {s : State} {p : PortId} (h : (s.port p).queue = []) : s.serveQueue p = s := by
  simp [State.serveQueue, h, State.takeHeads]

theorem State.foldl_serveQueue_started {members : List PortId} {s : State}
    (h : ∀ p ∈ members, (s.port p).started = true) :
    members.foldl (fun s p => s.serveQueue p) s = s := by
  induction members with
  | nil => rfl
  | cons p rest ih =>
    rw [List.foldl_cons, State.serveQueue_started (h p List.mem_cons_self)]
    exact ih fun q hq => h q (List.mem_cons_of_mem p hq)

@[simp] theorem Hold.onStart_owner (h : Hold) (originator : BitVec 4) :
    (h.onStart originator).owner = h.owner := by
  unfold Hold.onStart
  split <;> rfl

/-- A SEND of a port with no guard, hold, absence or rate search against it (R28). -/
structure Port.sendPasses (v : Port) (f : TaskFields) : Prop where
  guard : v.guard.getLsbD 2 = false
  hold : v.hold.owner = none ∨ v.hold.owner = some f.originator
  presence : f.flags.getLsbD 1 = false ∨ v.sense.presence ≠ .absent
  mode : v.slu.line.mode = .fixed

/-- The head checks look at the guard, the owner, the presence and the rate alone, so a start does not change them. -/
theorem Port.sendPasses_headCheck {v : Port} {e : QueueEntry} (send : e.kind = .send)
    (passes : v.sendPasses e.fields) : v.headCheck e = none := by
  obtain ⟨guard, hold, presence, _⟩ := passes
  have unheld : v.hold.against e.fields.originator = false := by
    rcases hold with h | h <;> simp [Hold.against, h]
  have heard : (e.fields.requirePresence && decide (v.sense.presence = .absent)) = false := by
    rcases presence with h | h
    · rw [TaskFields.requirePresence, h, Bool.false_and]
    · simp [h]
  have unguarded : v.guardRefuses e = false := by
    simp only [Port.guardRefuses, send, Port.noSend, guard]
  simp [Port.headCheck, unguarded, unheld, heard, send]

/-! ### The start of a sending (R27, R30) -/

@[simp] theorem State.startEntry_tsu (s : State) (p : PortId) (e : QueueEntry) :
    (s.startEntry p e).tsu = s.tsu := rfl

@[simp] theorem State.startEntry_port_same (s : State) (p : PortId) (e : QueueEntry) :
    (s.startEntry p e).port p = (s.port p).noting { s.port p with
      exc := { Exc.idle with startTime := s.partTime }
      hold := (s.port p).hold.onStart e.fields.originator } := by
  simp [State.startEntry]

theorem State.startEntry_port_ne (s : State) {p q : PortId} (e : QueueEntry) (h : q ≠ p) :
    (s.startEntry p e).port q = s.port q := s.port_modPort_ne _ h

@[simp] theorem State.stopFetch_tsu (s : State) (p : PortId) : (s.stopFetch p).tsu = s.tsu := by
  simp [State.stopFetch]

@[simp] theorem State.stopFetch_port_same (s : State) (p : PortId) :
    (s.stopFetch p).port p = (s.port p).noting
      { s.port p with slu := { (s.port p).slu with staging := [], textRead := none } } := by
  simp [State.stopFetch]

theorem State.stopFetch_port_ne (s : State) {p q : PortId} (h : q ≠ p) :
    (s.stopFetch p).port q = s.port q := by
  simp [State.stopFetch, State.port_modPort_ne _ _ h]

@[simp] theorem State.enterSending_tsu (s : State) (p : PortId) : (s.enterSending p).tsu = s.tsu := by
  simp [State.enterSending]

@[simp] theorem State.enterSending_queue (s : State) (p : PortId) :
    ((s.enterSending p).port p).queue = (s.port p).queue := by
  simp [State.enterSending]

@[simp] theorem State.enterSending_hold (s : State) (p : PortId) :
    ((s.enterSending p).port p).hold = (s.port p).hold := by
  simp [State.enterSending]

@[simp] theorem State.enterSending_exc (s : State) (p : PortId) :
    ((s.enterSending p).port p).exc = { (s.port p).exc with state := .sending, timer := none } := by
  simp [State.enterSending]

@[simp] theorem State.enterSending_slu (s : State) (p : PortId) :
    ((s.enterSending p).port p).slu
      = { (s.port p).slu with staging := [], fetchOffset := 0, textRead := none } := by
  simp [State.enterSending]

theorem State.enterSending_port_ne (s : State) {p q : PortId} (h : q ≠ p) :
    (s.enterSending p).port q = s.port q := by
  simp [State.enterSending, State.port_modPort_ne _ _ h, State.stopFetch_port_ne _ h]

/-- The first attempt of a SEND that starts: counted, and sent from its first byte (R27, R30, R35). -/
def State.sendStarted (s : State) (p : PortId) (e : QueueEntry) : State :=
  ((s.startEntry p e).modPort p fun v =>
    { v with exc := { v.exc with attempts := v.exc.attempts + 1 } }).enterSending p

/-- A SEND that has come to the head of an idle port and passes its checks starts at once. -/
theorem State.serveQueue_send {s : State} {p : PortId} {e : QueueEntry} (alone : (s.port p).queue = [e])
    (idle : (s.port p).exc.state = .idle) (send : e.kind = .send) (text : 0 < e.fields.textLength)
    (passes : (s.port p).sendPasses e.fields) : s.serveQueue p = s.sendStarted p e := by
  have unstarted : (s.port p).started = false := by simp [Port.started, idle]
  have begun : ((s.startEntry p e).port p).sendPasses e.fields := by
    obtain ⟨guard, hold, presence, mode⟩ := passes
    constructor <;> simpa
  have found : ((s.startEntry p e).port p).rateUnfound = false := by
    simp [Port.rateUnfound, passes.mode]
  have checked := Port.sendPasses_headCheck send begun
  have work : (s.startEntry p e).work p e = (s.sendStarted p e, none) := by
    simp [State.work, send, State.beginAttempt, text, State.sendStarted]
  simp only [State.serveQueue, alone, List.length_singleton, State.takeHeads, unstarted, checked, found, work,
    Bool.and_false, Bool.false_eq_true, if_false]

theorem State.sendStarted_exc (s : State) (p : PortId) (e : QueueEntry) :
    ((s.sendStarted p e).port p).exc =
      { state := .sending, attempts := 1, bytesSent := 0, startTime := s.partTime, timer := none,
        stopping := none } := by
  simp [State.sendStarted, Exc.idle]

theorem State.sendStarted_slu (s : State) (p : PortId) (e : QueueEntry) :
    ((s.sendStarted p e).port p).slu
      = { (s.port p).slu with staging := [], fetchOffset := 0, textRead := none } := by
  simp [State.sendStarted]

theorem State.sendStarted_queue (s : State) (p : PortId) (e : QueueEntry) :
    ((s.sendStarted p e).port p).queue = (s.port p).queue := by
  simp [State.sendStarted]

/-- The idle timer of the originator's own hold is disarmed (R55). -/
theorem State.sendStarted_hold (s : State) (p : PortId) (e : QueueEntry) :
    ((s.sendStarted p e).port p).hold = (s.port p).hold.restarted e.fields.originator none := by
  simp [State.sendStarted, Hold.onStart, Hold.restarted]

theorem State.sendStarted_port_ne (s : State) {p q : PortId} (e : QueueEntry) (h : q ≠ p) :
    (s.sendStarted p e).port q = s.port q := by
  simp [State.sendStarted, State.enterSending_port_ne _ h, State.port_modPort_ne _ _ h,
    State.startEntry_port_ne _ _ h]

@[simp] theorem State.sendStarted_tsu (s : State) (p : PortId) (e : QueueEntry) :
    (s.sendStarted p e).tsu = s.tsu := by
  simp [State.sendStarted]

/-! ### Slots admitted and slots left (R3, R13) -/

@[simp] theorem State.sweepStage_port (s : State) (w : Sweep) (stage : SweepStage) (p : PortId) :
    (s.sweepStage w stage).port p = s.port p := rfl

@[simp] theorem State.sweepStage_completions (s : State) (w : Sweep) (stage : SweepStage) :
    (s.sweepStage w stage).tsu.completions = s.tsu.completions := rfl

@[simp] theorem State.sweepStage_broadcasts (s : State) (w : Sweep) (stage : SweepStage) :
    (s.sweepStage w stage).tsu.broadcasts = s.tsu.broadcasts := rfl

/-- The sweep waits for the writes of a slot that has any. -/
theorem State.slotDone_waits {s : State} (w : Sweep) (h : s.tsu.writes ≠ []) :
    s.slotDone w = s.sweepStage w .writing := by
  simp [State.slotDone, h]

/-- A slot whose TAKEN is to be written, and whose index is in flight, has been taken. -/
theorem State.slotTaken_of {s t : State} {w : Sweep}
    (inFlight : t.tsu.inFlight = s.tsu.inFlight ++ [w.index])
    (writes : t.tsu.writes = s.tsu.writes ++ [takenWrite s.tsu.geometry w.index]) :
    t.slotDone w = t.sweepStage w .writing ∧ s.slotTaken w (t.sweepStage w .writing) := by
  refine ⟨State.slotDone_waits w (by simp [writes]), inFlight, ?_, rfl⟩
  exact writes

theorem State.slotLeftPosted_slotLeft (s : State) (w : Sweep) : s.slotLeftPosted w (s.slotLeft w) :=
  ⟨rfl, by simp [State.slotLeft], by simp [State.slotLeft], by simp [State.slotLeft], by simp [State.slotLeft]⟩

/-- A POSTED slot that fails no check is carried out as its kind in RUNNING. -/
theorem State.wholeSlot_carriedOut {s : State} {t : TaskSlot} {k : TaskKind} (w : Sweep)
    (running : s.bus.control = .running) (posted : t.stateByte = 1) (kind : TaskKind.ofCode t.kindCode = some k)
    (passed : s.failedCheck t.kindCode t = 0) : s.wholeSlot w t = s.carryOut w k t := by
  rw [State.wholeSlot_posted w (.inl running) posted, State.validateSlot_known w kind, if_pos passed]

/-- A SEND for a port in use, of a text that fits, fails no check. -/
theorem State.wholeSlot_send {s : State} {t : TaskSlot} {p : PortId} (w : Sweep)
    (running : s.bus.control = .running) (posted : t.stateByte = 1) (send : t.kindCode = 1)
    (port : t.port = p.val) (inUse : p.val < s.tsu.geometry.portCount) (text : t.fields.textLength ≤ 1024) :
    s.wholeSlot w t = s.admitTask w .send t := by
  have passed : s.failedCheck t.kindCode t = 0 := by
    simp [State.failedCheck, send, port, Nat.not_le.2 inUse, Nat.not_lt.2 text]
  rw [State.wholeSlot_carriedOut w running posted (by rw [send]; rfl) passed]
  rfl

/-- A BROADCAST with a member, of a text that fits, fails no check. -/
theorem State.wholeSlot_broadcast {s : State} {t : TaskSlot} (w : Sweep)
    (running : s.bus.control = .running) (posted : t.stateByte = 1) (broadcast : t.kindCode = 10)
    (members : memberPorts t.fields s.tsu.geometry.portCount ≠ []) (nonempty : 0 < t.fields.textLength)
    (text : t.fields.textLength ≤ 1024) : s.wholeSlot w t = s.admitBroadcast w t := by
  have member : ¬ ∀ p : PortId, p.val < s.tsu.geometry.portCount → t.fields.paramA.getLsbD p.val = false := by
    rw [← memberPorts_isEmpty_iff]
    simpa using members
  have passed : s.failedCheck t.kindCode t = 0 := by
    unfold State.failedCheck
    rw [broadcast, if_neg (by simp), if_neg (by simp; omega), if_neg (by simp), if_neg (by simpa using member),
      if_neg (by simp), if_neg (by simp)]
  rw [State.wholeSlot_carriedOut w running posted (by rw [broadcast]; rfl) passed]
  rfl

/-! ### The admission of a SEND and of a BROADCAST (R13, R14) -/

/-- The entry of a SEND, placed on its port with the slot taken. -/
def State.sendPlaced (s : State) (w : Sweep) (t : TaskSlot) (p : PortId) : State :=
  (s.admitted w.index).addEntry p { slot := w.index, kind := .send, fields := t.fields }

theorem State.admitTask_send_room {s : State} {t : TaskSlot} {p : PortId} (w : Sweep) (port : t.port = p.val)
    (room : (s.port p).queue.length < 8) :
    s.admitTask w .send t = ((s.sendPlaced w t p).serveQueue p).slotDone w := by
  have same : Fin.ofNat 24 t.port = p := by rw [port]; exact Fin.ofNat_val_eq_self p
  simp only [State.admitTask, same, (Port.hasRoom_iff _).2 room, if_true]
  rfl

theorem State.admitTask_send_full {s : State} {t : TaskSlot} {p : PortId} (w : Sweep) (port : t.port = p.val)
    (full : 8 ≤ (s.port p).queue.length) : s.admitTask w .send t = s.slotLeft w := by
  have same : Fin.ofNat 24 t.port = p := by rw [port]; exact Fin.ofNat_val_eq_self p
  have noRoom : ¬ (s.port p).hasRoom = true := fun h => by
    have := (Port.hasRoom_iff _).1 h
    omega
  rw [State.admitTask, same, if_neg noRoom]

theorem State.sendPlaced_port_ne (s : State) (w : Sweep) (t : TaskSlot) {p q : PortId} (h : q ≠ p) :
    (s.sendPlaced w t p).port q = s.port q := by
  simp [State.sendPlaced, State.addEntry_port_ne _ _ h]

@[simp] theorem State.sendPlaced_port (s : State) (w : Sweep) (t : TaskSlot) (p : PortId) :
    (s.sendPlaced w t p).port p = (s.port p).noting { s.port p with
      queue := placeEntry (s.port p).started { slot := w.index, kind := .send, fields := t.fields }
        (s.port p).queue } := by
  simp [State.sendPlaced]

theorem State.sendPlaced_tsu (s : State) (w : Sweep) (t : TaskSlot) (p : PortId) :
    (s.sendPlaced w t p).tsu = (s.admitted w.index).tsu := rfl

/-- A slot admitted with nothing else changed in the TSU has been taken. -/
theorem State.slotTaken_admitted {s t : State} {w : Sweep} (h : t.tsu = (s.admitted w.index).tsu) :
    t.slotDone w = t.sweepStage w .writing ∧ s.slotTaken w (t.sweepStage w .writing) :=
  State.slotTaken_of (by rw [h]; rfl) (by rw [h]; rfl)

/-- A SEND behind a started head: placed by its key, and the head goes on. -/
theorem State.admitTask_send_behind {s : State} {t : TaskSlot} {p : PortId} (w : Sweep) {head : QueueEntry}
    {rest : List QueueEntry} (port : t.port = p.val) (queue : (s.port p).queue = head :: rest)
    (started : (s.port p).exc.state ≠ .idle) (room : rest.length < 7) {u : State}
    (hu : s.admitTask w .send t = u) :
    (u.port p).queue = head :: placeByKey { slot := w.index, kind := .send, fields := t.fields } rest
      ∧ (u.port p).exc = (s.port p).exc ∧ s.slotTaken w u ∧ u.tsu.completions = s.tsu.completions
      ∧ u.hme = s.hme ∧ s.sameElsewhere p u := by
  have going := (Port.started_iff _).2 started
  have placedGoing : ((s.sendPlaced w t p).port p).started = true := by
    simpa [Port.started_iff] using started
  obtain ⟨done, taken⟩ := State.slotTaken_admitted (s.sendPlaced_tsu w t p)
  rw [State.admitTask_send_room w port (by rw [queue, List.length_cons]; omega),
    State.serveQueue_started placedGoing, done] at hu
  subst hu
  refine ⟨?_, by simp, taken, rfl, rfl, fun q hq => s.sendPlaced_port_ne w t hq⟩
  simp [going, queue, placeEntry]

/-- A SEND for an idle port with nothing queued: it is the head, and starts where it passes its checks. -/
theorem State.admitTask_send_idle {s : State} {t : TaskSlot} {p : PortId} (w : Sweep) (port : t.port = p.val)
    (queue : (s.port p).queue = []) (idle : (s.port p).exc.state = .idle) (text : 0 < t.fields.textLength)
    (passes : (s.port p).sendPasses t.fields) {u : State} (hu : s.admitTask w .send t = u) :
    (u.port p).queue = [{ slot := w.index, kind := .send, fields := t.fields }]
      ∧ (u.port p).exc =
        { state := .sending, attempts := 1, bytesSent := 0, startTime := s.partTime, timer := none,
          stopping := none }
      ∧ (u.port p).slu = { (s.port p).slu with staging := [], fetchOffset := 0, textRead := none }
      ∧ (u.port p).hold = (s.port p).hold.restarted t.fields.originator none
      ∧ s.slotTaken w u ∧ u.tsu.completions = s.tsu.completions ∧ s.sameElsewhere p u := by
  have placed : ((s.sendPlaced w t p).port p).queue
      = [{ slot := w.index, kind := .send, fields := t.fields }] := by
    simp [Port.started, idle, queue, placeEntry, placeByKey]
  have placedPasses : ((s.sendPlaced w t p).port p).sendPasses t.fields := by
    obtain ⟨guard, hold, presence, mode⟩ := passes
    constructor <;> simpa
  have serve := State.serveQueue_send placed (by simpa using idle) rfl text placedPasses
  obtain ⟨done, taken⟩ := State.slotTaken_admitted
    (t := (s.sendPlaced w t p).sendStarted p { slot := w.index, kind := .send, fields := t.fields }) (w := w)
    (by rw [State.sendStarted_tsu, State.sendPlaced_tsu])
  rw [State.admitTask_send_room w port (by simp [queue]), serve, done] at hu
  subst hu
  refine ⟨?_, ?_, ?_, ?_, taken, by simp [State.sendPlaced_tsu, State.admitted], fun q hq => ?_⟩
  · rw [State.sweepStage_port, State.sendStarted_queue, placed]
  · rw [State.sweepStage_port, State.sendStarted_exc]
    rfl
  · rw [State.sweepStage_port, State.sendStarted_slu]
    simp
  · rw [State.sweepStage_port, State.sendStarted_hold]
    simp
  · rw [State.sweepStage_port, State.sendStarted_port_ne _ _ hq, State.sendPlaced_port_ne _ _ _ hq]

/-- What the TSU notes of a BROADCAST at its admission (R14, R47). -/
def TaskSlot.assembly (t : TaskSlot) (slot shares : Nat) : Broadcast :=
  { slot := slot, textLength := t.fields.textLength, notify := t.fields.notify, total := shares, left := shares,
    nDrained := 0, sent := 0, refused := 0, drained := 0, characters := 0, start := none, cancelled := false,
    fault := false }

/-- The slot of a BROADCAST taken, its assembly noted, and no share placed yet. -/
def State.broadcastNoted (s : State) (w : Sweep) (t : TaskSlot) (shares : Nat) : State :=
  { s.admitted w.index with tsu := { (s.admitted w.index).tsu with
    broadcasts := s.tsu.broadcasts ++ [t.assembly w.index shares] } }

/-- The shares of a BROADCAST placed on its member ports. -/
def State.broadcastPlaced (s : State) (w : Sweep) (t : TaskSlot) (members : List PortId) : State :=
  members.foldl (fun s p => s.addEntry p { slot := w.index, kind := .broadcast, fields := t.fields })
    (s.broadcastNoted w t members.length)

theorem State.admitBroadcast_room {s : State} {t : TaskSlot} {members : List PortId} (w : Sweep)
    (hm : memberPorts t.fields s.tsu.geometry.portCount = members)
    (room : ∀ p ∈ members, (s.port p).queue.length < 8) :
    s.admitBroadcast w t
      = (members.foldl (fun s p => s.serveQueue p) (s.broadcastPlaced w t members)).slotDone w := by
  have allRoom : (members.all fun p => (s.port p).hasRoom) = true :=
    List.all_eq_true.2 fun p hp => (Port.hasRoom_iff _).2 (room p hp)
  simp only [State.admitBroadcast, hm, allRoom, if_true]
  rfl

theorem State.admitBroadcast_full {s : State} {t : TaskSlot} (w : Sweep)
    (full : ∃ p ∈ memberPorts t.fields s.tsu.geometry.portCount, 8 ≤ (s.port p).queue.length) :
    s.admitBroadcast w t = s.slotLeft w := by
  obtain ⟨p, member, queue⟩ := full
  have noRoom : ¬ ((memberPorts t.fields s.tsu.geometry.portCount).all fun p => (s.port p).hasRoom) = true :=
    fun h => by
      have := (Port.hasRoom_iff _).1 (List.all_eq_true.1 h p member)
      omega
  simp only [State.admitBroadcast, if_neg noRoom]

theorem State.broadcastPlaced_port {members : List PortId} (s : State) (w : Sweep) (t : TaskSlot)
    (distinct : members.Nodup) (p : PortId) : (s.broadcastPlaced w t members).port p =
      if p ∈ members then (s.port p).noting { s.port p with
        queue := placeEntry (s.port p).started { slot := w.index, kind := .broadcast, fields := t.fields }
          (s.port p).queue }
      else s.port p :=
  State.foldl_addEntry_port _ distinct (s.broadcastNoted w t members.length) p

theorem State.broadcastPlaced_tsu (s : State) (w : Sweep) (t : TaskSlot) (members : List PortId) :
    (s.broadcastPlaced w t members).tsu = (s.broadcastNoted w t members.length).tsu :=
  State.foldl_addEntry_tsu _ _ _

/-- A BROADCAST on ports whose heads have started: a share behind each head, and one assembly noted. -/
theorem State.admitBroadcast_behind {s : State} {t : TaskSlot} {members : List PortId} (w : Sweep)
    (hm : memberPorts t.fields s.tsu.geometry.portCount = members)
    (heads : ∀ p ∈ members, (s.port p).exc.state ≠ .idle) (room : ∀ p ∈ members, (s.port p).queue.length < 8)
    {u : State} (hu : s.admitBroadcast w t = u) :
    (∀ p ∈ members, ∀ head rest, (s.port p).queue = head :: rest →
        (u.port p).queue = head :: placeByKey { slot := w.index, kind := .broadcast, fields := t.fields } rest
        ∧ (u.port p).exc = (s.port p).exc)
      ∧ (∀ p, p ∉ members → u.port p = s.port p)
      ∧ s.slotTaken w u ∧ u.tsu.broadcasts = s.tsu.broadcasts ++ [t.assembly w.index members.length] := by
  have distinct : members.Nodup := hm ▸ (List.nodup_finRange 24).filter _
  have port := s.broadcastPlaced_port w t distinct
  have started : ∀ p ∈ members, ((s.broadcastPlaced w t members).port p).started = true := by
    intro p hp
    simpa [port, hp, Port.started_iff] using heads p hp
  obtain ⟨done, taken⟩ := State.slotTaken_of (s := s) (t := s.broadcastPlaced w t members) (w := w)
    (by rw [State.broadcastPlaced_tsu]; rfl) (by rw [State.broadcastPlaced_tsu]; rfl)
  rw [State.admitBroadcast_room w hm room, State.foldl_serveQueue_started started,
    done] at hu
  subst hu
  refine ⟨?_, ?_, taken, ?_⟩
  · intro p hp head rest queue
    have going := (Port.started_iff _).2 (heads p hp)
    simp [port, hp, going, queue, placeEntry]
  · intro p hp
    simp [port, hp]
  · rw [State.sweepStage_broadcasts, State.broadcastPlaced_tsu]
    rfl

/-- Settles O22: by what an admission places, and by the heads, which have started or start now. -/
theorem admissionNeedsRoomInTheQueue : Obligations.AdmissionNeedsRoomInTheQueue := by
  refine ⟨?_, ?_, ?_⟩
  · intro s w t p head rest running posted send port inUse text queue started
    rw [State.wholeSlot_send w running posted send port inUse text]
    constructor
    · intro room
      exact State.admitTask_send_behind w port queue started room rfl
    · intro full
      rw [State.admitTask_send_full w port (by rw [queue, List.length_cons]; omega)]
      exact s.slotLeftPosted_slotLeft w
  · intro s w t p running posted send port inUse nonempty text queue idle guard hold presence mode
    rw [State.wholeSlot_send w running posted send port inUse text]
    exact State.admitTask_send_idle w port queue idle nonempty ⟨guard, hold, presence, mode⟩ rfl
  · intro s w t members hm running posted broadcast member nonempty text
    replace hm : memberPorts t.fields s.tsu.geometry.portCount = members := hm.symm
    rw [State.wholeSlot_broadcast w running posted broadcast (hm ▸ member) nonempty text]
    constructor
    · intro waiting
      obtain ⟨placed, others, taken, noted⟩ := State.admitBroadcast_behind w hm
        (fun p hp => (waiting p hp).1) (fun p hp => (waiting p hp).2.2) rfl
      exact ⟨placed, others, taken, _, noted, rfl, rfl, rfl, rfl⟩
    · intro full
      rw [State.admitBroadcast_full w (hm ▸ full)]
      exact s.slotLeftPosted_slotLeft w

end Sys2Proof.Machine
end

section
/-! SUPPORT. The end of a port's only task and the stop of a sending: what closing a TX record, stopping a fetch and
leaving the head change, and what the TSU is handed. -/

namespace Sys2Proof.Machine

/-! ### Changes of one port's capture (R130, R135) -/

/-- Only the capture assembler of one port, and its status writer's flag, may differ. -/
structure State.onlyCapture (s : State) (p : PortId) (t : State) : Prop where
  beside : t = { s with ports := t.ports }
  elsewhere : s.sameElsewhere p t
  own : t.port p = { s.port p with ca := (t.port p).ca, status := (t.port p).status }

theorem State.onlyCapture.refl (s : State) (p : PortId) : s.onlyCapture p s := ⟨rfl, fun _ _ => rfl, rfl⟩

theorem State.onlyCapture.trans {s t u : State} {p : PortId} (st : s.onlyCapture p t) (tu : t.onlyCapture p u) :
    s.onlyCapture p u := by
  refine ⟨?_, fun q hq => (tu.elsewhere q hq).trans (st.elsewhere q hq), ?_⟩
  · calc
      u = { t with ports := u.ports } := tu.beside
      _ = { s with ports := u.ports } := by rw [st.beside]
  · rw [tu.own, st.own]

theorem State.onlyCapture.tsu {s t : State} {p : PortId} (h : s.onlyCapture p t) : t.tsu = s.tsu := by rw [h.beside]

theorem State.onlyCapture.hme {s t : State} {p : PortId} (h : s.onlyCapture p t) : t.hme = s.hme := by rw [h.beside]

theorem State.onlyCapture.time {s t : State} {p : PortId} (h : s.onlyCapture p t) : t.time = s.time := by
  rw [h.beside]

theorem State.onlyCapture.bus {s t : State} {p : PortId} (h : s.onlyCapture p t) : t.bus = s.bus := by rw [h.beside]

theorem State.onlyCapture.attention {s t : State} {p : PortId} (h : s.onlyCapture p t) :
    t.attention = s.attention := by rw [h.beside]

theorem State.onlyCapture.queue {s t : State} {p : PortId} (h : s.onlyCapture p t) :
    (t.port p).queue = (s.port p).queue := by rw [h.own]

theorem State.onlyCapture.exc {s t : State} {p : PortId} (h : s.onlyCapture p t) :
    (t.port p).exc = (s.port p).exc := by rw [h.own]

theorem State.onlyCapture.slu {s t : State} {p : PortId} (h : s.onlyCapture p t) :
    (t.port p).slu = (s.port p).slu := by rw [h.own]

theorem State.onlyCapture_modPort (s : State) (p : PortId) (f : Port → Capture) :
    s.onlyCapture p (s.modPort p fun v => { v with ca := f v }) := by
  refine ⟨rfl, fun q hq => s.port_modPort_ne _ hq, ?_⟩
  rw [State.port_modPort_same]
  rcases Port.noting_eq (s.port p) { s.port p with ca := f (s.port p) } with h | h <;> rw [h]

theorem State.onlyCapture_handItem (s : State) (p : PortId) (a : ItemAction) :
    s.onlyCapture p (s.handItem p a) := by
  unfold State.handItem
  split
  · exact s.onlyCapture_modPort p _
  · exact .refl s p

theorem State.onlyCapture_closeTxRecord (s : State) (p : PortId) : s.onlyCapture p (s.closeTxRecord p) := by
  unfold State.closeTxRecord
  split
  · exact .refl s p
  · exact (s.onlyCapture_modPort p _).trans (State.onlyCapture_handItem _ p _)

/-- The end of a sending touches its port's capture alone. -/
theorem State.onlyCapture_closeTx (s : State) (p : PortId) : s.onlyCapture p (s.closeTx p) := by
  unfold State.closeTx
  split
  · exact ((s.onlyCapture_modPort p _).trans (State.onlyCapture_handItem _ p _)).trans
      (State.onlyCapture_closeTxRecord _ p)
  · exact s.onlyCapture_closeTxRecord p

/-! ### The stop of a sending (R30, R84) -/

@[simp] theorem State.stopFetch_time (s : State) (p : PortId) : (s.stopFetch p).time = s.time := by
  simp [State.stopFetch]

@[simp] theorem State.stopFetch_bus (s : State) (p : PortId) : (s.stopFetch p).bus = s.bus := by
  simp [State.stopFetch]

@[simp] theorem State.stopFetch_attention (s : State) (p : PortId) :
    (s.stopFetch p).attention = s.attention := by
  simp [State.stopFetch]

/-- With no text read outstanding there is none to discard. -/
theorem State.stopFetch_hme {s : State} {p : PortId} (h : (s.port p).slu.textRead = none) :
    (s.stopFetch p).hme = s.hme := by
  simp [State.stopFetch, h, State.discardRead]

theorem State.onlyCapture_stopSending (s : State) (p : PortId) :
    (s.stopFetch p).onlyCapture p (s.stopSending p) := State.onlyCapture_closeTx _ p

/-! ### The end of a port's only task (R27) -/

/-- The only entry has left its queue: the controller is IDLE, and the hold record has heard of the end. -/
def State.headLeft (s : State) (p : PortId) (e : QueueEntry) : State :=
  s.modPort p fun v =>
    { v with queue := [], exc := Exc.idle, hold := v.hold.onEnd e.fields.originator s.arm }

/-- The completion of a task that ends now, with the counts and the start time of its controller. -/
def State.headCompletion (s : State) (p : PortId) (e : QueueEntry) (fin : TaskEnd) : Completion :=
  { slot := e.slot, notify := e.fields.notify, code := fin.code, attempts := (s.port p).exc.attempts,
    bytesSent := (s.port p).exc.bytesSent, matchSequence := fin.matchSequence,
    startTime := (s.port p).exc.startTime, endTime := s.partTime, outcomeA := fin.outcomeA,
    outcomeB := fin.outcomeB }

@[simp] theorem State.headLeft_tsu (s : State) (p : PortId) (e : QueueEntry) : (s.headLeft p e).tsu = s.tsu := rfl

@[simp] theorem State.headLeft_hme (s : State) (p : PortId) (e : QueueEntry) : (s.headLeft p e).hme = s.hme := rfl

@[simp] theorem State.headLeft_bus (s : State) (p : PortId) (e : QueueEntry) : (s.headLeft p e).bus = s.bus := rfl

@[simp] theorem State.headLeft_attention (s : State) (p : PortId) (e : QueueEntry) :
    (s.headLeft p e).attention = s.attention := rfl

@[simp] theorem State.headLeft_port_same (s : State) (p : PortId) (e : QueueEntry) :
    (s.headLeft p e).port p = (s.port p).noting { s.port p with
      queue := [], exc := Exc.idle, hold := (s.port p).hold.onEnd e.fields.originator s.arm } := by
  simp [State.headLeft]

theorem State.headLeft_port_ne (s : State) {p q : PortId} (e : QueueEntry) (h : q ≠ p) :
    (s.headLeft p e).port q = s.port q := s.port_modPort_ne _ h

/-- The only task of a port, no share, ends: its completion is handed, and no head follows. -/
theorem State.endTask_only {s : State} {p : PortId} {e : QueueEntry} (queue : (s.port p).queue = [e])
    (task : e.kind ≠ .broadcast) (fin : TaskEnd) :
    s.endTask p fin = (s.headLeft p e).handCompletion (s.headCompletion p e fin) := by
  have left : s.finishHead p fin = (s.headLeft p e).handCompletion (s.headCompletion p e fin) := by
    simp only [State.finishHead, queue, if_neg task]
    rfl
  rw [State.endTask, left, State.serveQueue_empty (by simp)]

/-- The end of a share is noted in the TSU alone (R47). -/
@[simp] theorem State.shareEnds_ports (s : State) (p : PortId) (slot : Nat) (set : ShareSet) (start : Word)
    (characters : Nat) (fault : Bool) : (s.shareEnds p slot set start characters fault).ports = s.ports := by
  unfold State.shareEnds
  split
  · rfl
  · dsimp only
    split <;> rfl

@[simp] theorem State.shareEnds_port (s : State) (p : PortId) (slot : Nat) (set : ShareSet) (start : Word)
    (characters : Nat) (fault : Bool) (q : PortId) :
    (s.shareEnds p slot set start characters fault).port q = s.port q := by
  simp [State.port]

/-- The only share of a port ends: its end is handed for its slot. -/
theorem State.endTask_onlyShare {s : State} {p : PortId} {e : QueueEntry} (queue : (s.port p).queue = [e])
    (share : e.kind = .broadcast) (fin : TaskEnd) :
    s.endTask p fin = (s.headLeft p e).shareEnds p e.slot
      (shareSet fin.code (e.fields.textLength ≤ (s.port p).exc.bytesSent)) (s.port p).exc.startTime
      (s.port p).exc.bytesSent (fin.code = .memoryFault) := by
  have left : s.finishHead p fin = (s.headLeft p e).shareEnds p e.slot
      (shareSet fin.code (e.fields.textLength ≤ (s.port p).exc.bytesSent)) (s.port p).exc.startTime
      (s.port p).exc.bytesSent (fin.code = .memoryFault) := by
    simp only [State.finishHead, queue, if_pos share]
    rfl
  rw [State.endTask, left, State.serveQueue_empty (by simp)]

/-- What the end of a port's only task, no share, leaves: the entry has ended as its controller in `s` says. -/
theorem State.taskEnded_endTask {s t : State} {p : PortId} {e : QueueEntry} {fin : TaskEnd}
    (queue : (t.port p).queue = [e]) (task : e.kind ≠ .broadcast) (exc : (t.port p).exc = (s.port p).exc)
    (completions : t.tsu.completions = s.tsu.completions) (time : t.time = s.time)
    (plain : fin = { endWith fin.code with outcomeA := fin.outcomeA }) :
    s.taskEnded p e fin.code fin.outcomeA (t.endTask p fin) := by
  have now : t.partTime = s.partTime := by rw [State.partTime, time]; rfl
  rw [State.endTask_only queue task]
  refine ⟨by simp, by simp, ?_⟩
  rw [plain]
  simp [State.handCompletion, completions, State.headCompletion, exc, now, endWith]

/-! ### The stop of a sending that has started (R19, R31, R39) -/

/-- A character is on the line: the sending stops at its end. -/
theorem State.stopHead_inCharacter {s : State} {p : PortId} {c : TxCharacter} (why : StopCause)
    (sending : (s.port p).exc.state = .sending ∨ (s.port p).exc.state = .draining)
    (tx : (s.port p).slu.tx = .character c) (going : (s.port p).exc.stopping = none) :
    s.stopHead p why
      = (s.stopFetch p).modPort p fun v => { v with exc := { v.exc with stopping := some why } } := by
  rcases sending with h | h <;> simp [State.stopHead, h, tx, Transmitter.inCharacter, going]

theorem Transmitter.inCharacter_false {tx : Transmitter} (h : ∀ c, tx ≠ .character c) :
    tx.inCharacter = false := by
  cases tx with
  | character c => exact absurd rfl (h c)
  | _ => rfl

/-- No character is on the line: the sending stops and its task ends at once. -/
theorem State.stopHead_atOnce {s : State} {p : PortId} (why : StopCause)
    (sending : (s.port p).exc.state = .sending ∨ (s.port p).exc.state = .draining)
    (tx : ∀ c, (s.port p).slu.tx ≠ .character c) :
    s.stopHead p why = (s.stopSending p).endTask p (endWith why.code) := by
  have between := Transmitter.inCharacter_false tx
  rcases sending with h | h <;> simp [State.stopHead, h, between]

/-- What a stop at the end of the character on the line leaves. -/
theorem State.stopsAtCharacterEnd_stopHead {s : State} {p : PortId} {c : TxCharacter} {why : StopCause}
    (sending : (s.port p).exc.state = .sending ∨ (s.port p).exc.state = .draining)
    (tx : (s.port p).slu.tx = .character c) (going : (s.port p).exc.stopping = none) :
    s.stopsAtCharacterEnd p why (s.stopHead p why) ∧ s.sameElsewhere p (s.stopHead p why)
      ∧ (s.stopHead p why).tsu = s.tsu ∧ (s.stopHead p why).attention = s.attention
      ∧ (s.stopHead p why).bus = s.bus ∧ (s.stopHead p why).hme = (s.stopFetch p).hme := by
  rw [State.stopHead_inCharacter why sending tx going]
  refine ⟨⟨by simp, by simp, by simp, by simp⟩, fun q hq => ?_, by simp, by simp, by simp, rfl⟩
  rw [State.port_modPort_ne _ _ hq, State.stopFetch_port_ne _ hq]

/-- What the stop at once of a port's only sending, no share, leaves. -/
theorem State.taskEnded_stopHead {s : State} {p : PortId} {e : QueueEntry} {why : StopCause}
    (queue : (s.port p).queue = [e]) (task : e.kind ≠ .broadcast)
    (sending : (s.port p).exc.state = .sending ∨ (s.port p).exc.state = .draining)
    (tx : ∀ c, (s.port p).slu.tx ≠ .character c) :
    s.taskEnded p e why.code 0 (s.stopHead p why)
      ∧ ((s.stopHead p why).port p).slu = { (s.port p).slu with staging := [], textRead := none }
      ∧ s.sameElsewhere p (s.stopHead p why)
      ∧ (s.stopHead p why).tsu = { s.tsu with completions := (s.stopHead p why).tsu.completions }
      ∧ (s.stopHead p why).attention = s.attention ∧ (s.stopHead p why).bus = s.bus
      ∧ (s.stopHead p why).hme = (s.stopFetch p).hme := by
  have stopped := s.onlyCapture_stopSending p
  have stillQueued : ((s.stopSending p).port p).queue = [e] := by rw [stopped.queue]; simpa using queue
  rw [State.stopHead_atOnce why sending tx]
  refine ⟨State.taskEnded_endTask stillQueued task ?_ ?_ ?_ rfl, ?_⟩
  · rw [stopped.exc]
    simp
  · rw [stopped.tsu, State.stopFetch_tsu]
  · rw [stopped.time, State.stopFetch_time]
  · rw [State.endTask_only stillQueued task]
    refine ⟨?_, fun q hq => ?_, ?_, ?_, ?_, ?_⟩
    · simp [stopped.slu]
    · rw [State.handCompletion_port, State.headLeft_port_ne _ _ hq, stopped.elsewhere q hq,
        State.stopFetch_port_ne _ hq]
    · simp [State.handCompletion, stopped.tsu]
    · simp [stopped.attention]
    · simp [stopped.bus]
    · simp [stopped.hme]

end Sys2Proof.Machine
end

section
/-! SUPPORT. The answers, faults and timeouts of read pieces, and what a whole read makes of its requester; the
statements on answers and on timeouts. -/

namespace Sys2Proof.Machine

/-! ### What the two commands mean -/

theorem exec_readPieceAnswer (tag : Nat) (answer : Option (List Byte)) (s : State) :
    exec (.readPieceAnswer tag answer) s = .next (s.answerPiece tag answer).watchDrain := rfl

theorem exec_readPieceTimeout (tag : Nat) (s : State) :
    exec (.readPieceTimeout tag) s = .next (s.timeOutPiece tag).watchDrain := rfl

/-! ### The entry that an answer finds (R170, R171) -/

theorem State.answerPiece_unmatched {s : State} {tag : Nat} (h : ∀ e ∈ s.hme.reads, e.tag ≠ tag)
    (answer : Option (List Byte)) : s.answerPiece tag answer = s := by
  have none : s.hme.awaiting tag = none := List.find?_eq_none.2 fun e he => by simp [h e he]
  rw [State.answerPiece, none]

/-- The only piece of a table, which has left, is wanted and awaits its answer. -/
structure State.awaitsOnly (s : State) (e : ReadEntry) : Prop where
  only : s.hme.reads = [e]
  left : e.left = true
  unanswered : e.data = none
  wanted : e.discarded = false

theorem State.awaitsOnly.awaiting {s : State} {e : ReadEntry} (h : s.awaitsOnly e) :
    s.hme.awaiting e.tag = some e := by
  simp [Hme.awaiting, h.only, h.left, h.unanswered]

/-- The answer to a read's only piece hands the read over, its entry freed. -/
theorem State.awaitsOnly.answered {s : State} {e : ReadEntry} {b : List Byte} (h : s.awaitsOnly e)
    (fits : e.length = b.length) :
    s.answerPiece e.tag (some b) = (s.withReads []).readEnds e.requester e.read (some b) := by
  simp [State.answerPiece, h.awaiting, ReadEntry.fits, fits, State.pieceEnds, h.wanted, State.pieceAnswered,
    h.only, storeAnswer, piecesOfRead, joinAnswers]

/-- A fault of a read's only piece is reported, its entry freed. -/
theorem State.awaitsOnly.faulted {s : State} {e : ReadEntry} (h : s.awaitsOnly e) :
    s.pieceEnds e none = (s.withReads []).readEnds e.requester e.read none := by
  simp [State.pieceEnds, h.wanted, State.pieceFaulted, h.only, dropEntry, discardEntries]

theorem State.awaitsOnly.errorAnswered {s : State} {e : ReadEntry} (h : s.awaitsOnly e) :
    s.answerPiece e.tag none = (s.withReads []).readEnds e.requester e.read none := by
  simp [State.answerPiece, h.awaiting, ReadEntry.fits, h.faulted]

theorem State.awaitsOnly.timedOut {s : State} {e : ReadEntry} (h : s.awaitsOnly e)
    (expired : s.expired e.timer = true) :
    s.timeOutPiece e.tag = (s.withReads []).readEnds e.requester e.read none := by
  simp [State.timeOutPiece, h.awaiting, expired, h.faulted]

/-- A discarded piece is freed, and nothing is reported (R170). -/
theorem State.timeOutPiece_discarded {s : State} {e : ReadEntry} (only : s.hme.reads = [e]) (left : e.left = true)
    (unanswered : e.data = none) (discarded : e.discarded = true) (expired : s.expired e.timer = true) :
    s.timeOutPiece e.tag = s.withReads [] := by
  have awaiting : s.hme.awaiting e.tag = some e := by simp [Hme.awaiting, only, left, unanswered]
  simp [State.timeOutPiece, awaiting, expired, State.pieceEnds, discarded, only, dropEntry]

theorem State.timeOutPiece_early {s : State} {e : ReadEntry} (only : s.hme.reads = [e])
    (early : s.expired e.timer = false) : s.timeOutPiece e.tag = s := by
  unfold State.timeOutPiece
  split
  · rfl
  · next found awaiting =>
    have same : found = e := by simpa [only] using List.mem_of_find?_eq_some awaiting
    rw [same, if_neg (by simp [early])]

/-! ### The reads of a sweep (R7, R8, R9) -/

theorem State.readEnds_slotHeader (s : State) (read : Nat) (bytes : Option (List Byte)) :
    s.readEnds .slotHeader read bytes = s.sweepReadEnds read bytes := rfl

theorem State.readEnds_wholeSlot (s : State) (read : Nat) (bytes : Option (List Byte)) :
    s.readEnds .wholeSlot read bytes = s.sweepReadEnds read bytes := rfl

theorem State.sweepReadEnds_header {s : State} {w : Sweep} {read : Nat} (sweep : s.tsu.sweep = some w)
    (stage : w.stage = .headerOut read) (b : List Byte) :
    s.sweepReadEnds read (some b) = s.headerArrives w b ∧ s.sweepReadEnds read none = s.slotFaults w := by
  simp [State.sweepReadEnds, sweep, stage]

theorem State.sweepReadEnds_whole {s : State} {w : Sweep} {read : Nat} (sweep : s.tsu.sweep = some w)
    (stage : w.stage = .wholeOut read) (b : List Byte) :
    s.sweepReadEnds read (some b) = s.wholeSlot w (TaskSlot.parse b)
      ∧ s.sweepReadEnds read none = s.slotFaults w := by
  simp [State.sweepReadEnds, sweep, stage]

/-- The state byte of a slot is the first of its bytes (R190). -/
theorem stateByte_cons (x : Byte) (rest : List Byte) : BitVec.ofNat 8 (field (x :: rest) 0 1) = x := by
  simp [field, leNat]

theorem State.headerArrives_posted (s : State) (w : Sweep) {b : List Byte} (h : b.head? = some 1) :
    s.headerArrives w b = s.sweepStage w .wholeWanted := by
  cases b with
  | nil => cases h
  | cons x rest =>
    have posted : isPosted x = true := (isPosted_iff x).2 (Option.some.inj h)
    simp [State.headerArrives, stateByte_cons, posted]

theorem State.headerArrives_unposted (s : State) (w : Sweep) {b : List Byte} (nonempty : 0 < b.length)
    (h : b.head? ≠ some 1) : s.headerArrives w b = s.slotLeft w := by
  cases b with
  | nil => cases nonempty
  | cons x rest =>
    have unposted : isPosted x = false := Bool.eq_false_iff.2 fun posted => h (congrArg _ ((isPosted_iff x).1 posted))
    simp [State.headerArrives, stateByte_cons, unposted]

/-! ### The fields of a whole slot (R186, R190) -/

theorem leNat_lt (bytes : List Byte) : leNat bytes < 256 ^ bytes.length := by
  induction bytes with
  | nil => simp [leNat]
  | cons b rest ih =>
    have := b.isLt
    rw [leNat, List.length_cons, pow_succ]
    omega

/-- A field is a number of its size. -/
theorem field_lt (bytes : List Byte) (offset size : Nat) : field bytes offset size < 256 ^ size :=
  (leNat_lt _).trans_le (Nat.pow_le_pow_right (by decide) (List.length_take_le _ _))

/-- A field of the word's size is the word's number. -/
theorem toNat_ofNat_field (bytes : List Byte) (offset size bits : Nat) (h : 2 ^ bits = 256 ^ size) :
    (BitVec.ofNat bits (field bytes offset size)).toNat = field bytes offset size := by
  rw [BitVec.toNat_ofNat, h]
  exact Nat.mod_eq_of_lt (field_lt bytes offset size)

/-! ### Text reads (R31, R83, R84) -/

theorem State.readEnds_text (s : State) (p : PortId) (read : Nat) (bytes : Option (List Byte)) :
    s.readEnds (.text p) read bytes = s.textEnds p read bytes := rfl

/-- A port whose transmitter is busy takes nothing. -/
theorem State.serveTransmitter_busy {s : State} {p : PortId} (h : (s.port p).slu.tx ≠ .free) :
    s.serveTransmitter p = s := by
  simp [State.serveTransmitter, h]

/-- The bytes of a text read have joined the staging buffer of their port (R83). -/
def State.textJoined (s : State) (p : PortId) (bytes : List Byte) : State :=
  s.modPort p fun v =>
    { v with slu := { v.slu with staging := v.slu.staging ++ bytes, textRead := none } }

/-- The text of a port joins its buffer; a busy transmitter takes none of it. -/
theorem State.textArrives_busy {s : State} {p : PortId} {read : Nat} (bytes : List Byte)
    (wanted : (s.port p).slu.textRead = some read) (busy : (s.port p).slu.tx ≠ .free) :
    s.textArrives p read bytes = s.textJoined p bytes := by
  rw [State.textArrives, if_pos wanted, State.serveTransmitter_busy (by simpa using busy)]
  rfl

@[simp] theorem State.textJoined_bus (s : State) (p : PortId) (bytes : List Byte) :
    (s.textJoined p bytes).bus = s.bus := rfl

@[simp] theorem State.textJoined_slu (s : State) (p : PortId) (bytes : List Byte) :
    ((s.textJoined p bytes).port p).slu
      = { (s.port p).slu with staging := (s.port p).slu.staging ++ bytes, textRead := none } := by
  simp [State.textJoined]

theorem State.textJoined_port_ne (s : State) {p q : PortId} (bytes : List Byte) (h : q ≠ p) :
    (s.textJoined p bytes).port q = s.port q := s.port_modPort_ne _ h

/-- The text read of a sending has ended in a fault: nothing of it is outstanding any more. -/
def State.textDropped (s : State) (p : PortId) : State :=
  s.modPort p fun v => { v with slu := { v.slu with textRead := none } }

theorem State.textEnds_fault {s : State} {p : PortId} {read : Nat} (wanted : (s.port p).slu.textRead = some read)
    (sending : (s.port p).exc.state = .sending) :
    s.textEnds p read none = (s.textDropped p).stopHead p .memoryFault := by
  simp only [State.textEnds, State.textFaults, if_pos wanted, if_pos sending]
  rfl

@[simp] theorem State.textDropped_port (s : State) (p : PortId) :
    (s.textDropped p).port p
      = (s.port p).noting { s.port p with slu := { (s.port p).slu with textRead := none } } := by
  simp [State.textDropped]

theorem State.textDropped_port_ne (s : State) {p q : PortId} (h : q ≠ p) : (s.textDropped p).port q = s.port q :=
  s.port_modPort_ne _ h

@[simp] theorem State.textDropped_tsu (s : State) (p : PortId) : (s.textDropped p).tsu = s.tsu := rfl

@[simp] theorem State.textDropped_bus (s : State) (p : PortId) : (s.textDropped p).bus = s.bus := rfl

@[simp] theorem State.textDropped_time (s : State) (p : PortId) : (s.textDropped p).time = s.time := rfl

@[simp] theorem State.textDropped_attention (s : State) (p : PortId) :
    (s.textDropped p).attention = s.attention := rfl

/-- With the read of its text dropped, a port's sending has none to discard. -/
theorem State.stopFetch_textDropped_reads (s : State) (p : PortId) :
    (((s.withReads []).textDropped p).stopFetch p).hme.reads = [] := by
  rw [State.stopFetch_hme (by simp)]
  rfl

/-- The fault of the only read while a character is on the line (R31). -/
theorem State.textFaulted_inCharacter {s u : State} {p : PortId} {q : QueueEntry} {c : TxCharacter}
    (tx : (s.port p).slu.tx = .character c) (sending : (s.port p).exc.state = .sending)
    (going : (s.port p).exc.stopping = none)
    (hu : ((s.withReads []).textDropped p).stopHead p .memoryFault = u) :
    s.textFaulted p q u ∧ u.bus = s.bus := by
  obtain ⟨⟨exc, slu, queued, completions⟩, others, _, attention, bus, hme⟩ :=
    State.stopsAtCharacterEnd_stopHead (s := (s.withReads []).textDropped p) (p := p) (c := c)
      (why := .memoryFault) (by simp [sending]) (by simpa using tx) (by simpa using going)
  rw [hu] at exc slu queued completions others attention bus hme
  refine ⟨⟨by rw [hme, State.stopFetch_textDropped_reads], by simpa using attention, fun x hx => ?_,
    fun _ _ => ⟨by simpa using exc, by simpa using slu, by simpa using queued, by simpa using completions⟩,
    fun between => absurd tx (between c)⟩, by simpa using bus⟩
  rw [others x hx, State.textDropped_port_ne _ hx, State.withReads_port]

/-- The fault of the only read while no character is on the line (R31). -/
theorem State.textFaulted_between {s u : State} {p : PortId} {q : QueueEntry}
    (tx : ∀ c, (s.port p).slu.tx ≠ .character c) (queue : (s.port p).queue = [q]) (task : q.kind ≠ .broadcast)
    (sending : (s.port p).exc.state = .sending)
    (hu : ((s.withReads []).textDropped p).stopHead p .memoryFault = u) :
    s.textFaulted p q u ∧ u.bus = s.bus := by
  obtain ⟨⟨queued, idle, completions⟩, slu, others, _, attention, bus, hme⟩ :=
    State.taskEnded_stopHead (s := (s.withReads []).textDropped p) (p := p) (e := q) (why := .memoryFault)
      (by simpa using queue) task (by simp [sending]) (by simpa using tx)
  rw [hu] at queued idle completions slu others attention bus hme
  refine ⟨⟨by rw [hme, State.stopFetch_textDropped_reads], by simpa using attention, fun x hx => ?_,
    fun c h => absurd h (tx c), fun _ => ⟨⟨queued, idle, ?_⟩, by simpa using slu⟩⟩, by simpa using bus⟩
  · rw [others x hx, State.textDropped_port_ne _ hx, State.withReads_port]
  · simpa [State.partTime, StopCause.code] using completions

/-- The fault of the only read stops the task, raises nothing, and leaves the table empty (R31, R84). -/
theorem State.textFaulted_textEnds {s : State} {p : PortId} {q : QueueEntry} {read : Nat}
    (wanted : (s.port p).slu.textRead = some read) (queue : (s.port p).queue = [q]) (task : q.kind ≠ .broadcast)
    (sending : (s.port p).exc.state = .sending) (going : (s.port p).exc.stopping = none) :
    s.textFaulted p q ((s.withReads []).textEnds p read none)
      ∧ ((s.withReads []).textEnds p read none).bus = s.bus := by
  rw [State.textEnds_fault (s := s.withReads []) wanted sending]
  by_cases onLine : ∃ c, (s.port p).slu.tx = .character c
  · obtain ⟨c, tx⟩ := onLine
    exact State.textFaulted_inCharacter tx sending going rfl
  · exact State.textFaulted_between (fun c h => onLine ⟨c, h⟩) queue task sending rfl

/-! ### The statements -/

/-- Outside DRAINING a text read's fault is all that happens. -/
theorem State.textFaulted_watched {s : State} {p : PortId} {q : QueueEntry} {read : Nat}
    (control : s.bus.control ≠ .draining) (wanted : (s.port p).slu.textRead = some read)
    (queue : (s.port p).queue = [q]) (task : q.kind ≠ .broadcast) (sending : (s.port p).exc.state = .sending)
    (going : (s.port p).exc.stopping = none) :
    s.textFaulted p q ((s.withReads []).readEnds (.text p) read none).watchDrain := by
  obtain ⟨faulted, bus⟩ := State.textFaulted_textEnds wanted queue task sending going
  rw [State.readEnds_text, State.watchDrain_same (by rwa [bus])]
  exact faulted

/-- A slot whose header or whole read faults is skipped, with FAULT raised (R9). -/
theorem State.slotFaults_eq (s : State) (w : Sweep) :
    s.slotFaults w = (s.raise .fault).sweepOn w.requested (w.index + 1) := rfl

/-- The header read of a slot, its only piece, answered or in a fault. -/
theorem State.headerRead_ends {s : State} {w : Sweep} {read : Nat} (control : s.bus.control ≠ .draining)
    (sweep : s.tsu.sweep = some w) (stage : w.stage = .headerOut read) (b : List Byte) (nonempty : 0 < b.length) :
    (b.head? = some 1 → ((s.withReads []).readEnds .slotHeader read (some b)).watchDrain
        = (s.withReads []).sweepStage w .wholeWanted)
      ∧ (b.head? ≠ some 1 → ((s.withReads []).readEnds .slotHeader read (some b)).watchDrain
        = (s.withReads []).sweepOn w.requested (w.index + 1))
      ∧ ((s.withReads []).readEnds .slotHeader read none).watchDrain
        = ((s.withReads []).raise .fault).sweepOn w.requested (w.index + 1) := by
  obtain ⟨answered, faulted⟩ := State.sweepReadEnds_header (s := s.withReads []) sweep stage b
  rw [State.readEnds_slotHeader, State.readEnds_slotHeader, answered, faulted]
  refine ⟨fun posted => ?_, fun unposted => ?_, ?_⟩
  · rw [State.headerArrives_posted _ _ posted]
    exact State.watchDrain_same control
  · rw [State.headerArrives_unposted _ _ nonempty unposted, State.slotLeft, State.watchDrain_same (by simpa)]
  · rw [State.slotFaults_eq, State.watchDrain_same (by simpa)]

/-- The first answered of a read's two pieces is kept. -/
theorem State.answerPiece_secondOfTwo {s : State} {e f : ReadEntry} {c : List Byte} (table : s.hme.reads = [e, f])
    (read : e.read = f.read) (tags : e.tag ≠ f.tag) (left : f.left = true) (eUnanswered : e.data = none)
    (unanswered : f.data = none) (wanted : f.discarded = false) (fits : f.length = c.length) :
    s.answerPiece f.tag (some c) = s.withReads [e, { f with data := some c }] := by
  have awaiting : s.hme.awaiting f.tag = some f := by
    simp [Hme.awaiting, table, tags, left, unanswered]
  simp [State.answerPiece, awaiting, ReadEntry.fits, fits, State.pieceEnds, wanted, State.pieceAnswered, table,
    storeAnswer, tags, piecesOfRead, read, eUnanswered]

/-- The other piece's answer hands the read over, in address order. -/
theorem State.answerPiece_lastOfTwo {s : State} {e f : ReadEntry} {b c : List Byte} (table : s.hme.reads = [e, f])
    (read : e.read = f.read) (tags : e.tag ≠ f.tag) (left : e.left = true) (unanswered : e.data = none)
    (answered : f.data = some c) (wanted : e.discarded = false) (fits : e.length = b.length) :
    s.answerPiece e.tag (some b) = (s.withReads []).readEnds e.requester e.read (some (b ++ c)) := by
  have awaiting : s.hme.awaiting e.tag = some e := by
    simp [Hme.awaiting, table, left, unanswered]
  simp [State.answerPiece, awaiting, ReadEntry.fits, fits, State.pieceEnds, wanted, State.pieceAnswered, table,
    storeAnswer, tags.symm, piecesOfRead, read, answered, joinAnswers]

/-- Settles O29: an answer finds its piece's entry, and the whole read goes to the block that asked for it. -/
theorem answerGoesToItsRequester : Obligations.AnswerGoesToItsRequester := by
  refine ⟨?_, ?_, ?_, ?_, ?_⟩
  · intro s w e b control only left unanswered wanted requester fits sweep stage nonempty
    have awaits : s.awaitsOnly e := ⟨only, left, unanswered, wanted⟩
    obtain ⟨posted, unposted, faulted⟩ := State.headerRead_ends control sweep stage b nonempty
    rw [exec_readPieceAnswer, exec_readPieceAnswer, awaits.answered fits, awaits.errorAnswered, requester]
    exact ⟨fun h => congrArg _ (posted h), fun h => congrArg _ (unposted h), congrArg _ faulted⟩
  · intro s tag answer control unmatched
    rw [exec_readPieceAnswer, State.answerPiece_unmatched unmatched, State.watchDrain_same control]
  · intro s p e f b c control table read tags eLeft fLeft eUnanswered fUnanswered eWanted fWanted requester _
      eFits fFits wanted busy
    have kept := State.answerPiece_secondOfTwo table read tags fLeft eUnanswered fUnanswered fWanted fFits
    have last := State.answerPiece_lastOfTwo (s := s.withReads [e, { f with data := some c }]) (c := c) rfl read
      tags eLeft eUnanswered rfl eWanted eFits
    rw [requester, State.readEnds_text, State.textEnds,
      State.textArrives_busy _ (by simpa using wanted) (by simpa using busy)] at last
    refine ⟨s.withReads [e, { f with data := some c }],
      ((s.withReads [e, { f with data := some c }]).withReads []).textJoined p (b ++ c), ?_, rfl, rfl, ?_, rfl,
      by simp, by simp, by simp, fun q hq => ?_, rfl⟩
    · rw [exec_readPieceAnswer, kept, State.watchDrain_same (by simpa using control)]
    · rw [exec_readPieceAnswer, last, State.watchDrain_same (by simpa using control)]
    · rw [State.textJoined_port_ne _ _ hq]
      rfl
  · intro s w e b number only left unanswered wanted requester fits length sweep stage hn
    have awaits : s.awaitsOnly e := ⟨only, left, unanswered, wanted⟩
    obtain ⟨answered, faulted⟩ := State.sweepReadEnds_whole (s := s.withReads []) sweep stage b
    rw [exec_readPieceAnswer, exec_readPieceAnswer, awaits.answered (fits.trans length.symm),
      awaits.errorAnswered, requester, State.readEnds_wholeSlot, State.readEnds_wholeSlot, answered, faulted,
      State.slotFaults_eq]
    have originator : (BitVec.ofNat 4 (field b 3 1)).toNat = field b 3 1 % 16 := BitVec.toNat_ofNat ..
    subst hn
    refine ⟨⟨TaskSlot.parse b, rfl, ?_, rfl, rfl, originator, rfl, ?_, ?_, rfl, rfl, rfl, rfl, rfl, ?_, ?_, ?_,
      ?_⟩, rfl⟩
    all_goals exact toNat_ofNat_field b _ _ _ (by norm_num)
  · intro s p e q control only left unanswered wanted requester read queue task sending going
    have awaits : s.awaitsOnly e := ⟨only, left, unanswered, wanted⟩
    refine ⟨_, exec_readPieceAnswer e.tag none s, ?_⟩
    rw [awaits.errorAnswered, requester]
    exact State.textFaulted_watched control read queue task sending going

/-- Settles O30: a timeout is a fault once the timer has expired, and nothing before. -/
theorem readPieceTimeoutIsAReadFault : Obligations.ReadPieceTimeoutIsAReadFault := by
  have due : ∀ (s : State) (e : ReadEntry) (tm : Timer), e.timer = some tm →
      s.expired e.timer = decide (tm.armedAt + tm.span ≤ s.time.increments) := by
    intro s e tm timer
    rw [timer, State.expired_some]
  refine ⟨?_, ?_, ?_, ?_⟩
  · intro s w e tm control only left unanswered wanted timer reached requester sweep stage
    have awaits : s.awaitsOnly e := ⟨only, left, unanswered, wanted⟩
    obtain ⟨_, _, faulted⟩ := State.headerRead_ends control sweep stage [0] one_pos
    rw [exec_readPieceTimeout, awaits.timedOut ((due s e tm timer).trans (decide_eq_true reached)), requester]
    exact congrArg _ faulted
  · intro s e tm control only left unanswered discarded timer reached
    rw [exec_readPieceTimeout, State.timeOutPiece_discarded only left unanswered discarded
      ((due s e tm timer).trans (decide_eq_true reached)), State.watchDrain_same (by simpa using control)]
    rfl
  · intro s e tm control only timer early
    rw [exec_readPieceTimeout, State.timeOutPiece_early only
      ((due s e tm timer).trans (decide_eq_false (Nat.not_le.2 early))), State.watchDrain_same control]
  · intro s p e q tm control only left unanswered wanted timer reached requester read queue task sending going
    have awaits : s.awaitsOnly e := ⟨only, left, unanswered, wanted⟩
    refine ⟨_, exec_readPieceTimeout e.tag s, ?_⟩
    rw [awaits.timedOut ((due s e tm timer).trans (decide_eq_true reached)), requester]
    exact State.textFaulted_watched control read queue task sending going

end Sys2Proof.Machine
end

section
/-! SUPPORT. The immediate kinds PATTERN and SENSE: the elements of a text, the table entry and the settings that they
hand over, and their completions. -/

namespace Sys2Proof.Machine

/-! ### Pattern texts (R15, R108) -/

/-- Pairs of a kind code and a value are the elements that they spell. -/
theorem parseElements_pairs {code : Element → Byte}
    (known : ∀ e, ElementKind.ofCode (code e).toNat = some e.kind) (es : List Element) :
    parseElements (es.flatMap fun e => [code e, e.value]) = some es := by
  induction es with
  | nil => rfl
  | cons e rest ih =>
    rw [List.flatMap_cons, List.cons_append, List.cons_append, List.nil_append]
    simp only [parseElements, known, ih]

theorem ElementKind.ofCode_above {n : Nat} (h : 4 < n) : ElementKind.ofCode n = none := by
  obtain ⟨m, rfl⟩ := Nat.exists_eq_add_of_lt h
  rw [show 4 + m + 1 = m + 5 by omega]
  rfl

/-- One kind code above 4, in any pair, spoils the text. -/
theorem parseElements_unknown {bytes : List Byte} {i : Nat} {k : Byte} (even : bytes.length % 2 = 0)
    (at_i : bytes[2 * i]? = some k) (unknown : 4 < k.toNat) : parseElements bytes = none := by
  induction i generalizing bytes with
  | zero =>
    match bytes with
    | [] => simp at at_i
    | [_] => simp at even
    | a :: _ :: _ =>
      obtain rfl : a = k := by simpa using at_i
      simp [parseElements, ElementKind.ofCode_above unknown]
  | succ i ih =>
    match bytes with
    | [] => simp at at_i
    | [_] => simp at even
    | a :: b :: rest =>
      have evenRest : rest.length % 2 = 0 := by
        simp only [List.length_cons] at even
        omega
      have spoilt : parseElements rest = none := ih evenRest (by simpa [Nat.mul_succ] using at_i)
      simp [parseElements, spoilt]

/-! ### Completions of immediate kinds (R23) -/

@[simp] theorem State.slotCompleted_port (s : State) (w : Sweep) (code : Byte) (start : Word) (a b : Nat)
    (notify : Bool) (p : PortId) : (s.slotCompleted w code start a b notify).port p = s.port p := rfl

@[simp] theorem State.slotCompleted_patterns (s : State) (w : Sweep) (code : Byte) (start : Word) (a b : Nat)
    (notify : Bool) : (s.slotCompleted w code start a b notify).patterns = s.patterns := rfl

@[simp] theorem State.slotCompleted_scanner (s : State) (w : Sweep) (code : Byte) (start : Word) (a b : Nat)
    (notify : Bool) : (s.slotCompleted w code start a b notify).scanner = s.scanner := rfl

/-- The TSU's part of a completion depends on the TSU and the time alone. -/
theorem State.slotCompleted_tsu_congr {s u : State} (tsu : u.tsu = s.tsu) (time : u.time = s.time) (w : Sweep)
    (code : Byte) (start : Word) (a b : Nat) (notify : Bool) :
    (u.slotCompleted w code start a b notify).tsu = (s.slotCompleted w code start a b notify).tsu := by
  simp [State.slotCompleted, tsu, State.partTime, time]

/-! ### PATTERN (R15, R109) -/

@[simp] theorem State.setPattern_tsu (s : State) (i : PatternId) (contents : Option (List Element)) :
    (s.setPattern i contents).tsu = s.tsu := by simp [State.setPattern]

@[simp] theorem State.setPattern_time (s : State) (i : PatternId) (contents : Option (List Element)) :
    (s.setPattern i contents).time = s.time := by simp [State.setPattern]

@[simp] theorem State.setPattern_patterns (s : State) (i : PatternId) (contents : Option (List Element)) :
    (s.setPattern i contents).patterns = s.patterns.set i contents := by simp [State.setPattern]

@[simp] theorem State.setPattern_pm (s : State) (i : PatternId) (contents : Option (List Element)) (p : PortId) :
    ((s.setPattern i contents).port p).pm = (s.port p).pm.resetOne i := by
  rw [State.setPattern, State.port_modPorts, Port.noting_pm]
  rfl

theorem PortMatch.resetOne_eligible (m : PortMatch) (i : PatternId) : (m.resetOne i).eligible[i] = 0 := by
  simp [PortMatch.resetOne, PortMatch.withEligible]

@[simp] theorem PortMatch.resetOne_watch (m : PortMatch) (i : PatternId) : (m.resetOne i).watch = m.watch := by
  simp [PortMatch.resetOne, PortMatch.withEligible]

@[simp] theorem PortMatch.resetOne_tail (m : PortMatch) (i : PatternId) : (m.resetOne i).tail = m.tail := by
  simp [PortMatch.resetOne, PortMatch.withEligible]

/-- The number of elements that contents hold. -/
def elementCount (contents : Option (List Element)) : Nat :=
  match contents with
  | none => 0
  | some es => es.length

/-- A PATTERN that completes hands its contents over, and then the slot is completed OK with their number. -/
theorem State.completePattern_eq (s : State) (w : Sweep) (t : TaskSlot) (start : Word)
    (contents : Option (List Element)) : s.completePattern w t start contents =
      (s.setPattern (Fin.ofNat 32 t.fields.patternId) contents).slotCompleted w 0 start (elementCount contents) 0
        (t.fields.flags.getLsbD 0) := by
  unfold State.completePattern
  rw [State.completeSlot_slotCompleted _ w rfl]
  cases contents <;> exact State.slotCompleted_ofNat _ w 0 start _ 0 _

/-- The table entry, the progress of every port, and the TSU after a PATTERN that completes. -/
theorem State.completePattern_effects {s u : State} {w : Sweep} {t : TaskSlot} {start : Word}
    {contents : Option (List Element)} (hu : s.completePattern w t start contents = u) :
    u.patterns = s.patterns.set (Fin.ofNat 32 t.fields.patternId) contents
      ∧ (∀ p : PortId, (u.port p).pm.eligible[Fin.ofNat 32 t.fields.patternId] = 0
        ∧ (u.port p).pm.watch = (s.port p).pm.watch ∧ (u.port p).pm.tail = (s.port p).pm.tail)
      ∧ u.tsu = (s.slotCompleted w 0 start (elementCount contents) 0 (t.fields.flags.getLsbD 0)).tsu := by
  rw [State.completePattern_eq] at hu
  subst hu
  refine ⟨by simp, fun p => ?_, ?_⟩
  · rw [State.slotCompleted_port, State.setPattern_pm]
    exact ⟨PortMatch.resetOne_eligible _ _, PortMatch.resetOne_watch _ _, PortMatch.resetOne_tail _ _⟩
  · exact State.slotCompleted_tsu_congr (by simp) (by simp) ..

theorem State.patternArrives_known {s : State} {bytes : List Byte} {es : List Element}
    (known : parseElements bytes = some es) (w : Sweep) (t : TaskSlot) (start : Word) :
    s.patternArrives w t start bytes = s.completePattern w t start (some es) := by
  rw [State.patternArrives, known]

/-- A text with an unknown element kind is refused with reason 7, and the table stays (R15). -/
theorem State.patternArrives_unknown {s : State} {bytes : List Byte} (unknown : parseElements bytes = none)
    (w : Sweep) (t : TaskSlot) (start : Word) :
    s.patternArrives w t start bytes = s.slotCompleted w 6 start 7 0 (t.fields.flags.getLsbD 0) := by
  rw [State.patternArrives, unknown]
  exact s.completeSlot_slotCompleted w rfl

/-- A text that cannot be read is MEMORY_FAULT (R15). -/
theorem State.patternFaults_eq (s : State) (w : Sweep) (t : TaskSlot) (start : Word) :
    s.patternFaults w t start = s.slotCompleted w 8 start 0 0 (t.fields.flags.getLsbD 0) :=
  s.completeSlot_slotCompleted w rfl

theorem State.sweepReadEnds_pattern {s : State} {w : Sweep} {t : TaskSlot} {start : Word} {read : Nat}
    (sweep : s.tsu.sweep = some w) (stage : w.stage = .patternOut t start read) (bytes : List Byte) :
    s.sweepReadEnds read (some bytes) = s.patternArrives w t start bytes
      ∧ s.sweepReadEnds read none = s.patternFaults w t start := by
  simp [State.sweepReadEnds, sweep, stage]

/-! ### SENSE (R16, R164) -/

@[simp] theorem State.takeSenseSettings_tsu (s : State) (f : TaskFields) : (s.takeSenseSettings f).tsu = s.tsu := by
  simp [State.takeSenseSettings]

@[simp] theorem State.takeSenseSettings_time (s : State) (f : TaskFields) :
    (s.takeSenseSettings f).time = s.time := by
  simp [State.takeSenseSettings]

@[simp] theorem State.takeSenseSettings_sense (s : State) (f : TaskFields) (p : PortId) :
    ((s.takeSenseSettings f).port p).sense = breakRun (s.port p).sense := by
  rw [State.takeSenseSettings, State.port_modPorts, Port.noting_sense]
  rfl

/-- The scanner takes the four settings, and keeps its timer and its sweep. -/
@[simp] theorem State.takeSenseSettings_scanner (s : State) (f : TaskFields) :
    (s.takeSenseSettings f).scanner = { s.scanner with
      presentMv := senseSetting f.paramA 3000 1000 12000
      absentMv := senseSetting f.paramB 2000 500 (senseSetting f.paramA 3000 1000 12000 - 200)
      debounce := senseSetting f.paramC 3 1 15
      interval := senseSetting f.paramD 10 1 255 } := by
  simp [State.takeSenseSettings, senseSettings]

/-- A SENSE hands its settings over, and then the slot is completed OK with both thresholds. -/
theorem State.runSense_eq (s : State) (w : Sweep) (t : TaskSlot) :
    s.runSense w t = (s.takeSenseSettings t.fields).slotCompleted w 0 s.partTime
      (senseSettings t.fields).1 (senseSettings t.fields).2.1 (t.fields.flags.getLsbD 0) := by
  rw [State.runSense, State.completeSlot_slotCompleted _ w rfl]
  exact State.slotCompleted_ofNat _ w 0 s.partTime _ _ _

theorem State.runSense_tsu (s : State) (w : Sweep) (t : TaskSlot) :
    (s.runSense w t).tsu = (s.slotCompleted w 0 s.partTime (s.runSense w t).scanner.presentMv
      (s.runSense w t).scanner.absentMv (t.fields.flags.getLsbD 0)).tsu := by
  rw [State.runSense_eq, State.slotCompleted_tsu_congr (s := s) (by simp) (by simp), State.slotCompleted_scanner,
    State.takeSenseSettings_scanner]
  rfl

end Sys2Proof.Machine
end

section
/-! SUPPORT. ABORT: the cancel at the one port that holds the target, what it finds there, and what its stop
leaves. -/

namespace Sys2Proof.Machine

/-! ### An operation over all ports that acts on one -/

theorem foldl_ports_idle {f : PortId → State → State} {u : State} {ports : List PortId}
    (idle : ∀ q ∈ ports, f q u = u) : ports.foldl (fun s q => f q s) u = u := by
  induction ports with
  | nil => rfl
  | cons q rest ih =>
    rw [List.foldl_cons, idle q List.mem_cons_self]
    exact ih fun x hx => idle x (List.mem_cons_of_mem q hx)

/-- An operation that changes nothing at every port changes nothing. -/
theorem State.forPorts_idle {f : PortId → State → State} {s : State} (idle : ∀ q, f q s = s) :
    s.forPorts f = s :=
  foldl_ports_idle fun q _ => idle q

/-- An operation that changes port `p` alone, and nothing at any other port, is its operation at `p`. -/
theorem State.forPorts_only {f : PortId → State → State} {s : State} {p : PortId}
    (elsewhere : s.sameElsewhere p (f p s))
    (idle : ∀ q, q ≠ p → ∀ u : State, u.port q = s.port q → f q u = u) :
    s.forPorts f = f p s := by
  obtain ⟨before, after, split⟩ := List.append_of_mem (List.mem_finRange p)
  have distinct : (before ++ p :: after).Nodup := split ▸ List.nodup_finRange 24
  have notBefore : ∀ q ∈ before, q ≠ p := fun q hq e =>
    List.disjoint_of_nodup_append distinct hq (e ▸ List.mem_cons_self)
  have notAfter : ∀ q ∈ after, q ≠ p := fun q hq e =>
    (List.nodup_cons.1 (List.Nodup.of_append_right distinct)).1 (e ▸ hq)
  rw [State.forPorts, split, List.foldl_append, List.foldl_cons,
    foldl_ports_idle fun q hq => idle q (notBefore q hq) s rfl,
    foldl_ports_idle fun q hq => idle q (notAfter q hq) (f p s) (elsewhere q (notAfter q hq))]

/-! ### What a cancel finds (R17) -/

theorem Port.cancelFinds_absent {v : Port} {slot : Nat} (h : ∀ x ∈ v.queue, x.slot ≠ slot) :
    v.cancelFinds slot = .absent := by
  unfold Port.cancelFinds
  split
  · rfl
  · next e rest queue =>
    rw [queue] at h
    have head : e.slot ≠ slot := h e List.mem_cons_self
    have none : ¬ ((e :: rest).any fun x => x.slot = slot) = true := by simpa using h
    simp [head, none]

theorem Port.cancelFinds_started {v : Port} {slot : Nat} {e : QueueEntry} {rest : List QueueEntry}
    (queue : v.queue = e :: rest) (started : v.exc.state ≠ .idle) (same : e.slot = slot) :
    v.cancelFinds slot = .started := by
  simp [Port.cancelFinds, queue, (Port.started_iff v).2 started, same]

/-- An entry behind a head of another slot stands unstarted. -/
theorem Port.cancelFinds_behind {v : Port} {slot : Nat} {head e : QueueEntry} (queue : v.queue = [head, e])
    (other : head.slot ≠ slot) (same : e.slot = slot) : v.cancelFinds slot = .unstarted := by
  simp [Port.cancelFinds, queue, other, same]

theorem State.cancelAt_absent {s : State} {p : PortId} {slot : Nat} (h : ∀ x ∈ (s.port p).queue, x.slot ≠ slot) :
    s.cancelAt p slot = s := by
  rw [State.cancelAt, Port.cancelFinds_absent h]

/-- Where one port alone holds the slot, a cancel over all ports is the cancel there. -/
theorem State.forPorts_cancelAt {s : State} {p : PortId} {slot : Nat}
    (others : ∀ q : PortId, q ≠ p → ∀ x ∈ (s.port q).queue, x.slot ≠ slot)
    (elsewhere : s.sameElsewhere p (s.cancelAt p slot)) :
    (s.forPorts fun p s => s.cancelAt p slot) = s.cancelAt p slot :=
  State.forPorts_only elsewhere fun q hq _ same => State.cancelAt_absent (same ▸ others q hq)

/-! ### Outcome A (R17) -/

theorem State.sharesOf_task {s : State} {target : Nat} (h : s.tsu.broadcasts = []) : s.sharesOf target = 1 := by
  simp [State.sharesOf, h]

theorem State.sharesOf_broadcast {s : State} {b : Broadcast} (h : s.tsu.broadcasts = [b]) :
    s.sharesOf b.slot = b.total := by
  simp [State.sharesOf, h]

/-- Where the one port that holds the target does not hold it unstarted, no port does. -/
theorem State.unstartedPorts_none {s : State} {target : Nat}
    (h : ∀ q : PortId, (s.port q).cancelFinds target ≠ .unstarted) : s.unstartedPorts target = [] := by
  simp [State.unstartedPorts, h]

theorem State.unstartedPorts_one {s : State} {p : PortId} {target : Nat}
    (here : (s.port p).cancelFinds target = .unstarted)
    (others : ∀ q : PortId, q ≠ p → ∀ x ∈ (s.port q).queue, x.slot ≠ target) :
    (s.unstartedPorts target).length = 1 := by
  have onlyHere : ∀ q : PortId, decide ((s.port q).cancelFinds target = .unstarted) = decide (q = p) := by
    intro q
    by_cases hq : q = p
    · simp [hq, here]
    · simp [hq, Port.cancelFinds_absent (others q hq)]
  have single : ∀ p : PortId, ((List.finRange 24).filter fun q => decide (q = p)).length = 1 := by decide
  simp only [State.unstartedPorts, onlyHere, single]

/-! ### The ABORT's own completion (R17, R23) -/

/-- The completion of an ABORT that finds its target in flight. -/
def State.abortCompletion (s : State) (w : Sweep) (t : TaskSlot) (outcomeA : Nat) : Completion :=
  { s.unbegun w.index t.fields.notify .ok with outcomeA := BitVec.ofNat 32 outcomeA }

theorem State.runAbort_inFlight {s r : State} {w : Sweep} {t : TaskSlot} {n : Nat}
    (inFlight : t.fields.paramA.toNat ∈ s.tsu.inFlight)
    (cancel : (s.forPorts fun p s => s.cancelAt p t.fields.paramA.toNat) = r)
    (outcome : s.abortOutcome t.fields.paramA.toNat = BitVec.ofNat 32 n) :
    s.runAbort w t = r.completeSlot w (s.abortCompletion w t n) := by
  simp only [State.runAbort, List.contains_iff_mem.2 inFlight, if_true, cancel, outcome]
  rfl

/-- An ABORT of a slot that is not in flight is NOT_FOUND (R17). -/
theorem State.runAbort_notFound {s : State} {w : Sweep} {t : TaskSlot}
    (absent : t.fields.paramA.toNat ∉ s.tsu.inFlight) :
    s.runAbort w t = s.slotCompleted w 9 s.partTime 0 0 (t.fields.flags.getLsbD 0) := by
  simp only [State.runAbort, List.contains_eq_mem, absent, decide_false, Bool.false_eq_true, if_false]
  exact s.completeSlot_slotCompleted w rfl

/-- An ABORT whose cancel finds nothing to change completes, and nothing else happens. -/
theorem State.completeSlot_abortCompletion (s : State) (w : Sweep) (t : TaskSlot) (n : Nat) :
    s.completeSlot w (s.abortCompletion w t n)
      = s.slotCompleted w 0 s.partTime n 0 (t.fields.flags.getLsbD 0) := by
  rw [s.completeSlot_slotCompleted w rfl]
  exact s.slotCompleted_ofNat w 0 s.partTime n 0 _

@[simp] theorem State.completeSlot_port (s : State) (w : Sweep) (c : Completion) (p : PortId) :
    (s.completeSlot w c).port p = s.port p := by
  rw [State.completeSlot_eq]
  rfl

@[simp] theorem State.completeSlot_completions (s : State) (w : Sweep) (c : Completion) :
    (s.completeSlot w c).tsu.completions = s.tsu.completions := by
  rw [State.completeSlot_eq]

@[simp] theorem State.completeSlot_broadcasts (s : State) (w : Sweep) (c : Completion) :
    (s.completeSlot w c).tsu.broadcasts = s.tsu.broadcasts := by
  rw [State.completeSlot_eq]

/-- A cancel has acted on one port, and left the TSU's writes and geometry to the ABORT. -/
structure State.cancelledAt (s : State) (p : PortId) (r : State) : Prop where
  elsewhere : s.sameElsewhere p r
  writes : r.tsu.writes = s.tsu.writes
  geometry : r.tsu.geometry = s.tsu.geometry

/-- After the cancel the ABORT's own writes are requested, and no other port has changed. -/
theorem State.cancelledAt.abortDone {s r : State} {p : PortId} (h : s.cancelledAt p r) (w : Sweep) (t : TaskSlot)
    (n : Nat) : s.abortDone w t n (r.completeSlot w (s.abortCompletion w t n))
      ∧ s.sameElsewhere p (r.completeSlot w (s.abortCompletion w t n)) := by
  refine ⟨⟨?_, by rw [State.completeSlot_eq]⟩, fun q hq => ?_⟩
  · rw [State.completeSlot_eq, ← State.slotCompleted_ofNat s w 0 s.partTime n 0]
    simp only [h.writes, h.geometry]
    exact s.writes_slotCompleted w (c := s.abortCompletion w t n) rfl
  · rw [State.completeSlot_port, h.elsewhere q hq]

/-- The end of a task stands through the ABORT's own completion. -/
theorem State.taskEnded_completeSlot {s r : State} {p : PortId} {e : QueueEntry} {code : ResultCode} {a : Word}
    (h : s.taskEnded p e code a r) (w : Sweep) (c : Completion) :
    s.taskEnded p e code a (r.completeSlot w c) := by
  simpa [State.taskEnded] using h

theorem State.stopsAtCharacterEnd_completeSlot {s r : State} {p : PortId} {why : StopCause}
    (h : s.stopsAtCharacterEnd p why r) (w : Sweep) (c : Completion) :
    s.stopsAtCharacterEnd p why (r.completeSlot w c) := by
  simpa [State.stopsAtCharacterEnd] using h

/-! ### Entries that have not started (R18, R20) -/

/-- The entry behind a port's head has been taken out of its queue. -/
def State.behindRemoved (s : State) (p : PortId) (slot : Nat) : State :=
  s.modPort p fun v => { v with queue := v.queue.filter fun x => x.slot ≠ slot }

@[simp] theorem State.behindRemoved_tsu (s : State) (p : PortId) (slot : Nat) :
    (s.behindRemoved p slot).tsu = s.tsu := rfl

@[simp] theorem State.behindRemoved_port (s : State) (p : PortId) (slot : Nat) :
    (s.behindRemoved p slot).port p = (s.port p).noting { s.port p with
      queue := (s.port p).queue.filter fun x => x.slot ≠ slot } := by
  simp [State.behindRemoved]

theorem State.behindRemoved_port_ne (s : State) {p q : PortId} (slot : Nat) (h : q ≠ p) :
    (s.behindRemoved p slot).port q = s.port q := s.port_modPort_ne _ h

/-- The slots of the two entries differ, so that the head stays. -/
theorem State.behindRemoved_queue {s : State} {p : PortId} {head e : QueueEntry}
    (queue : (s.port p).queue = [head, e]) (other : head.slot ≠ e.slot) :
    ((s.behindRemoved p e.slot).port p).queue = [head] := by
  simp [queue, other]

theorem State.cancelAt_behind_task {s : State} {p : PortId} {head e : QueueEntry}
    (queue : (s.port p).queue = [head, e]) (other : head.slot ≠ e.slot) (task : e.kind ≠ .broadcast) :
    s.cancelAt p e.slot
      = (s.behindRemoved p e.slot).handCompletion (s.unbegun e.slot e.fields.notify .cancelled) := by
  have found : (s.port p).queue.find? (fun x => x.slot = e.slot) = some e := by simp [queue, other]
  simp only [State.cancelAt, Port.cancelFinds_behind queue other rfl, State.removeUnstarted, found, if_neg task]
  rfl

theorem State.cancelAt_behind_share {s : State} {p : PortId} {head e : QueueEntry}
    (queue : (s.port p).queue = [head, e]) (other : head.slot ≠ e.slot) (share : e.kind = .broadcast) :
    s.cancelAt p e.slot = ((s.behindRemoved p e.slot).markCancelled e.slot).shareEnds p e.slot .neither
      s.partTime 0 false := by
  have found : (s.port p).queue.find? (fun x => x.slot = e.slot) = some e := by simp [queue, other]
  simp only [State.cancelAt, Port.cancelFinds_behind queue other rfl, State.removeUnstarted, found, if_pos share]
  rfl

/-! ### The end of a share in the TSU (R47, R48) -/

@[simp] theorem State.shareEnds_writes (s : State) (p : PortId) (slot : Nat) (set : ShareSet) (start : Word)
    (n : Nat) (fault : Bool) : (s.shareEnds p slot set start n fault).tsu.writes = s.tsu.writes := by
  unfold State.shareEnds
  split
  · rfl
  · dsimp only
    split <;> rfl

@[simp] theorem State.shareEnds_geometry (s : State) (p : PortId) (slot : Nat) (set : ShareSet) (start : Word)
    (n : Nat) (fault : Bool) : (s.shareEnds p slot set start n fault).tsu.geometry = s.tsu.geometry := by
  unfold State.shareEnds
  split
  · rfl
  · dsimp only
    split <;> rfl

/-- A share that is not the last is noted. -/
theorem State.shareEnds_noted {s : State} {c : Broadcast} {slot : Nat} (only : s.tsu.broadcasts = [c])
    (same : c.slot = slot) (more : 1 < c.left) (p : PortId) (set : ShareSet) (start : Word) (n : Nat) (fault : Bool) :
    s.shareEnds p slot set start n fault = { s with tsu := { s.tsu with
      broadcasts := [c.note p set start s.partTime n fault] } } := by
  have left : ¬ (c.note p set start s.partTime n fault).left = 0 := by
    simp only [Broadcast.note]
    omega
  simp [State.shareEnds, only, same, left]

/-- The last share completes the slot. -/
theorem State.shareEnds_completed {s : State} {c : Broadcast} {slot : Nat} (only : s.tsu.broadcasts = [c])
    (same : c.slot = slot) (last : c.left = 1) (p : PortId) (set : ShareSet) (start : Word) (n : Nat) (fault : Bool) :
    s.shareEnds p slot set start n fault = { s with tsu := { s.tsu with
      broadcasts := []
      completions := s.tsu.completions ++
        [(c.note p set start s.partTime n fault).completion s.partTime] } } := by
  have left : (c.note p set start s.partTime n fault).left = 0 := by simp [Broadcast.note, last]
  simp [State.shareEnds, only, same, left, State.handCompletion]

/-- With no BROADCAST in assembly a cancel marks none. -/
theorem State.markCancelled_none {s : State} (h : s.tsu.broadcasts = []) (slot : Nat) : s.markCancelled slot = s := by
  rw [State.markCancelled, h, List.map_nil, ← h]

theorem State.markCancelled_one {s : State} {b : Broadcast} (h : s.tsu.broadcasts = [b]) :
    (s.markCancelled b.slot).tsu.broadcasts = [{ b with cancelled := true }] := by
  simp [State.markCancelled, h]

@[simp] theorem State.markCancelled_writes (s : State) (slot : Nat) :
    (s.markCancelled slot).tsu.writes = s.tsu.writes := rfl

@[simp] theorem State.markCancelled_geometry (s : State) (slot : Nat) :
    (s.markCancelled slot).tsu.geometry = s.tsu.geometry := rfl

@[simp] theorem State.markCancelled_completions (s : State) (slot : Nat) :
    (s.markCancelled slot).tsu.completions = s.tsu.completions := rfl

@[simp] theorem State.markCancelled_port (s : State) (slot : Nat) (p : PortId) :
    (s.markCancelled slot).port p = s.port p := rfl

/-! ### A started task (R19, R40) -/

theorem State.cancelAt_stopping {s : State} {p : PortId} {slot : Nat} {e : QueueEntry} {rest : List QueueEntry}
    (queue : (s.port p).queue = e :: rest) (started : (s.port p).exc.state ≠ .idle) (same : e.slot = slot)
    (stopping : (s.port p).exc.stopping ≠ none) : s.cancelAt p slot = s := by
  simp [State.cancelAt, Port.cancelFinds_started queue started same, Option.isSome_iff_ne_none.2 stopping]

theorem State.cancelAt_started {s : State} {p : PortId} {slot : Nat} {e : QueueEntry} {rest : List QueueEntry}
    (queue : (s.port p).queue = e :: rest) (started : (s.port p).exc.state ≠ .idle) (same : e.slot = slot)
    (going : (s.port p).exc.stopping = none) :
    s.cancelAt p slot = (s.markCancelled slot).stopHead p .cancelled := by
  simp [State.cancelAt, Port.cancelFinds_started queue started same, going]

/-- The only task of a port, no share, has been cancelled: it has ended with an outcome A, and nothing but its port
and the completions has changed. -/
structure State.taskCancelled (s : State) (p : PortId) (e : QueueEntry) (outcomeA : Word) (r : State) : Prop where
  ended : s.taskEnded p e .cancelled outcomeA r
  elsewhere : s.sameElsewhere p r
  tsu : r.tsu = { s.tsu with completions := r.tsu.completions }

theorem State.taskCancelled.cancelledAt {s r : State} {p : PortId} {e : QueueEntry} {a : Word}
    (h : s.taskCancelled p e a r) : s.cancelledAt p r :=
  ⟨h.elsewhere, by rw [h.tsu], by rw [h.tsu]⟩

section
variable {s t : State} {p : PortId} {e : QueueEntry}

theorem State.endTask_slu (queue : (t.port p).queue = [e]) (task : e.kind ≠ .broadcast) (fin : TaskEnd) :
    ((t.endTask p fin).port p).slu = (t.port p).slu := by
  simp [State.endTask_only queue task]

theorem State.endTask_ca (queue : (t.port p).queue = [e]) (task : e.kind ≠ .broadcast) (fin : TaskEnd) :
    ((t.endTask p fin).port p).ca = (t.port p).ca := by
  simp [State.endTask_only queue task]

theorem State.endTask_pm (queue : (t.port p).queue = [e]) (task : e.kind ≠ .broadcast) (fin : TaskEnd) :
    ((t.endTask p fin).port p).pm = (t.port p).pm := by
  simp [State.endTask_only queue task]

/-- The only task of a port ends CANCELLED in a state that differs at this port alone. -/
theorem State.taskCancelled_endTask {fin : TaskEnd} {a : Word} (queue : (t.port p).queue = [e])
    (task : e.kind ≠ .broadcast) (exc : (t.port p).exc = (s.port p).exc) (tsu : t.tsu = s.tsu)
    (time : t.time = s.time) (elsewhere : s.sameElsewhere p t)
    (cancelled : fin = { endWith .cancelled with outcomeA := a }) : s.taskCancelled p e a (t.endTask p fin) := by
  subst cancelled
  refine ⟨State.taskEnded_endTask queue task exc (by rw [tsu]) time rfl, fun q hq => ?_, ?_⟩
  · rw [State.endTask_only queue task, State.handCompletion_port, State.headLeft_port_ne _ _ hq, elsewhere q hq]
  · simp [State.endTask_only queue task, State.handCompletion, tsu]

end

section
variable {s : State} {p : PortId} {e : QueueEntry}

/-- In RATE_WAIT and PAUSING a stop ends the task. -/
theorem State.stopHead_waiting (state : (s.port p).exc.state = .rateWait ∨ (s.port p).exc.state = .pausing)
    (why : StopCause) : s.stopHead p why = s.endTask p (endWith why.code) := by
  rcases state with h | h <;> simp [State.stopHead, h]

theorem State.stopHead_awaiting (state : (s.port p).exc.state = .awaiting) (why : StopCause) :
    s.stopHead p why = (s.disarm p).endTask p (endWith why.code) := by
  simp [State.stopHead, state]

theorem State.stopHead_breaking (state : (s.port p).exc.state = .breaking) (why : StopCause) :
    s.stopHead p why = s.cutBreak p why.code := by
  simp [State.stopHead, state]

@[simp] theorem State.disarm_port (s : State) (p : PortId) : (s.disarm p).port p
    = (s.port p).noting { s.port p with pm := (s.port p).pm.disarmAwait } := by
  simp [State.disarm]

theorem PortMatch.disarmAwait_await (m : PortMatch) : m.disarmAwait.await = none := by
  unfold PortMatch.disarmAwait
  split
  · assumption
  · split <;> rfl

/-- A cancel in RATE_WAIT, AWAITING or PAUSING ends the task, and disarms the await (R19, R113). -/
theorem State.taskCancelled_waiting (queue : (s.port p).queue = [e]) (task : e.kind ≠ .broadcast)
    (state : (s.port p).exc.state = .rateWait ∨ (s.port p).exc.state = .awaiting
      ∨ (s.port p).exc.state = .pausing) :
    s.taskCancelled p e 0 (s.stopHead p .cancelled)
      ∧ ((s.stopHead p .cancelled).port p).slu = (s.port p).slu
      ∧ ((s.port p).exc.state = .awaiting → ((s.stopHead p .cancelled).port p).pm.await = none) := by
  by_cases awaiting : (s.port p).exc.state = .awaiting
  · have queued : ((s.disarm p).port p).queue = [e] := by simpa using queue
    rw [State.stopHead_awaiting awaiting]
    refine ⟨State.taskCancelled_endTask queued task (by simp) rfl rfl (fun q hq => s.port_modPort_ne _ hq) rfl,
      ?_, ?_⟩
    · simp [State.endTask_slu queued task]
    · simp [State.endTask_pm queued task, PortMatch.disarmAwait_await]
  · have waiting : (s.port p).exc.state = .rateWait ∨ (s.port p).exc.state = .pausing := by
      rcases state with h | h | h
      · exact .inl h
      · exact absurd h awaiting
      · exact .inr h
    rw [State.stopHead_waiting waiting]
    exact ⟨State.taskCancelled_endTask queue task rfl rfl rfl (fun _ _ => rfl) rfl, State.endTask_slu queue task _,
      fun h => absurd h awaiting⟩

/-- A cancel of a sending with no character on the line ends the task (R19). -/
theorem State.taskCancelled_sending (queue : (s.port p).queue = [e]) (task : e.kind ≠ .broadcast)
    (sending : (s.port p).exc.state = .sending ∨ (s.port p).exc.state = .draining)
    (tx : ∀ c, (s.port p).slu.tx ≠ .character c) :
    s.taskCancelled p e 0 (s.stopHead p .cancelled)
      ∧ ((s.stopHead p .cancelled).port p).slu = { (s.port p).slu with staging := [], textRead := none } := by
  obtain ⟨ended, slu, elsewhere, tsu, _⟩ := State.taskEnded_stopHead (why := .cancelled) queue task sending tx
  exact ⟨⟨ended, elsewhere, tsu⟩, slu⟩

/-- A port's only share, not the last of its slot, stops with no character on the line: it ends at once, and its end
is noted for the slot (R19, R47). -/
theorem State.stopHead_share {r : State} {c : Broadcast} {why : StopCause} (queue : (s.port p).queue = [e])
    (share : e.kind = .broadcast) (slot : e.slot = c.slot) (only : s.tsu.broadcasts = [c]) (more : 1 < c.left)
    (sending : (s.port p).exc.state = .sending ∨ (s.port p).exc.state = .draining)
    (tx : ∀ c, (s.port p).slu.tx ≠ .character c) (hr : s.stopHead p why = r) :
    (r.port p).queue = [] ∧ (r.port p).exc = Exc.idle ∧ s.sameElsewhere p r
      ∧ ∃ start now fault, r.tsu = { s.tsu with broadcasts :=
        [c.note p (shareSet why.code (decide (e.fields.textLength ≤ (s.port p).exc.bytesSent))) start now
          (s.port p).exc.bytesSent fault] } := by
  have stopped := s.onlyCapture_stopSending p
  have queued : ((s.stopSending p).port p).queue = [e] := by simpa [stopped.queue] using queue
  have sent : ((s.stopSending p).port p).exc = (s.port p).exc := by simp [stopped.exc]
  have tsu : ((s.stopSending p).headLeft p e).tsu = s.tsu := by
    rw [State.headLeft_tsu, stopped.tsu, State.stopFetch_tsu]
  rw [State.stopHead_atOnce why sending tx, State.endTask_onlyShare queued share, sent] at hr
  refine ⟨?_, ?_, fun q hq => ?_, ?_⟩
  · simp [← hr]
  · simp [← hr]
  · rw [← hr, State.shareEnds_port, State.headLeft_port_ne _ _ hq, stopped.elsewhere q hq,
      State.stopFetch_port_ne _ hq]
  · rw [State.shareEnds_noted (by rw [tsu, only]) slot.symm more] at hr
    exact ⟨_, _, _, by rw [← hr, tsu]; rfl⟩

/-- The transmitter of a break that is cut short is FREE again (R84). -/
def State.lineFreed (s : State) (p : PortId) : State :=
  s.modPort p fun v => { v with slu := { v.slu with tx := .free } }

@[simp] theorem State.lineFreed_port (s : State) (p : PortId) : (s.lineFreed p).port p
    = (s.port p).noting { s.port p with slu := { (s.port p).slu with tx := .free } } := by
  simp [State.lineFreed]

theorem State.lineFreed_port_ne (s : State) {p q : PortId} (h : q ≠ p) : (s.lineFreed p).port q = s.port q :=
  s.port_modPort_ne _ h

/-- A break cut at SPACE, after the time that the line was held (R40). -/
theorem State.cutBreak_space {tm : Timer} (tx : (s.port p).slu.tx = .breakSpace)
    (timer : (s.port p).exc.timer = some tm) (code : ResultCode) :
    s.cutBreak p code = ((s.lineFreed p).handItem p (.close [(.breakTx, s.measured tm.armedAt)])).endTask p
      { endWith code with outcomeA := s.measured tm.armedAt } := by
  simp only [State.cutBreak, tx, State.spaceTime, timer]
  rfl

theorem State.cutBreak_guard {d : Nat} (tx : (s.port p).slu.tx = .breakGuard d) (code : ResultCode) :
    s.cutBreak p code = (s.lineFreed p).endTask p
      { endWith code with outcomeA := BitVec.ofNat 32 (s.port p).headBreakMs } := by
  simp only [State.cutBreak, tx]
  rfl

theorem State.cutBreak_unbegun {d : Nat} {b : Bool}
    (tx : (s.port p).slu.tx = .gap d b ∨ (s.port p).slu.tx = .pause d) (code : ResultCode) :
    s.cutBreak p code = s.endTask p (endWith code) := by
  rcases tx with h | h <;> simp [State.cutBreak, h]

/-- An item handed to a listening port with no event waiting is its only event (R130). -/
theorem State.handItem_events_only {action : ItemAction} (listening : s.listening p = true)
    (none : (s.port p).ca.events = []) (ordinary : action.always = false) :
    ((s.handItem p action).port p).ca.events =
      [{ position := (s.port p).slu.receiveCount, time := s.partTime, action := action }] := by
  rw [State.handItem_listening listening]
  simp [Capture.placeItem, ordinary, none, Capture.ordinaryItems]

/-- A cancel of a break at SPACE (R19, R40). -/
theorem State.taskCancelled_space {tm : Timer} (queue : (s.port p).queue = [e]) (task : e.kind ≠ .broadcast)
    (state : (s.port p).exc.state = .breaking) (tx : (s.port p).slu.tx = .breakSpace)
    (timer : (s.port p).exc.timer = some tm) :
    s.taskCancelled p e (s.measured tm.armedAt) (s.stopHead p .cancelled)
      ∧ ((s.stopHead p .cancelled).port p).slu = { (s.port p).slu with tx := .free }
      ∧ (s.listening p = true → (s.port p).ca.events = [] →
        ((s.stopHead p .cancelled).port p).ca.events =
          [{ position := (s.port p).slu.receiveCount, time := s.partTime,
             action := .close [(.breakTx, s.measured tm.armedAt)] }]) := by
  have handed := (s.lineFreed p).onlyCapture_handItem p (.close [(.breakTx, s.measured tm.armedAt)])
  have queued := handed.queue.trans (show ((s.lineFreed p).port p).queue = [e] by simpa using queue)
  rw [State.stopHead_breaking state, State.cutBreak_space tx timer]
  refine ⟨State.taskCancelled_endTask queued task ?_ handed.tsu handed.time (fun q hq => ?_) rfl, ?_, ?_⟩
  · simp [handed.exc]
  · rw [handed.elsewhere q hq, State.lineFreed_port_ne _ hq]
  · simp [State.endTask_slu queued task, handed.slu]
  · intro listening none
    rw [State.endTask_ca queued task,
      State.handItem_events_only (s := s.lineFreed p) listening (by simpa using none) rfl]
    simp
    rfl

/-- A cancel of a break in its guard time (R19, R40). -/
theorem State.taskCancelled_guard {d : Nat} (queue : (s.port p).queue = [e]) (task : e.kind ≠ .broadcast)
    (state : (s.port p).exc.state = .breaking) (tx : (s.port p).slu.tx = .breakGuard d) :
    s.taskCancelled p e (BitVec.ofNat 32 (breakMs e.fields.paramA)) (s.stopHead p .cancelled)
      ∧ ((s.stopHead p .cancelled).port p).slu = { (s.port p).slu with tx := .free }
      ∧ ((s.stopHead p .cancelled).port p).ca = (s.port p).ca := by
  have queued : ((s.lineFreed p).port p).queue = [e] := by simpa using queue
  have duration : (s.port p).headBreakMs = breakMs e.fields.paramA := by simp [Port.headBreakMs, queue]
  rw [State.stopHead_breaking state, State.cutBreak_guard tx, duration]
  refine ⟨State.taskCancelled_endTask queued task (by simp) rfl rfl (fun q hq => s.lineFreed_port_ne hq) rfl,
    ?_, ?_⟩
  · simp [State.endTask_slu queued task]
  · simp [State.endTask_ca queued task]

/-- A cancel of a break that waits for the end of a gap or a pause (R19, R40). -/
theorem State.taskCancelled_unbegun {d : Nat} {b : Bool} (queue : (s.port p).queue = [e])
    (task : e.kind ≠ .broadcast) (state : (s.port p).exc.state = .breaking)
    (tx : (s.port p).slu.tx = .gap d b ∨ (s.port p).slu.tx = .pause d) :
    s.taskCancelled p e 0 (s.stopHead p .cancelled)
      ∧ ((s.stopHead p .cancelled).port p).slu = (s.port p).slu
      ∧ ((s.stopHead p .cancelled).port p).ca = (s.port p).ca := by
  rw [State.stopHead_breaking state, State.cutBreak_unbegun tx]
  exact ⟨State.taskCancelled_endTask queue task rfl rfl rfl (fun _ _ => rfl) rfl, State.endTask_slu queue task _,
    State.endTask_ca queue task _⟩

end

end Sys2Proof.Machine
end

section
/-! SUPPORT. What an ABORT makes of a task and of a BROADCAST, by what its cancel finds; the statement on the
immediate kinds. -/

namespace Sys2Proof.Machine

/-! ### ABORT of a task (R17 to R19) -/

/-- With no entry of the target unstarted, outcome A is 2. -/
theorem State.abortOutcome_two {s : State} {target : Nat}
    (none : ∀ q : PortId, (s.port q).cancelFinds target ≠ .unstarted) (shares : s.sharesOf target ≠ 0) :
    s.abortOutcome target = BitVec.ofNat 32 2 := by
  simp [State.abortOutcome, State.unstartedPorts_none none, shares.symm]

/-- With one entry of the target unstarted, outcome A tells whether it is the only one (log 23). -/
theorem State.abortOutcome_one {s : State} {p : PortId} {target : Nat}
    (here : (s.port p).cancelFinds target = .unstarted)
    (others : ∀ q : PortId, q ≠ p → ∀ x ∈ (s.port q).queue, x.slot ≠ target) :
    s.abortOutcome target = BitVec.ofNat 32 (if s.sharesOf target = 1 then 1 else 2) := by
  by_cases h : s.sharesOf target = 1
  · simp [State.abortOutcome, State.unstartedPorts_one here others, h]
  · simp [State.abortOutcome, State.unstartedPorts_one here others, h, Ne.symm h]

/-- A target that stands in no queue has ended already: nothing but the ABORT's completion happens (R21). -/
theorem State.runAbort_ended {s : State} {w : Sweep} {t : TaskSlot}
    (inFlight : t.fields.paramA.toNat ∈ s.tsu.inFlight) (none : s.tsu.broadcasts = [])
    (absent : ∀ q : PortId, ∀ x ∈ (s.port q).queue, x.slot ≠ t.fields.paramA.toNat) :
    s.runAbort w t = s.slotCompleted w 0 s.partTime 2 0 (t.fields.flags.getLsbD 0) := by
  have outcome := State.abortOutcome_two (target := t.fields.paramA.toNat) (s := s)
    (fun q => by simp [Port.cancelFinds_absent (absent q)]) (by simp [State.sharesOf_task none])
  rw [State.runAbort_inFlight inFlight (State.forPorts_idle fun q => State.cancelAt_absent (absent q)) outcome,
    State.completeSlot_abortCompletion]

section
variable {s : State} {w : Sweep} {t : TaskSlot} {p : PortId}

/-- The ABORT of a target whose only entry stands behind a head. -/
theorem State.runAbort_behind {r : State} {head e : QueueEntry} (inFlight : e.slot ∈ s.tsu.inFlight)
    (target : e.slot = t.fields.paramA.toNat) (queue : (s.port p).queue = [head, e]) (other : head.slot ≠ e.slot)
    (others : ∀ q : PortId, q ≠ p → ∀ x ∈ (s.port q).queue, x.slot ≠ e.slot)
    (cancel : s.cancelAt p e.slot = r)
    (effect : s.cancelledAt p r) : s.runAbort w t = r.completeSlot w
      (s.abortCompletion w t (if s.sharesOf e.slot = 1 then 1 else 2)) := by
  subst cancel
  have outcome := State.abortOutcome_one (Port.cancelFinds_behind queue other rfl) others
  rw [target] at inFlight others effect outcome
  rw [target]
  exact State.runAbort_inFlight inFlight (State.forPorts_cancelAt others effect.elsewhere) outcome

/-- The ABORT of a target whose only entry is a started head. -/
theorem State.runAbort_started {r : State} {e : QueueEntry} {rest : List QueueEntry}
    (inFlight : e.slot ∈ s.tsu.inFlight) (target : e.slot = t.fields.paramA.toNat)
    (queue : (s.port p).queue = e :: rest) (started : (s.port p).exc.state ≠ .idle)
    (others : ∀ q : PortId, q ≠ p → ∀ x ∈ (s.port q).queue, x.slot ≠ e.slot)
    (shares : s.sharesOf e.slot ≠ 0)
    (cancel : s.cancelAt p e.slot = r) (effect : s.cancelledAt p r) :
    s.runAbort w t = r.completeSlot w (s.abortCompletion w t 2) := by
  subst cancel
  have none : ∀ q : PortId, (s.port q).cancelFinds e.slot ≠ .unstarted := by
    intro q
    by_cases hq : q = p
    · simp [hq, Port.cancelFinds_started queue started rfl]
    · simp [Port.cancelFinds_absent (others q hq)]
  have outcome := State.abortOutcome_two none shares
  rw [target] at inFlight others effect outcome
  rw [target]
  exact State.runAbort_inFlight inFlight (State.forPorts_cancelAt others effect.elsewhere) outcome

/-- The ABORT of an unstarted task: the entry leaves its queue and is completed CANCELLED (R18). -/
theorem State.runAbort_behind_task {u : State} {head e : QueueEntry} (inFlight : e.slot ∈ s.tsu.inFlight)
    (none : s.tsu.broadcasts = []) (target : e.slot = t.fields.paramA.toNat)
    (queue : (s.port p).queue = [head, e]) (other : head.slot ≠ e.slot) (task : e.kind ≠ .broadcast)
    (others : ∀ q : PortId, q ≠ p → ∀ x ∈ (s.port q).queue, x.slot ≠ e.slot) (hu : s.runAbort w t = u) :
    (u.port p).queue = [head] ∧ (u.port p).exc = (s.port p).exc
      ∧ u.tsu.completions = s.tsu.completions ++ [s.unbegun e.slot e.fields.notify .cancelled]
      ∧ s.abortDone w t 1 u ∧ s.sameElsewhere p u := by
  have cancel := State.cancelAt_behind_task queue other task
  have effect : s.cancelledAt p
      ((s.behindRemoved p e.slot).handCompletion (s.unbegun e.slot e.fields.notify .cancelled)) :=
    ⟨fun q hq => s.behindRemoved_port_ne _ hq, rfl, rfl⟩
  rw [State.runAbort_behind inFlight target queue other others cancel effect, State.sharesOf_task none, if_pos rfl]
    at hu
  subst hu
  refine ⟨?_, by simp, by simp [State.handCompletion], effect.abortDone w t 1⟩
  rw [State.completeSlot_port, State.handCompletion_port, State.behindRemoved_queue queue other]

/-- The ABORT of a started task that is not stopping yet is its stop and the ABORT's own completion (R19). -/
theorem State.runAbort_stops {e : QueueEntry} {rest : List QueueEntry} (inFlight : e.slot ∈ s.tsu.inFlight)
    (none : s.tsu.broadcasts = []) (target : e.slot = t.fields.paramA.toNat)
    (queue : (s.port p).queue = e :: rest) (started : (s.port p).exc.state ≠ .idle)
    (others : ∀ q : PortId, q ≠ p → ∀ x ∈ (s.port q).queue, x.slot ≠ e.slot)
    (going : (s.port p).exc.stopping = Option.none) (effect : s.cancelledAt p (s.stopHead p .cancelled)) :
    s.runAbort w t = (s.stopHead p .cancelled).completeSlot w (s.abortCompletion w t 2) := by
  have cancel := State.cancelAt_started queue started rfl going
  rw [State.markCancelled_none none] at cancel
  exact State.runAbort_started inFlight target queue started others (by simp [State.sharesOf_task none]) cancel effect

/-- The ABORT of a task that is stopping already has no further effect (R21). -/
theorem State.runAbort_stopping {e : QueueEntry} {rest : List QueueEntry} (inFlight : e.slot ∈ s.tsu.inFlight)
    (none : s.tsu.broadcasts = []) (target : e.slot = t.fields.paramA.toNat)
    (queue : (s.port p).queue = e :: rest) (started : (s.port p).exc.state ≠ .idle)
    (others : ∀ q : PortId, q ≠ p → ∀ x ∈ (s.port q).queue, x.slot ≠ e.slot)
    (stopping : (s.port p).exc.stopping ≠ Option.none) :
    s.runAbort w t = s.slotCompleted w 0 s.partTime 2 0 (t.fields.flags.getLsbD 0) := by
  rw [State.runAbort_started inFlight target queue started others (by simp [State.sharesOf_task none])
    (State.cancelAt_stopping queue started rfl stopping) ⟨fun _ _ => rfl, rfl, rfl⟩,
    State.completeSlot_abortCompletion]

/-- The ABORT of a port's only task that its cancel ends: the task has ended, the ABORT's completion is behind it, and
no other port has changed (R19). -/
theorem State.runAbort_ends {u : State} {e : QueueEntry} {a : Word} (inFlight : e.slot ∈ s.tsu.inFlight)
    (none : s.tsu.broadcasts = []) (target : e.slot = t.fields.paramA.toNat) (queue : (s.port p).queue = [e])
    (started : (s.port p).exc.state ≠ .idle)
    (others : ∀ q : PortId, q ≠ p → ∀ x ∈ (s.port q).queue, x.slot ≠ e.slot)
    (going : (s.port p).exc.stopping = Option.none) (hu : s.runAbort w t = u)
    (cancelled : s.taskCancelled p e a (s.stopHead p .cancelled)) :
    s.taskEnded p e .cancelled a u ∧ s.abortDone w t 2 u ∧ s.sameElsewhere p u
      ∧ u.port p = (s.stopHead p .cancelled).port p := by
  rw [State.runAbort_stops inFlight none target queue started others going cancelled.cancelledAt] at hu
  subst hu
  obtain ⟨done, elsewhere⟩ := cancelled.cancelledAt.abortDone w t 2
  exact ⟨State.taskEnded_completeSlot cancelled.ended _ _, done, elsewhere, State.completeSlot_port ..⟩

/-! ### ABORT of a BROADCAST (R20, R48) -/

/-- The ABORT of an unstarted share: the share leaves its queue, and its end is noted for the slot. -/
theorem State.runAbort_behind_share {u : State} {b : Broadcast} {head e : QueueEntry}
    (inFlight : e.slot ∈ s.tsu.inFlight) (only : s.tsu.broadcasts = [b]) (slot : e.slot = b.slot)
    (target : e.slot = t.fields.paramA.toNat) (queue : (s.port p).queue = [head, e]) (other : head.slot ≠ e.slot)
    (share : e.kind = .broadcast) (others : ∀ q : PortId, q ≠ p → ∀ x ∈ (s.port q).queue, x.slot ≠ e.slot)
    (hu : s.runAbort w t = u) :
    (u.port p).queue = [head] ∧ (u.port p).exc = (s.port p).exc
      ∧ s.abortDone w t (if b.total = 1 then 1 else 2) u ∧ s.sameElsewhere p u
      ∧ (1 < b.left → u.tsu.completions = s.tsu.completions
        ∧ u.tsu.broadcasts
          = [({ b with cancelled := true } : Broadcast).note p .neither s.partTime s.partTime 0 false])
      ∧ (b.left = 1 → u.tsu.broadcasts = [] ∧ u.tsu.completions = s.tsu.completions
        ++ [(({ b with cancelled := true } : Broadcast).note p .neither s.partTime s.partTime 0 false).completion
          s.partTime]) := by
  have cancel := State.cancelAt_behind_share queue other share
  have effect : s.cancelledAt p
      (((s.behindRemoved p e.slot).markCancelled e.slot).shareEnds p e.slot .neither s.partTime 0 false) := by
    refine ⟨fun q hq => ?_, by simp, by simp⟩
    rw [State.shareEnds_port, State.markCancelled_port, State.behindRemoved_port_ne _ _ hq]
  rw [State.runAbort_behind inFlight target queue other others cancel effect, slot,
    State.sharesOf_broadcast only] at hu
  rw [slot] at effect
  subst hu
  obtain ⟨done, elsewhere⟩ := effect.abortDone w t (if b.total = 1 then 1 else 2)
  have assembly : ((s.behindRemoved p b.slot).markCancelled b.slot).tsu.broadcasts = [{ b with cancelled := true }] :=
    State.markCancelled_one only
  refine ⟨?_, ?_, done, elsewhere, fun more => ?_, fun last => ?_⟩
  · rw [State.completeSlot_port, State.shareEnds_port, State.markCancelled_port, ← slot,
      State.behindRemoved_queue queue other]
  · simp
  · have noted := State.shareEnds_noted assembly rfl more p .neither s.partTime 0 false
    rw [State.completeSlot_completions, State.completeSlot_broadcasts, noted]
    exact ⟨rfl, rfl⟩
  · have completed := State.shareEnds_completed assembly rfl last p .neither s.partTime 0 false
    rw [State.completeSlot_completions, State.completeSlot_broadcasts, completed]
    exact ⟨rfl, rfl⟩

/-- The ABORT of a started share that is not stopping yet marks the slot and stops the share (R20). -/
theorem State.runAbort_stops_share {b : Broadcast} {e : QueueEntry} (inFlight : e.slot ∈ s.tsu.inFlight)
    (only : s.tsu.broadcasts = [b]) (slot : e.slot = b.slot) (admitted : 0 < b.total)
    (target : e.slot = t.fields.paramA.toNat) (queue : (s.port p).queue = [e])
    (started : (s.port p).exc.state ≠ .idle)
    (others : ∀ q : PortId, q ≠ p → ∀ x ∈ (s.port q).queue, x.slot ≠ e.slot)
    (going : (s.port p).exc.stopping = none)
    (effect : s.cancelledAt p ((s.markCancelled b.slot).stopHead p .cancelled)) :
    s.runAbort w t
      = ((s.markCancelled b.slot).stopHead p .cancelled).completeSlot w (s.abortCompletion w t 2) := by
  have cancel := State.cancelAt_started queue started rfl going
  rw [← slot] at effect ⊢
  refine State.runAbort_started inFlight target queue started others ?_ cancel effect
  rw [slot, State.sharesOf_broadcast only]
  omega

/-- A started share whose character is on the line stops at its end; its slot is marked cancelled (R19, R20). -/
theorem State.runAbort_share_inCharacter {u : State} {b : Broadcast} {e : QueueEntry} {c : TxCharacter}
    (inFlight : e.slot ∈ s.tsu.inFlight) (only : s.tsu.broadcasts = [b]) (slot : e.slot = b.slot)
    (admitted : 0 < b.total) (target : e.slot = t.fields.paramA.toNat) (queue : (s.port p).queue = [e])
    (others : ∀ q : PortId, q ≠ p → ∀ x ∈ (s.port q).queue, x.slot ≠ e.slot)
    (sending : (s.port p).exc.state = .sending ∨ (s.port p).exc.state = .draining)
    (going : (s.port p).exc.stopping = none) (tx : (s.port p).slu.tx = .character c) (hu : s.runAbort w t = u) :
    s.stopsAtCharacterEnd p .cancelled u ∧ s.abortDone w t 2 u ∧ s.sameElsewhere p u
      ∧ u.tsu.broadcasts = [{ b with cancelled := true }] := by
  have started : (s.port p).exc.state ≠ .idle := by rcases sending with h | h <;> simp [h]
  obtain ⟨stops, elsewhere, tsu, _⟩ :=
    State.stopsAtCharacterEnd_stopHead (s := s.markCancelled b.slot) (why := .cancelled) sending tx going
  have effect : s.cancelledAt p ((s.markCancelled b.slot).stopHead p .cancelled) :=
    ⟨elsewhere, by rw [tsu]; rfl, by rw [tsu]; rfl⟩
  rw [State.runAbort_stops_share inFlight only slot admitted target queue started others going effect] at hu
  subst hu
  obtain ⟨done, same⟩ := effect.abortDone w t 2
  refine ⟨State.stopsAtCharacterEnd_completeSlot stops _ _, done, same, ?_⟩
  rw [State.completeSlot_broadcasts, tsu, State.markCancelled_one only]

/-- A share that is cancelled joins the sent set with all its text sent, and none earlier (R46, R48). -/
theorem shareSet_cancelled (complete : Bool) :
    shareSet StopCause.cancelled.code complete = if complete then .sent else .neither := rfl

/-- A cancelled share changes the sent set alone, and that only with all its text sent (R46, R47). -/
theorem Broadcast.note_cancelled (b : Broadcast) (p : PortId) (complete : Prop) [Decidable complete]
    (start now : Word) (n : Nat) (fault : Bool) :
    (b.note p (if complete then .sent else .neither) start now n fault).refused = b.refused
      ∧ (b.note p (if complete then .sent else .neither) start now n fault).drained = b.drained
      ∧ (b.note p (if complete then .sent else .neither) start now n fault).sent
        = if complete then b.sent ||| 1#24 <<< p.val else b.sent := by
  by_cases h : complete <;> simp [h, Broadcast.note, portBit]

/-- A started share with no character on the line ends at once, and its end is noted for its slot (R19, R20, R47). -/
theorem State.runAbort_share_between {u : State} {b : Broadcast} {e : QueueEntry}
    (inFlight : e.slot ∈ s.tsu.inFlight) (only : s.tsu.broadcasts = [b]) (slot : e.slot = b.slot)
    (admitted : 0 < b.total) (more : 1 < b.left) (target : e.slot = t.fields.paramA.toNat)
    (queue : (s.port p).queue = [e]) (share : e.kind = .broadcast)
    (others : ∀ q : PortId, q ≠ p → ∀ x ∈ (s.port q).queue, x.slot ≠ e.slot)
    (sending : (s.port p).exc.state = .sending ∨ (s.port p).exc.state = .draining)
    (going : (s.port p).exc.stopping = none) (tx : ∀ c, (s.port p).slu.tx ≠ .character c)
    (hu : s.runAbort w t = u) :
    (u.port p).queue = [] ∧ (u.port p).exc = Exc.idle ∧ s.abortDone w t 2 u ∧ s.sameElsewhere p u
      ∧ u.tsu.completions = s.tsu.completions
      ∧ ∃ start now fault, u.tsu.broadcasts = [({ b with cancelled := true } : Broadcast).note p
          (if e.fields.textLength ≤ (s.port p).exc.bytesSent then .sent else .neither) start now
          (s.port p).exc.bytesSent fault] := by
  have started : (s.port p).exc.state ≠ .idle := by rcases sending with h | h <;> simp [h]
  obtain ⟨queued, idle, elsewhere, start, now, fault, tsu⟩ := State.stopHead_share (s := s.markCancelled b.slot)
    (c := { b with cancelled := true }) (why := .cancelled) queue share slot (State.markCancelled_one only) more
    sending tx rfl
  have effect : s.cancelledAt p ((s.markCancelled b.slot).stopHead p .cancelled) :=
    ⟨elsewhere, by rw [tsu]; rfl, by rw [tsu]; rfl⟩
  rw [State.runAbort_stops_share inFlight only slot admitted target queue started others going effect] at hu
  subst hu
  obtain ⟨done, same⟩ := effect.abortDone w t 2
  refine ⟨by rw [State.completeSlot_port, queued], by rw [State.completeSlot_port, idle], done, same, ?_,
    start, now, fault, ?_⟩
  · rw [State.completeSlot_completions, tsu, State.markCancelled_completions]
  · rw [State.completeSlot_broadcasts, tsu, shareSet_cancelled]
    simp only [decide_eq_true_eq]
    rfl

end

/-! ### The statement -/

/-- Settles O57: PATTERN and SENSE by what they hand over, ABORT by what its cancel finds at the one port that holds
the target. -/
theorem immediateKindsTakeEffect : Obligations.ImmediateKindsTakeEffect := by
  refine ⟨?_, ?_, ?_, ?_, ?_, ?_, ?_, ?_, ?_, ?_⟩
  · intro s w t start bytes es hb
    have known : parseElements bytes = some es := by
      rw [hb]
      exact parseElements_pairs (fun e => by cases e with | mk kind value => cases kind <;> rfl) es
    obtain ⟨table, progress, tsu⟩ := State.completePattern_effects
      (State.patternArrives_known known w t start).symm
    exact ⟨table, progress, fun _ => tsu⟩
  · intro s w t
    constructor
    · intro empty
      have run : s.completePattern w t s.partTime none = s.runPattern w t := by rw [State.runPattern, if_pos empty]
      exact State.completePattern_effects run
    · intro text
      rw [State.runPattern, if_neg text]
      rfl
  · intro s w t start read bytes sweep stage
    obtain ⟨arrives, faults⟩ := State.sweepReadEnds_pattern sweep stage bytes
    exact ⟨faults.trans (s.patternFaults_eq w t start), arrives⟩
  · intro s w t start bytes i k even at_i unknown
    rw [State.patternArrives_unknown (parseElements_unknown even at_i unknown),
      State.slotCompleted_small _ _ _ _ _ (by decide)]
    rfl
  · intro s w t
    have tsu := s.runSense_tsu w t
    have scanner : (s.runSense w t).scanner = (s.takeSenseSettings t.fields).scanner := by
      rw [State.runSense_eq, State.slotCompleted_scanner]
    rw [scanner, State.takeSenseSettings_scanner] at tsu ⊢
    refine ⟨rfl, rfl, rfl, rfl, tsu, rfl, fun p => ?_⟩
    rw [State.runSense_eq, State.slotCompleted_port, State.takeSenseSettings_sense]
    rfl
  · intro s w t absent
    rw [State.runAbort_notFound absent, State.slotCompleted_small _ _ _ _ _ (by decide)]
    rfl
  · intro s w t p head e inFlight none queue started other target task others
    exact State.runAbort_behind_task (target ▸ inFlight) none target queue other task others rfl
  · intro s w t inFlight none absent
    exact State.runAbort_ended inFlight none absent
  · intro s u w t p e rest inFlight none queue started target task others hu
    rw [← target] at inFlight
    refine ⟨fun stopping => ?_, fun c going sending tx => ?_, fun going alone => ?_⟩
    · rw [← hu, State.runAbort_stopping inFlight none target queue started others stopping]
    · obtain ⟨stopped, elsewhere, tsu, _⟩ :=
        State.stopsAtCharacterEnd_stopHead (why := .cancelled) sending tx going
      have effect : s.cancelledAt p (s.stopHead p .cancelled) := ⟨elsewhere, by rw [tsu], by rw [tsu]⟩
      rw [State.runAbort_stops inFlight none target queue started others going effect] at hu
      exact hu ▸ ⟨State.stopsAtCharacterEnd_completeSlot stopped _ _, effect.abortDone w t 2⟩
    · subst alone
      have ends := fun {a} => State.runAbort_ends (a := a) inFlight none target queue started others going hu
      refine ⟨fun waiting => ?_, fun sending tx => ?_, fun breaking => ⟨fun tm held tx timer hheld => ?_,
        fun d tx => ?_, fun d b tx => ?_⟩⟩
      · obtain ⟨cancelled, slu, await⟩ := State.taskCancelled_waiting queue task waiting
        obtain ⟨ended, done, elsewhere, port⟩ := ends cancelled
        exact port ▸ ⟨ended, done, slu, elsewhere, await⟩
      · obtain ⟨cancelled, slu⟩ := State.taskCancelled_sending queue task sending tx
        obtain ⟨ended, done, elsewhere, port⟩ := ends cancelled
        exact port ▸ ⟨ended, done, slu, elsewhere⟩
      · subst hheld
        obtain ⟨cancelled, slu, events⟩ := State.taskCancelled_space queue task breaking tx timer
        obtain ⟨ended, done, elsewhere, port⟩ := ends cancelled
        have listens : s.bus.control ≠ .off → p.val < s.tsu.geometry.portCount → s.listening p = true := by
          intro on inUse
          simp [State.listening, State.inUse, on, inUse]
        exact port ▸ ⟨ended, done, slu, elsewhere, fun on inUse => events (listens on inUse)⟩
      · obtain ⟨cancelled, slu, ca⟩ := State.taskCancelled_guard queue task breaking tx
        obtain ⟨ended, done, elsewhere, port⟩ := ends cancelled
        exact port ▸ ⟨ended, done, slu, ca, elsewhere⟩
      · obtain ⟨cancelled, slu, ca⟩ := State.taskCancelled_unbegun queue task breaking tx
        obtain ⟨ended, done, elsewhere, port⟩ := ends cancelled
        exact port ▸ ⟨ended, done, slu, ca, elsewhere⟩
  · intro s u w t p b inFlight only target admitted others hu
    rw [← target] at inFlight
    refine ⟨fun head e queue started other slot share => ?_, fun e queue slot share sending going => ⟨?_, ?_⟩⟩
    · rw [← slot] at inFlight other others
      obtain ⟨queued, exc, done, elsewhere, more, last⟩ := State.runAbort_behind_share inFlight only slot
        (slot.trans target) queue other share others hu
      refine ⟨queued, exc, done, elsewhere, fun h => ?_, fun h => ?_⟩
      · exact ⟨(more h).1, _, (more h).2, rfl, rfl, rfl, rfl, rfl⟩
      · exact ⟨(last h).1, _, (last h).2, rfl, rfl, rfl⟩
    · rintro ⟨c, tx⟩
      rw [← slot] at inFlight others
      exact State.runAbort_share_inCharacter inFlight only slot admitted (slot.trans target) queue others sending
        going tx hu
    · intro tx more
      rw [← slot] at inFlight others
      obtain ⟨queued, idle, done, elsewhere, completions, start, now, fault, noted⟩ :=
        State.runAbort_share_between inFlight only slot admitted more (slot.trans target) queue share others sending
          going tx hu
      exact ⟨queued, idle, done, elsewhere, completions, _, noted, rfl, rfl, Broadcast.note_cancelled ..⟩

end Sys2Proof.Machine
end

section
/-! SUPPORT. What keeps the bounds of a port and of the link: the arithmetic of periods, counters and gaps, and the
shared operations on the state; the statement on the reset state. -/

namespace Sys2Proof.Machine

/-! ### Periods (R68, R69, R98) -/

theorem clampRate_bounds (rate : Nat) : 600 ≤ clampRate rate ∧ clampRate rate ≤ 1152000 := by
  unfold clampRate
  omega

/-- The period of a clamped rate lies between those of the clamp's ends (R69). -/
theorem periodOfRate_bounds (rate : Nat) : 32 ≤ periodOfRate rate ∧ periodOfRate rate ≤ 61440 := by
  obtain ⟨low, high⟩ := clampRate_bounds rate
  unfold periodOfRate
  constructor
  · rw [Nat.le_div_iff_mul_le (by omega), Config.referenceHz]
    omega
  · rw [← Nat.lt_succ_iff, Nat.div_lt_iff_lt_mul (by omega), Config.referenceHz]
    omega

/-- A choice folded over candidates answers one of them. -/
theorem foldl_choice_mem {α : Type} {better : α → α → Bool} (candidates : List α) (first : α) :
    candidates.foldl (fun best q => if better best q then q else best) first = first
      ∨ candidates.foldl (fun best q => if better best q then q else best) first ∈ candidates := by
  induction candidates generalizing first with
  | nil => exact .inl rfl
  | cons q rest ih =>
    rw [List.foldl_cons]
    rcases ih (if better first q then q else first) with same | later
    · rw [same]
      split
      · exact .inr List.mem_cons_self
      · exact .inl rfl
    · exact .inr (List.mem_cons_of_mem q later)

theorem nearestStandard_mem (estimate : Nat) : nearestStandard estimate ∈ standardPeriods := by
  have chosen := foldl_choice_mem
    (better := fun best q => decide (periodDistance estimate q < periodDistance estimate best)) standardPeriods 61440
  simp only [decide_eq_true_eq] at chosen
  rcases chosen with first | later
  · rw [nearestStandard, first]
    decide
  · exact later

theorem standardPeriods_bounds : ∀ q ∈ standardPeriods, 32 ≤ q ∧ q ≤ 61440 := by decide

/-- An estimate gives a standard period or is clamped (R98). -/
theorem periodOfEstimate_bounds (estimate : Nat) :
    32 ≤ periodOfEstimate estimate ∧ periodOfEstimate estimate ≤ 61440 := by
  unfold periodOfEstimate
  dsimp only
  split
  · exact standardPeriods_bounds _ (nearestStandard_mem estimate)
  · omega

/-! ### Counters and gaps (R91, R137) -/

theorem countUp_le {n : Nat} (h : n ≤ 65535) (on : Bool) : countUp n on ≤ 65535 := by
  unfold countUp
  split
  · exact Nat.min_le_right _ _
  · exact h

/-- The pending gap holds at its ceiling (R137). -/
theorem Capture.gapCount_addGap {ca : Capture} (h : ca.gapCount ≤ 4294967295) (cause : GapCause)
    (sequence time : Word) (n : Nat) : (ca.addGap cause sequence time n).gapCount ≤ 4294967295 := by
  unfold Capture.addGap
  split
  · exact h
  · split <;> exact Nat.min_le_right _ _

theorem Capture.gapCount_gapOfDiscarded {ca : Capture} (h : ca.gapCount ≤ 4294967295) (records : List UnitRecord) :
    (ca.gapOfDiscarded records).gapCount ≤ 4294967295 := by
  induction records generalizing ca with
  | nil => exact h
  | cons r rest ih =>
    unfold Capture.gapOfDiscarded
    split
    · next equal => cases equal
    · next equal =>
      cases equal
      exact ih (Capture.gapCount_addGap h ..)
    · next equal =>
      cases equal
      exact ih h

/-! ### The bounds of a port -/

section
variable {v : Port}

@[simp] theorem Port.bounded_noting (old new : Port) : (old.noting new).bounded ↔ new.bounded := by
  rcases Port.noting_eq old new with h | h <;> rw [h]
  rfl

/-- A port with its capture assembler changed within the bounds of the gap. -/
theorem Port.bounded.withCapture (h : v.bounded) {ca : Capture} (gap : ca.gapCount ≤ 4294967295) :
    ({ v with ca := ca } : Port).bounded :=
  ⟨h.1, h.2.1, h.2.2.1, gap⟩

theorem Port.bounded.gap (h : v.bounded) : v.ca.gapCount ≤ 4294967295 := h.2.2.2

/-- A queue that has grown no longer, with any state of the controller and the hold record. -/
theorem Port.bounded.withQueue (h : v.bounded) {queue : List QueueEntry} (exc : Exc) (hold : Hold)
    (le : queue.length ≤ 8) : ({ v with queue := queue, exc := exc, hold := hold } : Port).bounded :=
  ⟨⟨le, h.1.2⟩, h.2⟩

theorem Port.bounded.queue (h : v.bounded) : v.queue.length ≤ 8 := h.1.1

end

/-- A port after a hard reset holds nothing, at a period within the range. -/
theorem Port.bounded_reset : Port.reset.bounded := by
  refine ⟨⟨?_, ?_⟩, ⟨?_, ?_⟩, ⟨?_, ?_, ?_, ?_⟩, Nat.zero_le _⟩ <;> decide

/-! ### The bounds of the whole part -/

section
variable {s t : State}

theorem State.Safe.port (h : s.Safe) (p : PortId) : (s.port p).bounded := h.1 p

theorem State.Safe.link (h : s.Safe) : s.linkBounded := h.2

theorem State.Safe.setPort (h : s.Safe) (p : PortId) {v : Port} (hv : v.bounded) : (s.setPort p v).Safe := by
  refine ⟨fun q => ?_, h.link⟩
  by_cases hq : q = p
  · subst hq
    simpa using hv
  · rw [s.port_setPort_ne v hq]
    exact h.port q

theorem State.Safe.modPort (h : s.Safe) {p : PortId} {f : Port → Port}
    (keeps : (s.port p).bounded → (f (s.port p)).bounded) : (s.modPort p f).Safe :=
  h.setPort p ((Port.bounded_noting ..).2 (keeps (h.port p)))

theorem State.Safe.modPorts (h : s.Safe) {f : PortId → Port → Port}
    (keeps : ∀ p, (s.port p).bounded → (f p (s.port p)).bounded) : (s.modPorts f).Safe := by
  refine ⟨fun p => ?_, ?_⟩
  · rw [State.port_modPorts, Port.bounded_noting]
    exact keeps p (h.port p)
  · rw [State.linkBounded, State.modPorts_hme]
    exact h.link

theorem State.Safe.forPorts (h : s.Safe) {f : PortId → State → State} (keeps : ∀ p u, u.Safe → (f p u).Safe) :
    (s.forPorts f).Safe :=
  State.forPorts_keeps keeps h

/-! ### Messages, causes and notices -/

theorem Hme.queuedWrites_append (h : Hme) (items : List LinkItem) :
    ({ h with outgoing := h.outgoing ++ items } : Hme).queuedWrites
      = h.queuedWrites + ({ h with outgoing := items } : Hme).queuedWrites := by
  simp [Hme.queuedWrites]

theorem State.Safe.sendMessage (h : s.Safe) : s.sendMessage.Safe := by
  refine ⟨fun p => ?_, ?_⟩
  · rw [State.sendMessage_port]
    exact h.port p
  · unfold State.sendMessage
    split
    · refine ⟨?_, ?_⟩
      · rw [Hme.queuedWrites_flush, Hme.queuedWrites_append]
        exact h.link.1
      · rw [Hme.reads_flush]
        exact h.link.2
    · exact h.link

theorem State.Safe.raiseBits (h : s.Safe) (bits : BitVec 10) : (s.raiseBits bits).Safe := by
  have raised : ({ s with attention := s.attention ||| bits } : State).Safe := h
  rcases s.raiseBits_cases bits with eq | eq <;> rw [eq]
  · exact raised
  · exact raised.sendMessage

theorem State.Safe.raise (h : s.Safe) (c : Cause) : (s.raise c).Safe := h.raiseBits c.bit

theorem State.Safe.notice (h : s.Safe) (p : PortId) (kind : NoticeKind) : (s.notice p kind).Safe := by
  unfold State.notice
  dsimp only
  split
  · exact h.modPort id
  · exact (h.modPort id).raise _

/-! ### Requests -/

/-- The pieces of a write are writes, as many as it has (R168, R169). -/
theorem queuedWrites_writePieces (h : Hme) (a : Addr) (bytes : List Byte) (task : Bool) (pieces : List (Addr × Nat)) :
    ({ h with outgoing := writePieces a bytes task pieces } : Hme).queuedWrites = pieces.length := by
  induction pieces generalizing bytes with
  | nil => rfl
  | cons x rest ih =>
    obtain ⟨b, n⟩ := x
    exact congrArg (· + 1) (ih (bytes.drop n))

theorem State.Safe.grantWrite (h : s.Safe) {a : Addr} {bytes : List Byte} (fits : s.writeFits a bytes.length = true)
    (task : Bool) : (s.grantWrite a bytes task).Safe := by
  refine ⟨h.1, ?_, h.link.2⟩
  rw [State.grantWrite, Hme.queuedWrites_append, queuedWrites_writePieces]
  exact of_decide_eq_true fits

theorem queuedWrites_reads (h : Hme) (entries : List ReadEntry) :
    ({ h with outgoing := entries.map fun e => .read e.tag e.address e.length } : Hme).queuedWrites = 0 := by
  induction entries with
  | nil => rfl
  | cons e rest ih => exact ih

theorem State.Safe.grantRead (h : s.Safe) (r : Requester) {a : Addr} {n : Nat} (fits : s.readFits a n = true) :
    (s.grantRead r a n).Safe := by
  refine ⟨h.1, ?_, ?_⟩
  · have writes := (s.hme.queuedWrites_append _).trans (congrArg _ (queuedWrites_reads s.hme
      (readEntries r s.hme.nextRead s.hme.nextTag (piecesOf a n))))
    exact writes.trans_le h.link.1
  · simp only [State.grantRead, List.length_append, readEntries_length]
    exact of_decide_eq_true fits

/-- A read table no longer than the one before. -/
theorem State.Safe.withReads (h : s.Safe) {reads : List ReadEntry} (le : reads.length ≤ s.hme.reads.length) :
    (s.withReads reads).Safe :=
  ⟨h.1, h.link.1, le.trans h.link.2⟩

theorem discardEntries_length_le (read : Nat) (reads : List ReadEntry) :
    (discardEntries read reads).length ≤ reads.length := by
  simp only [discardEntries, List.length_map]
  exact List.length_filter_le _ _

theorem State.Safe.discardRead (h : s.Safe) (read : Option Nat) : (s.discardRead read).Safe := by
  cases read with
  | none => exact h
  | some r => exact h.withReads (discardEntries_length_le r _)

end

/-- Settles O13: every port of the reset state is at its reset values, and the link holds nothing. -/
theorem resetStateIsSafe : Obligations.ResetStateIsSafe := by
  refine ⟨fun p => ?_, by decide, by decide⟩
  have port : State.reset.port p = Port.reset := by simp [State.port, State.reset]
  rw [port]
  exact Port.bounded_reset

end Sys2Proof.Machine
end

section
/-! SUPPORT. Every operation of a port's blocks keeps the bounds: each lemma follows its operation part by part. -/

namespace Sys2Proof.Machine

section
variable {s t : State} {v : Port}

/-! ### The Pattern Matcher -/

/-- The controller, the matching state and the freeze have no part in the bounds. -/
theorem Port.bounded.withMatching (h : v.bounded) (exc : Exc) (pm : PortMatch) (freeze : Freeze) :
    ({ v with exc := exc, pm := pm, freeze := freeze } : Port).bounded := h

theorem State.Safe.watchNotices (h : s.Safe) (p : PortId) (sequence : Word) (watched : List PatternId) :
    (s.watchNotices p sequence watched).Safe := by
  induction watched generalizing s with
  | nil => exact h
  | cons i rest ih => exact ih ((h.modPort id).notice p .watch)

theorem State.Safe.takeByte (h : s.Safe) (p : PortId) (b : Byte) (sequence : Word) :
    (s.takeByte p b sequence).1.Safe := by
  unfold State.takeByte
  exact State.Safe.watchNotices (h.modPort fun b => b.withMatching _ _ _) p sequence _

theorem State.Safe.setPattern (h : s.Safe) (i : PatternId) (contents : Option (List Element)) :
    (s.setPattern i contents).Safe := by
  have entered : ({ s with patterns := s.patterns.set i contents } : State).Safe := h
  unfold State.setPattern
  exact entered.modPorts fun _ b => b.withMatching _ _ _

/-! ### The Capture Assembler -/

theorem State.Safe.handItem (h : s.Safe) (p : PortId) (a : ItemAction) : (s.handItem p a).Safe := by
  unfold State.handItem
  split
  · exact h.modPort id
  · exact h

theorem State.Safe.closeTxRecord (h : s.Safe) (p : PortId) : (s.closeTxRecord p).Safe := by
  unfold State.closeTxRecord
  split
  · exact h
  · exact State.Safe.handItem (h.modPort id) p _

theorem State.Safe.closeTx (h : s.Safe) (p : PortId) : (s.closeTx p).Safe := by
  unfold State.closeTx
  split
  · exact (State.Safe.handItem (h.modPort id) p _).closeTxRecord p
  · exact h.closeTxRecord p

theorem State.Safe.logTxByte (h : s.Safe) (p : PortId) (slot : Nat) (byte : Byte) (startTime : Word) :
    (s.logTxByte p slot byte startTime).Safe := by
  unfold State.logTxByte
  dsimp only
  split
  · exact h
  · split
    · exact (h.handItem p _).modPort id
    · split
      · exact State.Safe.closeTxRecord (h.modPort id) p
      · exact h.modPort id

theorem State.Safe.discardUnit (h : s.Safe) (p : PortId) (u : WriteUnit) : (s.discardUnit p u).Safe := by
  have dropped : (s.modPort p fun v =>
      { v with ca := { v.ca.gapOfDiscarded u.records with inHand := none } }).Safe :=
    h.modPort fun b => b.withCapture (Capture.gapCount_gapOfDiscarded b.gap u.records)
  unfold State.discardUnit
  dsimp only
  split
  · exact State.Safe.notice (dropped.modPort id) p .full
  · exact dropped

theorem State.Safe.passUnit (h : s.Safe) (p : PortId) (u : WriteUnit) : (s.passUnit p u).Safe :=
  h.modPort id

theorem State.Safe.testUnit (h : s.Safe) (p : PortId) (u : WriteUnit) : (s.testUnit p u).Safe := by
  unfold State.testUnit
  dsimp only
  split
  · exact h.passUnit p u
  · split
    · exact h.discardUnit p u
    · exact h.modPort id

theorem State.Safe.takeInHand (h : s.Safe) (p : PortId) (record : Option CaptureRecord) (joinGap : Bool) :
    (s.takeInHand p record joinGap).Safe := by
  unfold State.takeInHand
  extract_lets ca gap records
  split
  · exact h
  · split
    · exact h
    · exact h.modPort id
    · exact h.testUnit p _

theorem Port.bounded.freezeByte (h : v.bounded) (sequence now : Word) (trigger : Option PatternId) :
    (v.freezeByte sequence now trigger).bounded := by
  unfold Port.freezeByte
  split
  · split
    · dsimp only
      split <;> exact h
    · split
      · exact h
      · dsimp only
        split <;> exact h
    all_goals exact h
  · exact h

theorem Port.bounded.loseRun (h : v.bounded) (run : LossRun) (now : Word) : (v.loseRun run now).bounded := by
  unfold Port.loseRun
  split
  · exact h
  · split
    · exact h.withCapture (Capture.gapCount_addGap h.gap ..)
    · dsimp only
      split <;> exact h.withCapture (Capture.gapCount_addGap h.gap ..)

theorem State.Safe.captureStep (h : s.Safe) (p : PortId) (step : CaptureStep) : (s.captureStep p step).Safe := by
  cases step with
  | write record joinGap => exact h.takeInHand p _ _
  | writeGap => exact h.takeInHand p _ _
  | loseRun run met => exact h.modPort fun b => b.loseRun run met

theorem State.Safe.runAgenda (h : s.Safe) (p : PortId) (steps : List CaptureStep) : (s.runAgenda p steps).Safe :=
  State.runAgenda_keeps (P := State.Safe) (fun _ c hs => hs.captureStep p c) (fun _ _ hs => hs.modPort id) steps h

theorem State.Safe.resumeAgenda (h : s.Safe) (p : PortId) : (s.resumeAgenda p).Safe := h.runAgenda p _

theorem State.Safe.retestUnit (h : s.Safe) (p : PortId) : (s.retestUnit p).Safe := by
  unfold State.retestUnit
  split
  · exact h
  · split
    · exact h
    · split
      · exact h.passUnit p _
      · exact (h.discardUnit p _).resumeAgenda p

theorem Port.bounded.meetByte (h : v.bounded) (e : FifoEntry) (now : Word) : (v.meetByte e now).1.bounded := by
  have taken : ({ v with slu := { v.slu with fifo := v.slu.fifo.tail } } : Port).bounded := by
    obtain ⟨⟨queue, fifo⟩, rest⟩ := h
    refine ⟨⟨queue, ?_⟩, rest⟩
    exact (List.length_tail.trans_le (Nat.sub_le _ _)).trans fifo
  unfold Port.meetByte
  dsimp only
  split
  · exact taken
  · split
    · exact taken.withCapture (Capture.gapCount_addGap taken.gap ..)
    · split
      · exact taken.withCapture (Capture.gapCount_addGap taken.gap ..)
      · split <;> exact Port.bounded.freezeByte (taken.withCapture (by exact h.gap)) ..

theorem State.Safe.meetItem (h : s.Safe) (p : PortId) (it : EventItem) : (s.meetItem p it).Safe := by
  have closed : (s.modPort p fun v =>
      { v with ca := { v.ca with events := v.ca.removeItem it, openData := none } }).Safe := h.modPort id
  unfold State.meetItem
  dsimp only
  split
  · exact State.Safe.runAgenda (closed.modPort id) p _
  · exact (State.Safe.notice (closed.modPort id) p .frozen).runAgenda p _
  all_goals exact closed.runAgenda p _

theorem State.Safe.meetInput (h : s.Safe) (p : PortId) (input : CaptureInput) : (s.meetInput p input).Safe := by
  cases input with
  | byte e => exact State.Safe.runAgenda (h.modPort fun b => b.meetByte e _) p _
  | run r => exact State.Safe.runAgenda (h.modPort id) p _
  | item it => exact h.meetItem p it

theorem State.Safe.thaw (h : s.Safe) (p : PortId) : (s.thaw p).1.Safe := by
  unfold State.thaw
  dsimp only
  split
  · exact h
  · exact State.Safe.modPort (h.modPort id) id
  · exact State.Safe.handItem (h.modPort id) p _

theorem State.Safe.markEnabled (h : s.Safe) (p : PortId) : (s.markEnabled p).Safe := h.runAgenda p _

/-! ### The transmitter and the receiver -/

theorem State.Safe.handByte (h : s.Safe) (p : PortId) : (s.handByte p).Safe := by
  unfold State.handByte
  split
  · exact h
  · exact h.modPort id

theorem State.Safe.serveTransmitter (h : s.Safe) (p : PortId) : (s.serveTransmitter p).Safe := by
  rcases s.serveTransmitter_cases p with eq | eq | eq <;> rw [eq]
  · exact h
  · exact h.handByte p
  · exact h.modPort id

theorem State.Safe.stopFetch (h : s.Safe) (p : PortId) : (s.stopFetch p).Safe := (h.discardRead _).modPort id

theorem State.Safe.textArrives (h : s.Safe) (p : PortId) (read : Nat) (bytes : List Byte) :
    (s.textArrives p read bytes).Safe := by
  unfold State.textArrives
  split
  · exact State.Safe.serveTransmitter (h.modPort id) p
  · exact h

/-- A byte joins the FIFO only where it has room (R89). -/
theorem Port.bounded.storeByte (h : v.bounded) (e : FifoEntry) : (v.storeByte e).bounded := by
  unfold Port.storeByte
  split
  · next room =>
    obtain ⟨⟨queue, _⟩, rest⟩ := h
    refine ⟨⟨queue, ?_⟩, rest⟩
    simpa using room
  · refine h.withCapture ?_
    unfold Capture.loseByte
    dsimp only
    split
    · split <;> exact h.gap
    · exact h.gap

/-- The error counters of a port, counted on, hold at their ceiling (R91). -/
theorem Port.bounded.counted (h : v.bounded) (quietEnd : Option Nat) {errors : ErrorCounters}
    (counters : errors.framing ≤ 65535 ∧ errors.parity ≤ 65535 ∧ errors.overruns ≤ 65535 ∧ errors.breaks ≤ 65535) :
    ({ v with slu := { v.slu with quietEnd := quietEnd, errors := errors } } : Port).bounded :=
  ⟨h.1, h.2.1, counters, h.2.2.2⟩

theorem Port.bounded.countByte (h : v.bounded) (framing parity lost : Bool) :
    (v.slu.errors.countByte framing parity lost).framing ≤ 65535
      ∧ (v.slu.errors.countByte framing parity lost).parity ≤ 65535
      ∧ (v.slu.errors.countByte framing parity lost).overruns ≤ 65535
      ∧ (v.slu.errors.countByte framing parity lost).breaks ≤ 65535 := by
  obtain ⟨_, _, ⟨hf, hp, ho, hb⟩, _⟩ := h
  exact ⟨countUp_le hf _, countUp_le hp _, countUp_le ho _, hb⟩

/-! ### The Rate Finder -/

/-- A port with a period within the range (R69). -/
theorem Port.bounded.withPeriod (h : v.bounded) {slu : Slu} (fifo : slu.fifo = v.slu.fifo)
    (errors : slu.errors = v.slu.errors) (period : 32 ≤ slu.line.period ∧ slu.line.period ≤ 61440) (rf : RateFinder)
    (pm : PortMatch) : ({ v with rf := rf, slu := slu, pm := pm } : Port).bounded := by
  obtain ⟨lists, _, counters, gap⟩ := h
  refine ⟨?_, period, ?_, gap⟩
  · simpa [Port.listsBounded, fifo] using lists
  · simpa [Port.countersBounded, errors] using counters

theorem State.Safe.seek (h : s.Safe) (p : PortId) (attempts : Nat) : (s.seek p attempts).Safe := by
  unfold State.seek
  dsimp only
  split
  · exact State.Safe.modPort (s := s.drawn) h id
  · exact h.modPort id

theorem State.Safe.enterSeeking (h : s.Safe) (p : PortId) (attempts : Nat) (marks : List (MarkKind × Word)) :
    (s.enterSeeking p attempts marks).Safe :=
  State.Safe.handItem ((h.seek p attempts).modPort id) p _

theorem State.Safe.enterVerifying (h : s.Safe) (p : PortId) {period : Nat} (range : 32 ≤ period ∧ period ≤ 61440) :
    (s.enterVerifying p period).Safe :=
  State.Safe.handItem (h.modPort fun b => b.withPeriod (by rfl) (by rfl) range _ _) p _

theorem State.Safe.judgeInterval (h : s.Safe) (p : PortId) (length : Nat) : (s.judgeInterval p length).Safe := by
  have ended : (s.modPort p fun v =>
      { v with rf := { v.rf with interval := none }, slu := { v.slu with lineMark := true } }).Safe := h.modPort id
  unfold State.judgeInterval
  dsimp only
  split
  · split
    · exact State.Safe.enterVerifying (ended.modPort id) p (periodOfEstimate_bounds _)
    · exact ended.modPort id
  · exact ended

theorem State.Safe.lockRate (h : s.Safe) (p : PortId) : (s.lockRate p).Safe :=
  (State.Safe.handItem (h.modPort id) p _).notice p .rateLocked

theorem State.Safe.failRate (h : s.Safe) (p : PortId) : (s.failRate p).Safe :=
  (State.Safe.handItem (h.modPort fun b => b.withPeriod (by rfl) (by rfl) (periodOfRate_bounds _) _ _) p _).notice p _

theorem State.Safe.rejectRate (h : s.Safe) (p : PortId) : (s.rejectRate p).Safe := by
  unfold State.rejectRate
  split
  · exact h.enterSeeking p _ _
  · exact h.failRate p

theorem State.Safe.verifyByte (h : s.Safe) (p : PortId) (framing : Bool) : (s.verifyByte p framing).Safe := by
  unfold State.verifyByte
  split
  · extract_lets counted
    have safe : counted.Safe := h.modPort id
    split
    · exact safe
    · split
      · exact safe.lockRate p
      · exact safe.rejectRate p
  · exact h

theorem State.Safe.ratePresence (h : s.Safe) (p : PortId) (presence : Presence) : (s.ratePresence p presence).Safe := by
  unfold State.ratePresence
  split
  · exact h.modPort id
  · exact h.enterSeeking p _ _
  · exact h.enterSeeking p _ _
  · exact h.enterSeeking p _ _
  all_goals exact h

end

end Sys2Proof.Machine
end

section
/-! SUPPORT. The Exchange Controller, the receiver and the Task Sweep Unit keep the bounds: tasks that end shorten
their queues, and an admission needs room. -/

namespace Sys2Proof.Machine

section
variable {s : State}

/-! ### Ends and working states -/

theorem State.Safe.shareEnds (h : s.Safe) (p : PortId) (slot : Nat) (set : ShareSet) (start : Word)
    (characters : Nat) (fault : Bool) : (s.shareEnds p slot set start characters fault).Safe := by
  unfold State.shareEnds
  split
  · exact h
  · dsimp only
    split <;> exact h

theorem State.Safe.finishHead (h : s.Safe) (p : PortId) (fin : TaskEnd) : (s.finishHead p fin).Safe := by
  unfold State.finishHead
  split
  · exact h
  · next e rest queue =>
    have left : (s.modPort p fun v =>
        { v with queue := rest, exc := Exc.idle, hold := v.hold.onEnd e.fields.originator s.arm }).Safe :=
      h.modPort fun b => b.withQueue _ _ <| by
        have := b.queue
        rw [queue, List.length_cons] at this
        omega
    dsimp only
    split
    · exact left.shareEnds p _ _ _ _ _
    · exact left

theorem State.Safe.enterSending (h : s.Safe) (p : PortId) : (s.enterSending p).Safe := (h.stopFetch p).modPort id

theorem State.Safe.enterAwaiting (h : s.Safe) (p : PortId) (f : TaskFields) : (s.enterAwaiting p f).Safe :=
  h.modPort fun b => b.withMatching _ _ _

theorem State.Safe.beginAttempt (h : s.Safe) (p : PortId) (f : TaskFields) : (s.beginAttempt p f).Safe := by
  unfold State.beginAttempt
  dsimp only
  split
  · exact State.Safe.enterSending (h.modPort id) p
  · exact State.Safe.enterAwaiting (h.modPort id) p f

theorem State.Safe.enterBreaking (h : s.Safe) (p : PortId) : (s.enterBreaking p).Safe :=
  State.Safe.serveTransmitter (h.modPort id) p

theorem State.Safe.enterRateWait (h : s.Safe) (p : PortId) (f : TaskFields) : (s.enterRateWait p f).Safe :=
  h.modPort id

/-! ### Kinds that end at the head -/

/-- The settings of a LINE have a period within the range: the old one, or that of a rate (R69, R79). -/
theorem LineSettings.ofTask_period {old : LineSettings} (h : 32 ≤ old.period ∧ old.period ≤ 61440) (f : TaskFields) :
    32 ≤ (old.ofTask f).period ∧ (old.ofTask f).period ≤ 61440 := by
  unfold LineSettings.ofTask
  dsimp only
  split
  · exact h
  · exact periodOfRate_bounds _

theorem State.Safe.lineTask (h : s.Safe) (p : PortId) (f : TaskFields) : (s.lineTask p f).1.Safe := by
  unfold State.lineTask
  extract_lets closed applied fixed period rate
  have appliedSafe : applied.Safe := (h.handItem p _).modPort fun b =>
    b.withPeriod (by rfl) (by rfl) (LineSettings.ofTask_period b.2.1 f) _ _
  split
  · exact (appliedSafe.seek p 0).handItem p _
  · refine State.Safe.handItem (appliedSafe.modPort fun b => ?_) p _
    split <;> exact b

theorem State.Safe.watchTask (h : s.Safe) (p : PortId) (f : TaskFields) : (s.watchTask p f).1.Safe :=
  h.modPort fun b => b.withMatching _ _ _

theorem State.Safe.thawTask (h : s.Safe) (p : PortId) : (s.thawTask p).1.Safe := h.thaw p

theorem State.Safe.holdTask (h : s.Safe) (p : PortId) (f : TaskFields) : (s.holdTask p f).1.Safe := by
  unfold State.holdTask
  split
  · exact h
  · exact h.modPort id

theorem State.Safe.endHold (h : s.Safe) (p : PortId) : (s.endHold p).Safe := h.modPort id

theorem State.Safe.releaseTask (h : s.Safe) (p : PortId) (f : TaskFields) : (s.releaseTask p f).1.Safe := by
  unfold State.releaseTask
  split
  · exact h
  · split
    · exact h.endHold p
    · split
      · exact (h.endHold p).notice p _
      · exact h

theorem State.Safe.guardTask (h : s.Safe) (p : PortId) (f : TaskFields) : (s.guardTask p f).1.Safe := h.modPort id

theorem State.Safe.work (h : s.Safe) (p : PortId) (e : QueueEntry) : (s.work p e).1.Safe := by
  unfold State.work
  split
  · split
    · exact h.beginAttempt p _
    · exact h
  · exact h.beginAttempt p _
  · exact h.beginAttempt p _
  · exact h.enterBreaking p
  · exact h.lineTask p _
  · exact h.watchTask p _
  · exact h.thawTask p
  · exact h.holdTask p _
  · exact h.releaseTask p _
  · exact h.guardTask p _
  all_goals exact h

/-! ### Heads and stops -/

theorem State.Safe.takeHeads (h : s.Safe) (p : PortId) (n : Nat) : (s.takeHeads p n).Safe :=
  State.takeHeads_keeps (P := State.Safe) (fun _ _ hs => hs.modPort id) (fun _ fin hs => hs.finishHead p fin)
    (fun _ f hs => hs.enterRateWait p f) (fun _ e hs => hs.work p e) n h

theorem State.Safe.serveQueue (h : s.Safe) (p : PortId) : (s.serveQueue p).Safe := h.takeHeads p _

theorem State.Safe.endTask (h : s.Safe) (p : PortId) (fin : TaskEnd) : (s.endTask p fin).Safe :=
  (h.finishHead p fin).serveQueue p

theorem State.Safe.leaveRateWait (h : s.Safe) (p : PortId) : (s.leaveRateWait p).Safe := by
  unfold State.leaveRateWait
  split
  · next e rest _ _ =>
    extract_lets dropped
    have worked : (dropped.work p e).1.Safe := State.Safe.work (h.modPort id) p e
    split
    · next t fin eq =>
      rw [eq] at worked
      exact State.Safe.endTask worked p fin
    · next t eq =>
      rw [eq] at worked
      exact worked
  · exact h

theorem State.Safe.disarm (h : s.Safe) (p : PortId) : (s.disarm p).Safe := h.modPort fun b => b.withMatching _ _ _

theorem State.Safe.stopSending (h : s.Safe) (p : PortId) : (s.stopSending p).Safe := (h.stopFetch p).closeTx p

theorem State.Safe.cutBreak (h : s.Safe) (p : PortId) (code : ResultCode) : (s.cutBreak p code).Safe := by
  unfold State.cutBreak
  dsimp only
  split
  · exact (State.Safe.handItem (h.modPort id) p _).endTask p _
  · exact State.Safe.endTask (h.modPort id) p _
  all_goals exact h.endTask p _

theorem State.Safe.stopHead (h : s.Safe) (p : PortId) (why : StopCause) : (s.stopHead p why).Safe := by
  unfold State.stopHead
  split
  · exact h
  · exact h.endTask p _
  · exact h.endTask p _
  · exact (h.disarm p).endTask p _
  · exact h.cutBreak p _
  all_goals
    split
    · split
      · exact (h.stopFetch p).modPort id
      · exact h
    · exact (h.stopSending p).endTask p _

theorem State.Safe.losePresence (h : s.Safe) (p : PortId) : (s.losePresence p).Safe := by
  unfold State.losePresence
  split
  · exact h
  · split
    · exact h.stopHead p _
    · exact h

theorem State.Safe.textFaults (h : s.Safe) (p : PortId) (read : Nat) : (s.textFaults p read).Safe := by
  unfold State.textFaults
  split
  · dsimp only
    split
    · exact State.Safe.stopHead (h.modPort id) p _
    · exact h.modPort id
  · exact h

/-! ### Cancels and draining -/

theorem State.Safe.removeUnstarted (h : s.Safe) (p : PortId) (slot : Nat) : (s.removeUnstarted p slot).Safe := by
  unfold State.removeUnstarted
  split
  · exact h
  · have removed : (s.modPort p fun v => { v with queue := v.queue.filter fun x => x.slot ≠ slot }).Safe :=
      h.modPort fun b => b.withQueue _ _ ((List.length_filter_le _ _).trans b.queue)
    dsimp only
    split
    · refine State.Safe.shareEnds ?_ p _ _ _ _ _
      exact removed
    · exact removed

theorem State.Safe.cancelAt (h : s.Safe) (p : PortId) (slot : Nat) : (s.cancelAt p slot).Safe := by
  unfold State.cancelAt
  split
  · exact h
  · exact h.removeUnstarted p slot
  · split
    · exact h
    · exact State.Safe.stopHead (s := s.markCancelled slot) h p _

theorem State.Safe.drainEntry (h : s.Safe) (p : PortId) (e : QueueEntry) : (s.drainEntry p e).Safe := by
  unfold State.drainEntry
  split
  · exact h.shareEnds p _ _ _ _ _
  · exact h

theorem State.Safe.drainPort (h : s.Safe) (p : PortId) : (s.drainPort p).Safe := by
  have emptied : (s.modPort p fun v => { v with queue := if v.started then v.queue.take 1 else [] }).Safe :=
    h.modPort fun b => b.withQueue _ _ <| by
      split
      · exact (List.length_take_le' 1 _).trans b.queue
      · exact Nat.zero_le _
  unfold State.drainPort
  exact List.foldlRecOn _ _ emptied fun _ hs e _ => State.Safe.drainEntry hs p e

/-! ### Reception (R85 to R92) -/

/-- The matcher's part of a delivery: the state after it, the byte's note, and whether the await was matched. -/
def State.byteMatched (s : State) (p : PortId) (byte : Byte) : State × MatchNote × Bool :=
  (s.modPort p fun v => { v with slu := { v.slu with receiveCount := v.slu.receiveCount + 1 } }).takeByte p byte
    (s.port p).slu.receiveCount

/-- The FIFO entry that a delivered byte makes (R89, R120). -/
def State.byteEntry (s : State) (p : PortId) (byte : Byte) (framing parity : Bool) : FifoEntry :=
  { byte := byte, sequence := (s.port p).slu.receiveCount, framing := framing, parity := parity, time := s.partTime,
    note := (s.byteMatched p byte).2.1 }

/-- A delivered byte has been matched, stored or lost, and counted (R89 to R91). -/
def State.byteStored (s : State) (p : PortId) (byte : Byte) (framing parity : Bool) : State :=
  (s.byteMatched p byte).1.modPort p fun v =>
    { v.storeByte (s.byteEntry p byte framing parity) with
      slu := { (v.storeByte (s.byteEntry p byte framing parity)).slu with
        quietEnd := some (s.time.ticks + v.slu.line.quietTicks)
        errors := v.slu.errors.countByte framing parity (Config.fifoCapacity ≤ (s.port p).slu.fifo.length) } }

/-- In VERIFYING a stored byte counts for the Rate Finder too (R100). -/
def State.byteVerified (s : State) (p : PortId) (byte : Byte) (framing parity : Bool) : State :=
  if (s.port p).rf.state = .verifying then
    ((s.byteStored p byte framing parity).verifyByte p framing).serveRateWait p
  else s.byteStored p byte framing parity

/-- A delivery by its parts (R85). -/
theorem State.deliver_eq (s : State) (p : PortId) (byte : Byte) (framing parity : Bool) :
    s.deliver p byte framing parity =
      if (s.byteMatched p byte).2.2 then
        (s.byteVerified p byte framing parity).awaitMatched p (s.port p).slu.receiveCount
      else s.byteVerified p byte framing parity := rfl

theorem State.Safe.awaitMatched (h : s.Safe) (p : PortId) (sequence : Word) : (s.awaitMatched p sequence).Safe := by
  unfold State.awaitMatched
  split
  · exact (h.disarm p).endTask p _
  · exact h

theorem State.Safe.serveRateWait (h : s.Safe) (p : PortId) : (s.serveRateWait p).Safe := by
  unfold State.serveRateWait
  split
  · exact h.leaveRateWait p
  · exact h

theorem State.Safe.byteMatched (h : s.Safe) (p : PortId) (byte : Byte) : (s.byteMatched p byte).1.Safe :=
  State.Safe.takeByte (h.modPort id) p byte _

theorem State.Safe.byteStored (h : s.Safe) (p : PortId) (byte : Byte) (framing parity : Bool) :
    (s.byteStored p byte framing parity).Safe :=
  (h.byteMatched p byte).modPort fun b => (b.storeByte _).counted _ (b.countByte framing parity _)

theorem State.Safe.byteVerified (h : s.Safe) (p : PortId) (byte : Byte) (framing parity : Bool) :
    (s.byteVerified p byte framing parity).Safe := by
  unfold State.byteVerified
  split
  · exact ((h.byteStored p byte framing parity).verifyByte p framing).serveRateWait p
  · exact h.byteStored p byte framing parity

theorem State.Safe.deliver (h : s.Safe) (p : PortId) (byte : Byte) (framing parity : Bool) :
    (s.deliver p byte framing parity).Safe := by
  rw [State.deliver_eq]
  split
  · exact (h.byteVerified p byte framing parity).awaitMatched p _
  · exact h.byteVerified p byte framing parity

theorem State.Safe.completeByte (h : s.Safe) (p : PortId) (byte : Byte) (framing parity mark : Bool) :
    (s.completeByte p byte framing parity mark).Safe := by
  unfold State.completeByte
  dsimp only
  split
  · exact State.Safe.deliver (h.modPort id) p byte framing parity
  · exact h.modPort id

theorem State.Safe.detectBreak (h : s.Safe) (p : PortId) (c : RxCharacter) : (s.detectBreak p c).Safe := by
  unfold State.detectBreak
  extract_lets held
  have heldSafe : held.Safe := h.modPort id
  split
  · refine State.Safe.handItem (heldSafe.modPort fun b => ?_) p _
    obtain ⟨lists, period, ⟨framing, parity, overruns, breaks⟩, gap⟩ := b
    exact ⟨lists, period, ⟨framing, parity, overruns, countUp_le breaks true⟩, gap⟩
  · exact heldSafe

theorem State.Safe.endReceivedBreak (h : s.Safe) (p : PortId) (edgeTime : Nat) (silent : Bool) :
    (s.endReceivedBreak p edgeTime silent).Safe := by
  unfold State.endReceivedBreak
  dsimp only
  split
  · exact h.modPort id
  · exact State.Safe.handItem (h.modPort id) p _

/-! ### Sense samples (R158 to R162) -/

/-- The sense items have no part in the bounds. -/
theorem Port.bounded.withSense {v : Port} (h : v.bounded) (sense : PortSense) :
    ({ v with sense := sense } : Port).bounded := h

theorem State.Safe.presenceChanged (h : s.Safe) (p : PortId) (presence : Presence) :
    (s.presenceChanged p presence).Safe := by
  unfold State.presenceChanged
  split
  · exact h
  · next mark kind _ =>
    have reported := ((h.handItem p (.close [(mark, 0)])).notice p kind).ratePresence p presence
    dsimp only
    split
    · exact reported.losePresence p
    · exact reported

theorem State.Safe.takeSample (h : s.Safe) (p : PortId) (code : BitVec 12) : (s.takeSample p code).Safe := by
  unfold State.takeSample
  extract_lets before sampled after
  have sampledSafe : sampled.Safe := h.modPort fun b => b.withSense _
  split
  · exact sampledSafe.presenceChanged p after
  · exact sampledSafe

theorem State.Safe.takeSenseSettings (h : s.Safe) (f : TaskFields) : (s.takeSenseSettings f).Safe := by
  unfold State.takeSenseSettings
  refine State.Safe.modPorts ?_ fun _ b => b.withSense _
  exact h

/-! ### The sweep -/

theorem State.Safe.startSweep (h : s.Safe) (requested : Bool) : (s.startSweep requested).Safe := by
  obtain ⟨_, _, _, begun⟩ := s.beginSweep_frame requested
  have begunSafe : (s.beginSweep requested).Safe := by rw [begun]; exact h
  obtain ⟨_, _, _, again⟩ := (s.beginSweep requested).beginSweep_frame true
  unfold State.startSweep
  dsimp only
  split
  · rw [again]
    exact begunSafe
  · exact begunSafe

theorem State.Safe.requestSweep (h : s.Safe) : s.requestSweep.Safe := by
  unfold State.requestSweep
  split
  · exact h.startSweep true
  · exact h

theorem State.Safe.sweepOn (h : s.Safe) (requested : Bool) (i : Nat) : (s.sweepOn requested i).Safe := by
  obtain ⟨_, _, _, eq⟩ := s.sweepOn_frame requested i
  rw [eq]
  exact h

theorem State.Safe.slotDone (h : s.Safe) (w : Sweep) : (s.slotDone w).Safe := by
  unfold State.slotDone
  split
  · exact h.sweepOn _ _
  · exact h

theorem State.Safe.slotLeft (h : s.Safe) (w : Sweep) : (s.slotLeft w).Safe := h.sweepOn _ _

theorem State.Safe.completeSlot (h : s.Safe) (w : Sweep) (c : Completion) : (s.completeSlot w c).Safe := by
  rw [State.completeSlot_eq]
  exact h

/-! ### Admission (R13, R14) -/

/-- An entry joins a queue that has room (R13, R25). -/
theorem State.Safe.addEntry (h : s.Safe) {p : PortId} (e : QueueEntry) (room : (s.port p).hasRoom = true) :
    (s.addEntry p e).Safe :=
  h.modPort fun b => b.withQueue _ _ <| by
    have := (Port.hasRoom_iff _).1 room
    rw [placeEntry_length]
    omega

/-- A share joins every member's queue, where each has room (R14). -/
theorem State.Safe.foldl_addEntry (h : s.Safe) {members : List PortId} (e : QueueEntry) (distinct : members.Nodup)
    (room : ∀ p ∈ members, (s.port p).hasRoom = true) : (members.foldl (fun s p => s.addEntry p e) s).Safe := by
  induction members generalizing s with
  | nil => exact h
  | cons p rest ih =>
    obtain ⟨fresh, distinct⟩ := List.nodup_cons.1 distinct
    refine ih (h.addEntry e (room p List.mem_cons_self)) distinct fun q hq => ?_
    have other : q ≠ p := fun same => fresh (same ▸ hq)
    rw [s.addEntry_port_ne e other]
    exact room q (List.mem_cons_of_mem p hq)

theorem State.Safe.admitTask (h : s.Safe) (w : Sweep) (k : TaskKind) (t : TaskSlot) : (s.admitTask w k t).Safe := by
  unfold State.admitTask
  dsimp only
  split
  · next room =>
    have placed := State.Safe.addEntry (s := s.admitted w.index) h
      { slot := w.index, kind := k, fields := t.fields } room
    exact (placed.serveQueue _).slotDone w
  · exact h.slotLeft w

theorem State.Safe.admitBroadcast (h : s.Safe) (w : Sweep) (t : TaskSlot) : (s.admitBroadcast w t).Safe := by
  by_cases room : ∀ p ∈ memberPorts t.fields s.tsu.geometry.portCount, (s.port p).queue.length < 8
  · have distinct : (memberPorts t.fields s.tsu.geometry.portCount).Nodup := (List.nodup_finRange 24).filter _
    have placed : (s.broadcastPlaced w t (memberPorts t.fields s.tsu.geometry.portCount)).Safe :=
      State.Safe.foldl_addEntry (s := s.broadcastNoted w t _) h _ distinct fun p hp =>
        (Port.hasRoom_iff _).2 (room p hp)
    rw [State.admitBroadcast_room w rfl room]
    exact State.Safe.slotDone (List.foldlRecOn _ _ placed fun _ hs p _ => State.Safe.serveQueue hs p) w
  · simp only [not_forall, not_lt] at room
    obtain ⟨p, member, full⟩ := room
    rw [State.admitBroadcast_full w ⟨p, member, full⟩]
    exact h.slotLeft w

/-! ### Slots in hand -/

theorem State.Safe.completePattern (h : s.Safe) (w : Sweep) (t : TaskSlot) (start : Word)
    (contents : Option (List Element)) : (s.completePattern w t start contents).Safe :=
  (h.setPattern _ _).completeSlot w _

theorem State.Safe.patternArrives (h : s.Safe) (w : Sweep) (t : TaskSlot) (start : Word) (bytes : List Byte) :
    (s.patternArrives w t start bytes).Safe := by
  unfold State.patternArrives
  split
  · exact h.completeSlot w _
  · exact h.completePattern w t start _

theorem State.Safe.runPattern (h : s.Safe) (w : Sweep) (t : TaskSlot) : (s.runPattern w t).Safe := by
  unfold State.runPattern
  split
  · exact h.completePattern w t _ _
  · exact h

theorem State.Safe.runSense (h : s.Safe) (w : Sweep) (t : TaskSlot) : (s.runSense w t).Safe :=
  (h.takeSenseSettings _).completeSlot w _

theorem State.Safe.runAbort (h : s.Safe) (w : Sweep) (t : TaskSlot) : (s.runAbort w t).Safe := by
  unfold State.runAbort
  dsimp only
  split
  · exact (h.forPorts fun p _ hu => hu.cancelAt p _).completeSlot w _
  · exact h.completeSlot w _

theorem State.Safe.carryOut (h : s.Safe) (w : Sweep) (k : TaskKind) (t : TaskSlot) : (s.carryOut w k t).Safe := by
  cases k
  case abort => exact h.runAbort w t
  case pattern => exact h.runPattern w t
  case sense => exact h.runSense w t
  case broadcast => exact h.admitBroadcast w t
  all_goals exact h.admitTask w _ t

theorem State.Safe.validateSlot (h : s.Safe) (w : Sweep) (t : TaskSlot) : (s.validateSlot w t).Safe := by
  unfold State.validateSlot
  split
  · exact h.completeSlot w _
  · split
    · exact h.completeSlot w _
    · exact h.carryOut w _ t

theorem State.Safe.wholeSlot (h : s.Safe) (w : Sweep) (t : TaskSlot) : (s.wholeSlot w t).Safe := by
  unfold State.wholeSlot
  split
  · exact h.slotLeft w
  · split
    · exact h.slotLeft w
    · exact h.validateSlot w t

theorem State.Safe.headerArrives (h : s.Safe) (w : Sweep) (bytes : List Byte) : (s.headerArrives w bytes).Safe := by
  unfold State.headerArrives
  split
  · exact h
  · exact h.slotLeft w

theorem State.Safe.slotFaults (h : s.Safe) (w : Sweep) : (s.slotFaults w).Safe := (h.raise .fault).slotLeft w

theorem State.Safe.sweepReadEnds (h : s.Safe) (read : Nat) (bytes : Option (List Byte)) :
    (s.sweepReadEnds read bytes).Safe := by
  unfold State.sweepReadEnds
  split
  · exact h
  · next w _ =>
    have faults := h.slotFaults w
    split
    · split
      · exact h.headerArrives w _
      · exact h
    · split
      · exact faults
      · exact h
    · split
      · exact h.wholeSlot w _
      · exact h
    · split
      · exact faults
      · exact h
    · split
      · exact h.patternArrives w _ _ _
      · exact h
    · split
      · exact h.completeSlot w _
      · exact h
    all_goals exact h

theorem State.Safe.slotWriteIssued (h : s.Safe) : s.slotWriteIssued.Safe := by
  unfold State.slotWriteIssued
  dsimp only
  split
  · exact h
  · split
    · refine State.Safe.sweepOn ?_ _ _
      exact h
    · exact h

end

end Sys2Proof.Machine
end

section
/-! SUPPORT. Grants, control, resets and every command keep the bounds; the statement on every step. -/

namespace Sys2Proof.Machine

/-! ### What the arbiter grants fits (R168, R172) -/

theorem leBytes_length (n v : Nat) : (leBytes n v).length = n := by
  induction n generalizing v with
  | zero => rfl
  | succ n ih => rw [leBytes, List.length_cons, ih]

/-- A status record is 64 bytes long (R189). -/
theorem StatusFields.bytes_length (f : StatusFields) : f.bytes.length = 64 := by
  unfold StatusFields.bytes
  simp only [List.length_append, leBytes_length]

/-- A grant that its write or its read fits in the write queue or the read table. -/
def State.grantFits (s : State) : Grant → Prop
  | .slotWrite w => s.writeFits w.address w.bytes.length = true
  | .status p => s.writeFits (statusAddress s.bus.anchor p) 64 = true
  | .sweepRead _ a n => s.readFits a n = true
  | .enableRead _ a n => s.readFits a n = true
  | .readMark p => s.readFits (readMarkAddress s.bus.anchor p) 4 = true
  | .text _ a n => s.readFits a n = true
  | .capture p => s.captureReady p = true

/-- The port that a round finds passes the round's test. -/
theorem firstFrom_ok {pointer p : PortId} {ok : PortId → Bool} (h : firstFrom pointer ok = some p) : ok p = true :=
  List.find?_some h

section
variable {s t : State} {g : Grant}

theorem State.slotWriteGrant_fits (h : s.slotWriteGrant = some g) : s.grantFits g := by
  unfold State.slotWriteGrant at h
  split at h
  · cases h
  · split at h
    · next fits =>
      cases h
      exact fits
    · cases h

theorem State.statusGrant_fits (h : s.statusGrant = some g) : s.grantFits g := by
  obtain ⟨p, first, rfl⟩ := Option.map_eq_some_iff.1 h
  exact (Bool.and_eq_true_iff.1 (firstFrom_ok first)).2

theorem State.classOne_fits (h : s.classOne = some g) : s.grantFits g := by
  unfold State.classOne at h
  split at h <;> rcases (Option.orElse_eq_some ..).1 h with first | ⟨_, second⟩
  · exact State.slotWriteGrant_fits first
  · exact State.statusGrant_fits second
  · exact State.statusGrant_fits first
  · exact State.slotWriteGrant_fits second

/-- A read that is granted fits in the read table. -/
theorem State.readGrant_some {make : Requester → Addr → Nat → Grant} {request : Option (Requester × Addr × Nat)}
    (h : s.readGrant make request = some g) : ∃ r a n, g = make r a n ∧ s.readFits a n = true := by
  unfold State.readGrant at h
  split at h
  · cases h
  · next r a n =>
    split at h
    · next fits => exact ⟨r, a, n, (Option.some.inj h).symm, fits⟩
    · cases h

theorem State.classTwo_fits (h : s.classTwo = some g) : s.grantFits g := by
  rcases (Option.orElse_eq_some ..).1 h with first | ⟨_, second⟩
  · obtain ⟨r, a, n, rfl, fits⟩ := State.readGrant_some first
    exact fits
  · obtain ⟨r, a, n, rfl, fits⟩ := State.readGrant_some second
    exact fits

theorem State.classThree_fits (h : s.classThree = some g) : s.grantFits g := by
  obtain ⟨p, first, rfl⟩ := Option.map_eq_some_iff.1 h
  exact (Bool.and_eq_true_iff.1 (firstFrom_ok first)).2

theorem State.classFour_fits (h : s.classFour = some g) : s.grantFits g := by
  obtain ⟨p, first, granted⟩ := Option.bind_eq_some_iff.1 h
  obtain ⟨⟨a, n⟩, request, rfl⟩ := Option.map_eq_some_iff.1 granted
  have ready := firstFrom_ok first
  rw [State.textReady, request] at ready
  exact ready

theorem State.classFive_fits (h : s.classFive = some g) : s.grantFits g := by
  obtain ⟨p, first, rfl⟩ := Option.map_eq_some_iff.1 h
  exact firstFrom_ok first

theorem State.chosenGrant_fits (h : s.chosenGrant = some g) : s.grantFits g := by
  rcases State.chosenGrant_class h with h | h | h | h | h
  · exact State.classOne_fits h
  · exact State.classTwo_fits h
  · exact State.classThree_fits h
  · exact State.classFour_fits h
  · exact State.classFive_fits h

/-! ### Grants -/

theorem State.Safe.issueStatus (h : s.Safe) {p : PortId}
    (fits : s.writeFits (statusAddress s.bus.anchor p) 64 = true) : (s.issueStatus p).Safe := by
  have granted : (s.grantWrite (statusAddress s.bus.anchor p) (s.port p).published.bytes false).Safe :=
    h.grantWrite (by rwa [StatusFields.bytes_length]) false
  unfold State.issueStatus
  dsimp only
  refine State.Safe.setPort ?_ p ?_
  · exact granted
  · exact h.port p

theorem State.Safe.issueSlotWrite (h : s.Safe) {w : SlotWrite} (fits : s.writeFits w.address w.bytes.length = true) :
    (s.issueSlotWrite w).Safe := by
  have granted := h.grantWrite fits w.raisesTask
  unfold State.issueSlotWrite
  refine State.Safe.slotWriteIssued ?_
  exact granted

theorem State.Safe.issueSweepRead (h : s.Safe) (r : Requester) {a : Addr} {n : Nat} (fits : s.readFits a n = true) :
    (s.issueSweepRead r a n).Safe := by
  unfold State.issueSweepRead
  split
  · exact h
  · exact h.grantRead r fits

theorem State.Safe.issueEnableRead (h : s.Safe) (r : Requester) {a : Addr} {n : Nat} (fits : s.readFits a n = true) :
    (s.issueEnableRead r a n).Safe := h.grantRead r fits

theorem State.Safe.issueReadMark (h : s.Safe) {p : PortId}
    (fits : s.readFits (readMarkAddress s.bus.anchor p) 4 = true) : (s.issueReadMark p).Safe := by
  have granted := h.grantRead (.readMark p) fits
  unfold State.issueReadMark
  dsimp only
  refine State.Safe.modPort ?_ id
  exact granted

theorem State.Safe.issueText (h : s.Safe) (p : PortId) {a : Addr} {n : Nat} (fits : s.readFits a n = true) :
    (s.issueText p a n).Safe := by
  have granted := h.grantRead (.text p) fits
  unfold State.issueText
  dsimp only
  refine State.Safe.modPort ?_ id
  exact granted

/-- An issued GAP clears the gap; another record leaves it (R138). -/
theorem Capture.gapCount_issued {ca : Capture} (h : ca.gapCount ≤ 4294967295) (r : UnitRecord) :
    (ca.issued r).gapCount ≤ 4294967295 := by
  cases isGap : r.isGap with
  | true => simp [Capture.issued, Capture.gapCount, isGap]
  | false => simpa [Capture.issued, Capture.gapCount, isGap] using h

theorem Port.bounded.withIssued {v : Port} (h : v.bounded) (r : UnitRecord) :
    ({ v with ca := v.ca.issued r } : Port).bounded := h.withCapture (Capture.gapCount_issued h.gap r)

theorem State.Safe.issueCapture (h : s.Safe) {p : PortId} (ready : s.captureReady p = true) :
    (s.issueCapture p).Safe := by
  unfold State.captureReady at ready
  unfold State.issueCapture
  split
  · exact h
  · next r issuable =>
    rw [issuable] at ready
    have granted := h.grantWrite ready false
    dsimp only
    split
    · refine State.Safe.resumeAgenda (State.Safe.modPort ?_ fun b => b.withIssued r) p
      exact granted
    · refine State.Safe.modPort ?_ fun b => b.withIssued r
      exact granted

theorem State.Safe.carryGrant (h : s.Safe) (fits : s.grantFits g) : (s.carryGrant g).Safe := by
  cases g with
  | slotWrite w => exact h.issueSlotWrite fits
  | status p => exact h.issueStatus fits
  | sweepRead r a n => exact h.issueSweepRead r fits
  | enableRead r a n => exact h.issueEnableRead r fits
  | readMark p => exact h.issueReadMark fits
  | text p a n => exact h.issueText p fits
  | capture p => exact h.issueCapture fits

theorem State.Safe.grantOne (h : s.Safe) : s.grantOne.Safe := by
  unfold State.grantOne
  split
  · split
    · exact h
    · next chosen => exact h.carryGrant (State.chosenGrant_fits chosen)
  · exact h

/-! ### Leaving (R169, R170) -/

/-- What has left is no longer in the write queue. -/
theorem State.Safe.frontLeft (h : s.Safe) {item : LinkItem} {rest : List LinkItem}
    (front : s.hme.outgoing = item :: rest) : (s.frontLeft item rest).Safe := by
  refine ⟨h.1, ?_, ?_⟩
  · have fewer : ({ s.hme with outgoing := rest, sent := item :: s.hme.sent } : Hme).queuedWrites
        ≤ s.hme.queuedWrites := by
      simp only [Hme.queuedWrites, front]
      exact (List.Sublist.filter _ (List.sublist_cons_self item rest)).length_le
    rw [State.frontLeft, Hme.queuedWrites_flush]
    exact fewer.trans h.link.1
  · rw [State.frontLeft, Hme.reads_flush]
    exact h.link.2

theorem State.Safe.writeLeaves (h : s.Safe) : s.writeLeaves.Safe := by
  unfold State.writeLeaves
  split
  · split
    · next front =>
      dsimp only
      split
      · exact (h.frontLeft front).raise .task
      · exact h.frontLeft front
    all_goals exact h
  · exact h

theorem State.Safe.readLeaves (h : s.Safe) : s.readLeaves.Safe := by
  unfold State.readLeaves
  split
  · split
    · next front => exact (h.frontLeft front).withReads (List.length_map _).le
    all_goals exact h
  · exact h

theorem State.Safe.configure (h : s.Safe) (busMaster message : Bool) : (s.configure busMaster message).Safe := by
  refine ⟨h.1, ?_, ?_⟩
  · rw [State.configure, Hme.queuedWrites_flush]
    exact h.link.1
  · rw [State.configure, Hme.reads_flush]
    exact h.link.2

/-! ### Drain and stop (R181, R182) -/

/-- The Bus Port has no part in the bounds. -/
theorem State.Safe.withBus (h : s.Safe) (bus : BusPort) : ({ s with bus := bus } : State).Safe := h

theorem State.Safe.handSettle (h : s.Safe) : s.handSettle.Safe :=
  (h.forPorts fun p _ hu => hu.handItem p .settle).withBus _

theorem State.Safe.enterStopped (h : s.Safe) : s.enterStopped.Safe := by
  unfold State.enterStopped
  refine State.Safe.raise (State.Safe.modPorts ?_ fun _ => id) .stopped
  exact h

theorem State.Safe.watchDrain (h : s.Safe) : s.watchDrain.Safe := by
  rcases s.watchDrain_cases with eq | eq | eq | eq <;> rw [eq]
  · exact h
  · exact h.handSettle
  · exact h.enterStopped
  · exact h.handSettle.enterStopped

theorem State.Safe.stopCommand (h : s.Safe) : s.stopCommand.Safe := by
  unfold State.stopCommand
  split
  · have drained := State.Safe.forPorts (s := s.draining) h fun p _ hu => hu.drainPort p
    exact (drained.forPorts fun p _ hu => hu.handItem p (.close [])).watchDrain
  · exact h

/-! ### Enable (R178 to R180) -/

theorem State.Safe.failEnable (h : s.Safe) (code : AnchorError) : (s.failEnable code).Safe := by
  unfold State.failEnable
  refine State.Safe.raise ?_ .anchor
  exact h

theorem State.Safe.enableCommand (h : s.Safe) : s.enableCommand.Safe := by
  unfold State.enableCommand
  split
  · split
    · exact h
    · exact h.failEnable _
  · exact h

/-- The Capture Assembler that an enable takes up keeps its gap or has none (R125, R144). -/
theorem Capture.gapCount_takeUp {ca : Capture} (h : ca.gapCount ≤ 4294967295) (d : Descriptor) :
    (ca.takeUp d).gapCount ≤ 4294967295 := by
  by_cases off : CaptureMode.ofCode d.modeCode = .off
  · simp [Capture.takeUp, Capture.gapCount, off]
  · simpa [Capture.takeUp, Capture.gapCount, off] using h

theorem Port.bounded.enterUse {v : Port} (h : v.bounded) (d : Descriptor) (heard : Bool) :
    (v.enterUse d heard).bounded :=
  ⟨h.1, h.2.1, h.2.2.1, Capture.gapCount_takeUp h.gap d⟩

theorem Port.bounded.leaveUse {v : Port} (h : v.bounded) : v.leaveUse.bounded :=
  ⟨⟨h.queue, Nat.zero_le _⟩, h.2.1, h.2.2.1, Nat.zero_le _⟩

theorem State.Safe.startSweeping (h : s.Safe) : s.startSweeping.Safe := by
  unfold State.startSweeping
  split
  · exact State.Safe.startSweep (s := s.sweepIdle) h true
  · exact h

theorem State.Safe.succeedEnable (h : s.Safe) (anchor : Addr) (header : AnchorHeader) (descriptors : List Byte) :
    (s.succeedEnable anchor header descriptors).Safe := by
  have taken : ((s.latchEnable anchor header).modPorts (s.portsAtEnable header descriptors)).Safe :=
    State.Safe.modPorts (s := s.latchEnable anchor header) h fun p b => by
      unfold State.portsAtEnable
      split
      · exact b.enterUse _ _
      · exact b.leaveUse
  unfold State.succeedEnable
  refine State.Safe.startSweeping (taken.forPorts fun p u hu => ?_)
  split
  · exact hu.markEnabled p
  · exact hu

theorem State.Safe.anchorArrives (h : s.Safe) (anchor : Addr) (bytes : List Byte) :
    (s.anchorArrives anchor bytes).Safe := by
  unfold State.anchorArrives
  split
  · exact h.failEnable _
  · exact h

theorem State.Safe.descriptorsArrive (h : s.Safe) (anchor : Addr) (header : AnchorHeader) (bytes : List Byte) :
    (s.descriptorsArrive anchor header bytes).Safe := by
  unfold State.descriptorsArrive
  split
  · exact h.succeedEnable _ _ _
  · exact h.failEnable _

theorem State.Safe.enableReadEnds (h : s.Safe) (read : Nat) (bytes : Option (List Byte)) :
    (s.enableReadEnds read bytes).Safe := by
  unfold State.enableReadEnds
  split
  · exact h
  · split
    · split
      · exact h.anchorArrives _ _
      · exact h
    · split
      · exact h.failEnable _
      · exact h
    · split
      · exact h.descriptorsArrive _ _ _
      · exact h
    · split
      · exact h.failEnable _
      · exact h
    all_goals exact h

/-! ### Resets (R183, R184) -/

/-- A soft reset keeps a port's period, and clears the rest of what is bounded (R183). -/
theorem Port.bounded.afterReset {v : Port} (h : v.bounded) (free : Bool) : (v.afterReset free).bounded :=
  ⟨⟨Nat.zero_le _, Nat.zero_le _⟩, h.2.1, ⟨Nat.zero_le _, Nat.zero_le _, Nat.zero_le _, Nat.zero_le _⟩, Nat.zero_le _⟩

/-- Only messages stay in the grant order at a soft reset (R173). -/
theorem Hme.afterReset_bounded {h : Hme} (reads : h.reads.length ≤ 32) :
    h.afterReset.queuedWrites ≤ 16 ∧ h.afterReset.reads.length ≤ 32 := by
  unfold Hme.afterReset
  rw [Hme.queuedWrites_flush, Hme.reads_flush]
  constructor
  · have none : ({ h with outgoing := h.outgoing.filter fun i => i = .message } : Hme).queuedWrites = 0 := by
      simp only [Hme.queuedWrites, List.length_eq_zero_iff, List.filter_eq_nil_iff, List.mem_filter,
        decide_eq_true_eq]
      rintro i ⟨_, rfl⟩
      decide
    exact none.trans_le (Nat.zero_le 16)
  · rw [List.length_map]
    exact (List.length_filter_le _ _).trans reads

theorem State.Safe.softReset (h : s.Safe) : s.softReset.Safe := by
  refine ⟨fun p => ?_, Hme.afterReset_bounded h.link.2⟩
  have port : s.softReset.port p = (s.port p).afterReset (s.freeLevel p) := by simp [State.softReset, State.port]
  rw [port]
  exact (h.port p).afterReset _

theorem State.hardReset_safe (s : State) : s.hardReset.Safe := by
  refine ⟨fun p => ?_, Nat.zero_le 16, Nat.zero_le 32⟩
  have port : s.hardReset.port p = (s.port p).afterHardReset (s.freeLevel p) := by simp [State.hardReset, State.port]
  rw [port]
  exact Port.bounded_reset

/-! ### The register window (R185) -/

theorem State.Safe.messageIfLive (h : s.Safe) : s.messageIfLive.Safe := by
  unfold State.messageIfLive
  split
  · exact h.sendMessage
  · exact h

theorem State.Safe.writeAttention (h : s.Safe) (value : Word) : (s.writeAttention value).Safe := by
  unfold State.writeAttention
  refine State.Safe.messageIfLive ?_
  exact h

theorem State.Safe.writeAttnEnable (h : s.Safe) (value : Word) : (s.writeAttnEnable value).Safe := by
  unfold State.writeAttnEnable
  refine State.Safe.messageIfLive ?_
  exact h

theorem State.Safe.writeControl (h : s.Safe) (value : Word) : (s.writeControl value).Safe := by
  unfold State.writeControl
  split
  · exact h.softReset
  · extract_lets enabled stopped
    have enabledSafe : enabled.Safe := by
      unfold enabled
      split
      · exact h.enableCommand
      · exact h
    have stoppedSafe : stopped.Safe := by
      unfold stopped
      split
      · exact enabledSafe.stopCommand
      · exact enabledSafe
    split
    · exact stoppedSafe.requestSweep
    · exact stoppedSafe

theorem State.Safe.writeRegister (h : s.Safe) (reg : Register) (bytes : Nat) (value : Word) :
    (s.writeRegister reg bytes value).Safe := by
  unfold State.writeRegister
  split
  · exact h
  · cases reg with
    | ident => exact h
    | status => exact h
    | control => exact h.writeControl value
    | anchorLo =>
      dsimp only [State.writeAnchorLo]
      split <;> exact h
    | anchorHi =>
      dsimp only [State.writeAnchorHi]
      split <;> exact h
    | attention => exact h.writeAttention value
    | attnEnable => exact h.writeAttnEnable value
    | attnForce => exact h.raiseBits _

end

end Sys2Proof.Machine
end

section
/-! SUPPORT. The commands keep the bounds, each by the operations it is made of; the statement on every step. -/

namespace Sys2Proof.Machine

section
variable {s : State}

/-! ### Time -/

theorem State.Safe.reachTick (h : s.Safe) (tick : Nat) : (s.reachTick tick).Safe := h

theorem State.Safe.reachPhase (h : s.Safe) (phase : Nat) : (s.reachPhase phase).Safe := h

theorem State.Safe.partTimeIncrement (h : s.Safe) : s.partTimeIncrement.Safe := by
  unfold State.partTimeIncrement
  split <;> exact h

theorem State.Safe.idleTick (h : s.Safe) : s.idleTick.Safe := by
  unfold State.idleTick
  split
  · exact h.partTimeIncrement
  · exact h

/-! ### Reads (R170, R171) -/

theorem State.Safe.readMarkEnds (h : s.Safe) (p : PortId) (read : Nat) (bytes : Option (List Byte)) :
    (s.readMarkEnds p read bytes).Safe := by
  unfold State.readMarkEnds
  split
  · split
    · exact State.Safe.retestUnit (h.modPort id) p
    · exact (State.Safe.raise (h.modPort id) .fault).retestUnit p
  · exact h

theorem State.Safe.readEnds (h : s.Safe) (requester : Requester) (read : Nat) (bytes : Option (List Byte)) :
    (s.readEnds requester read bytes).Safe := by
  cases requester
  case readMark p => exact h.readMarkEnds p read bytes
  case text p =>
    cases bytes with
    | some b => exact h.textArrives p read b
    | none => exact h.textFaults p read
  case anchorHeader => exact h.enableReadEnds read bytes
  case descriptors => exact h.enableReadEnds read bytes
  all_goals exact h.sweepReadEnds read bytes

theorem State.Safe.pieceAnswered (h : s.Safe) (e : ReadEntry) (bytes : List Byte) : (s.pieceAnswered e bytes).Safe := by
  have stored : (storeAnswer e.tag bytes s.hme.reads).length = s.hme.reads.length := List.length_map _
  unfold State.pieceAnswered
  dsimp only
  split
  · exact (h.withReads ((List.length_filter_le _ _).trans stored.le)).readEnds _ _ _
  · exact h.withReads stored.le

theorem State.Safe.pieceFaulted (h : s.Safe) (e : ReadEntry) : (s.pieceFaulted e).Safe :=
  (h.withReads ((discardEntries_length_le _ _).trans (List.length_filter_le _ _))).readEnds _ _ _

theorem State.Safe.pieceEnds (h : s.Safe) (e : ReadEntry) (answer : Option (List Byte)) :
    (s.pieceEnds e answer).Safe := by
  unfold State.pieceEnds
  split
  · exact h.withReads (List.length_filter_le _ _)
  · split
    · exact h.pieceAnswered e _
    · exact h.pieceFaulted e

theorem State.Safe.answerPiece (h : s.Safe) (tag : Nat) (answer : Option (List Byte)) :
    (s.answerPiece tag answer).Safe := by
  unfold State.answerPiece
  split
  · exact h
  · split
    · exact h.pieceEnds _ _
    · exact h

theorem State.Safe.timeOutPiece (h : s.Safe) (tag : Nat) : (s.timeOutPiece tag).Safe := by
  unfold State.timeOutPiece
  split
  · exact h
  · split
    · exact h.pieceEnds _ _
    · exact h

/-! ### The task side -/

theorem State.Safe.sweepTimerExpires (h : s.Safe) : s.sweepTimerExpires.Safe := by
  unfold State.sweepTimerExpires
  split
  · exact h.startSweep false
  · exact h

theorem State.Safe.takeOldest (h : s.Safe) : s.takeOldest.Safe := by
  unfold State.takeOldest
  split <;> exact h

theorem State.Safe.rateWaitExpires (h : s.Safe) (p : PortId) : (s.rateWaitExpires p).Safe := by
  unfold State.rateWaitExpires
  split
  · exact h.endTask p _
  · exact h

theorem State.Safe.afterDeadline (h : s.Safe) (p : PortId) (f : TaskFields) : (s.afterDeadline p f).Safe := by
  unfold State.afterDeadline
  split
  · split
    · exact h.modPort id
    · exact h.beginAttempt p f
  · exact h.endTask p _

theorem State.Safe.deadlineExpires (h : s.Safe) (p : PortId) : (s.deadlineExpires p).Safe := by
  unfold State.deadlineExpires
  split
  · exact h
  · split
    · exact (h.disarm p).afterDeadline p _
    · exact h

theorem State.Safe.pauseExpires (h : s.Safe) (p : PortId) : (s.pauseExpires p).Safe := by
  unfold State.pauseExpires
  split
  · exact h
  · split
    · exact h.beginAttempt p _
    · exact h

theorem State.Safe.holdExpires (h : s.Safe) (p : PortId) : (s.holdExpires p).Safe := by
  unfold State.holdExpires
  split
  · exact (h.endHold p).notice p _
  · exact h

/-! ### The transmit line -/

theorem State.Safe.countCharacter (h : s.Safe) (p : PortId) (c : TxCharacter) : (s.countCharacter p c).Safe := by
  unfold State.countCharacter
  dsimp only
  refine State.Safe.modPort ?_ id
  split
  · exact h
  · split
    · exact h.logTxByte p _ _ _
    · exact h

theorem State.Safe.textSent (h : s.Safe) (p : PortId) : (s.textSent p).Safe := by
  unfold State.textSent
  dsimp only
  split
  · exact h.closeTx p
  · split
    · exact (h.closeTx p).enterAwaiting p _
    · exact (h.closeTx p).endTask p _

theorem State.Safe.characterEnded (h : s.Safe) (p : PortId) : (s.characterEnded p).Safe := by
  unfold State.characterEnded
  split
  · exact (h.closeTx p).endTask p _
  · exact h.textSent p
  all_goals exact h.serveTransmitter p

theorem State.Safe.endCharacter (h : s.Safe) (p : PortId) : (s.endCharacter p).Safe := by
  unfold State.endCharacter
  split
  · split
    · exact ((h.reachTick _).countCharacter p _).characterEnded p
    · exact h
  all_goals exact h

theorem State.Safe.transmitterAt (h : s.Safe) (p : PortId) (tx : Transmitter) : (s.transmitterAt p tx).Safe :=
  State.Safe.serveTransmitter (h.modPort id) p

theorem State.Safe.endGap (h : s.Safe) (p : PortId) : (s.endGap p).Safe := by
  unfold State.endGap
  split
  · split
    · exact (h.reachTick _).transmitterAt p _
    · exact h
  all_goals exact h

theorem State.Safe.endPause (h : s.Safe) (p : PortId) : (s.endPause p).Safe := by
  unfold State.endPause
  split
  · split
    · exact (h.reachTick _).transmitterAt p _
    · exact h
  all_goals exact h

theorem State.Safe.breakExpires (h : s.Safe) (p : PortId) : (s.breakExpires p).Safe := by
  unfold State.breakExpires
  dsimp only
  split
  · exact State.Safe.handItem (h.modPort id) p _
  · exact h

theorem State.Safe.endGuard (h : s.Safe) (p : PortId) : (s.endGuard p).Safe := by
  unfold State.endGuard
  split
  · split
    · exact State.Safe.endTask ((h.reachTick _).modPort id) p _
    · exact h
  all_goals exact h

/-! ### The receive line -/

theorem State.Safe.receiverTo (h : s.Safe) (p : PortId) (rx : Receiver) (mark : Bool) : (s.receiverTo p rx mark).Safe :=
  h.modPort id

theorem State.Safe.startEdge (h : s.Safe) (p : PortId) (phase : Nat) : (s.startEdge p phase).Safe := by
  unfold State.startEdge
  dsimp only
  split
  · exact (h.reachPhase phase).receiverTo p _ _
  · split
    · exact (h.reachPhase phase).modPort id
    · exact h
  all_goals exact h

theorem State.Safe.falseStart (h : s.Safe) (p : PortId) : (s.falseStart p).Safe := by
  unfold State.falseStart
  split
  · split
    · exact (h.reachTick _).receiverTo p _ _
    · exact h
  all_goals exact h

theorem State.Safe.armed (h : s.Safe) (p : PortId) (phase : Nat) : (s.armed p phase).Safe := by
  unfold State.armed
  split
  · exact (h.reachPhase phase).receiverTo p _ _
  all_goals exact h

theorem State.Safe.zeroByte (h : s.Safe) (p : PortId) (c : RxCharacter) : (s.zeroByte p c).Safe :=
  h.completeByte p _ _ _ _

theorem State.Safe.lastSample (h : s.Safe) (p : PortId) (c : RxCharacter) (r : RxSamples) :
    (s.lastSample p c r).Safe := by
  unfold State.lastSample
  split
  · split
    · exact h.zeroByte p c
    · exact h.receiverTo p _ _
  · exact h.completeByte p _ _ _ _

theorem State.Safe.receiveByte (h : s.Safe) (p : PortId) (r : RxSamples) (phase : Nat) :
    (s.receiveByte p r phase).Safe := by
  unfold State.receiveByte
  split
  · split
    · exact (h.reachTick _).lastSample p _ r
    · exact h
  · split
    · exact (h.reachPhase phase).zeroByte p _
    · exact h
  all_goals exact h

theorem State.Safe.zeroLimitReached (h : s.Safe) (p : PortId) : (s.zeroLimitReached p).Safe := by
  unfold State.zeroLimitReached
  split
  · split
    · exact (h.reachTick _).detectBreak p _
    · exact h
  · split
    · exact (h.reachTick _).detectBreak p _
    · exact h
  all_goals exact h

theorem State.Safe.breakEnds (h : s.Safe) (p : PortId) (phase : Nat) : (s.breakEnds p phase).Safe := by
  unfold State.breakEnds
  split
  · exact (h.reachPhase phase).endReceivedBreak p _ _
  all_goals exact h

theorem State.Safe.quietExpires (h : s.Safe) (p : PortId) : (s.quietExpires p).Safe := by
  unfold State.quietExpires
  split
  · exact h
  · split
    · exact State.Safe.handItem ((h.reachTick _).modPort id) p _
    · exact h

theorem State.Safe.endInterval (h : s.Safe) (p : PortId) : (s.endInterval p).Safe := by
  unfold State.endInterval
  split
  · exact h.judgeInterval p _
  · exact h.modPort id

theorem State.Safe.intervalEnds (h : s.Safe) (p : PortId) (phase : Nat) : (s.intervalEnds p phase).Safe := by
  unfold State.intervalEnds
  split
  · split
    · exact h
    · exact (h.reachPhase phase).endInterval p
  all_goals exact h

/-! ### The Capture Assembler, the status writer and the scanner -/

theorem State.Safe.meetNext (h : s.Safe) (p : PortId) : (s.meetNext p).Safe := by
  unfold State.meetNext
  split
  · split
    · exact h
    · exact h.meetInput p _
  · exact h

theorem State.Safe.requestStatus (h : s.Safe) (p : PortId) : (s.requestStatus p).Safe := by
  unfold State.requestStatus
  split
  · exact h.setPort p (h.port p)
  · exact h

theorem State.Safe.senseExpires (h : s.Safe) : s.senseExpires.Safe := by
  unfold State.senseExpires
  split <;> exact h

/-- The scanner has no part in the bounds. -/
theorem State.Safe.withScanner (h : s.Safe) (scanner : Scanner) : ({ s with scanner := scanner } : State).Safe := h

theorem State.Safe.sampleDone (h : s.Safe) (code : BitVec 12) : (s.sampleDone code).Safe := by
  unfold State.sampleDone
  split
  · exact h
  · split
    · unfold State.conversionDone
      dsimp only
      refine State.Safe.withScanner ?_ _
      split
      · exact (h.reachTick _).takeSample _ code
      · exact h
    · exact h

/-! ### Every command and every step -/

/-- Every command keeps the bounds. -/
theorem State.Safe.exec (h : s.Safe) {c : Instr} {t : State} (ht : exec c s = .next t) : t.Safe := by
  cases c <;> cases ht
  case enable => exact h.enableCommand
  case stop => exact h.stopCommand
  case sweep => exact h.requestSweep
  case softReset => exact h.softReset
  case attentionWrite value => exact h.writeAttention value
  case attnEnableWrite value => exact h.writeAttnEnable value
  case attnForceWrite value => exact h.raiseBits _
  case registerWrite reg bytes value => exact h.writeRegister reg bytes value
  case hardReset => exact s.hardReset_safe
  case busMasterConfigChange busMaster message => exact h.configure busMaster message
  case partTimeIncrement => exact h.partTimeIncrement
  case sweepTimerExpiry => exact h.sweepTimerExpires
  case hmeGrant => exact h.grantOne.watchDrain
  case writePieceLeaves => exact h.writeLeaves.watchDrain
  case readPieceLeaves => exact h.readLeaves
  case readPieceAnswer tag answer => exact (h.answerPiece tag answer).watchDrain
  case readPieceTimeout tag => exact (h.timeOutPiece tag).watchDrain
  case tsuTakeCompletion => exact h.takeOldest
  case rateWaitLimitExpiry p => exact (h.rateWaitExpires p).watchDrain
  case responseDeadlineExpiry p => exact (h.deadlineExpires p).watchDrain
  case retryPauseExpiry p => exact h.pauseExpires p
  case breakTimerExpiry p => exact h.breakExpires p
  case breakGuardEnd p => exact (h.endGuard p).watchDrain
  case txCharacterEnd p => exact (h.endCharacter p).watchDrain
  case txGapEnd p => exact h.endGap p
  case txPauseEnd p => exact h.endPause p
  case holdIdleTimerExpiry p => exact h.holdExpires p
  case rxByteDelivered p samples phase => exact (h.receiveByte p samples phase).watchDrain
  case rxBreakDetected p => exact h.zeroLimitReached p
  case rxBreakEnd p phase => exact h.breakEnds p phase
  case quietTimerExpiry p => exact h.quietExpires p
  case rfIntervalEnd p phase => exact h.intervalEnds p phase
  case caMeetInput p => exact h.meetNext p
  case statusWriteIssue p => exact h.requestStatus p
  case senseIntervalExpiry => exact h.senseExpires
  case senseSampleDone code => exact (h.sampleDone code).watchDrain
  case startEdge p phase => exact h.startEdge p phase
  case falseStart p => exact h.falseStart p
  case armingLineReturnsToMark p phase => exact h.armed p phase

end

/-- Settles O58: a step is an idle tick or the front command, and every operation of either keeps the bounds. -/
theorem everyStepKeepsTheBounds : Obligations.EveryStepKeepsTheBounds := by
  intro s t h ht
  unfold step at ht
  split at ht
  · cases ht
    exact h.idleTick
  · next c rest _ => exact State.Safe.exec (s := { s with pending := rest }) h ht

end Sys2Proof.Machine
end

section
/-! SUPPORT. The order of a line queue, and the order in which a sweep goes on; the statement on queue order. -/

namespace Sys2Proof.Machine

/-! ### The place of a new entry (R26) -/

theorem placeByKey_front {e : QueueEntry} {q : List QueueEntry} (h : ∀ x ∈ q, e.fields.orderKey < x.fields.orderKey) :
    placeByKey e q = e :: q := by
  cases q with
  | nil => rfl
  | cons x rest =>
    obtain ⟨head, behind⟩ := List.forall_mem_cons.1 h
    have later : ¬ (rest.any fun y => y.fields.orderKey ≤ e.fields.orderKey) = true := by simpa using behind
    simp [placeByKey, Nat.not_le.2 head, later]

/-- An entry that is passed stays in front of the new one. -/
theorem placeByKey_pass {e x : QueueEntry} {rest : List QueueEntry}
    (h : ∃ y ∈ x :: rest, y.fields.orderKey ≤ e.fields.orderKey) :
    placeByKey e (x :: rest) = x :: placeByKey e rest := by
  rw [placeByKey, if_pos]
  simpa using h

/-- The new entry goes right after the last one whose key is no larger. -/
theorem placeByKey_split (e : QueueEntry) (q : List QueueEntry) : ∃ before after, q = before ++ after
    ∧ placeByKey e q = before ++ e :: after ∧ (∀ x ∈ after, e.fields.orderKey < x.fields.orderKey)
    ∧ (before = [] ∨ ∃ x, before.getLast? = some x ∧ x.fields.orderKey ≤ e.fields.orderKey) := by
  induction q with
  | nil => exact ⟨[], [], rfl, rfl, by simp, .inl rfl⟩
  | cons x rest ih =>
    by_cases passed : ∃ y ∈ x :: rest, y.fields.orderKey ≤ e.fields.orderKey
    · obtain ⟨before, after, split, placed, larger, last⟩ := ih
      refine ⟨x :: before, after, by rw [split]; rfl, by rw [placeByKey_pass passed, placed]; rfl, larger, .inr ?_⟩
      rcases last with none | ⟨y, last, le⟩
      · obtain ⟨y, hy, le⟩ := passed
        subst none split
        rcases List.mem_cons.1 hy with rfl | behind
        · exact ⟨y, rfl, le⟩
        · exact absurd (larger y behind) (Nat.not_lt.2 le)
      · exact ⟨y, by rw [List.getLast?_cons, last]; rfl, le⟩
    · have larger : ∀ y ∈ x :: rest, e.fields.orderKey < y.fields.orderKey := by simpa using passed
      exact ⟨[], x :: rest, rfl, placeByKey_front larger, larger, .inl rfl⟩

/-- In a queue in key order the new entry parts those of no larger key from the rest. -/
theorem placeByKey_sorted {e : QueueEntry} {q : List QueueEntry}
    (sorted : q.Pairwise fun x y => x.fields.orderKey ≤ y.fields.orderKey) :
    placeByKey e q = (q.filter fun x => x.fields.orderKey ≤ e.fields.orderKey)
      ++ e :: (q.filter fun x => e.fields.orderKey < x.fields.orderKey) := by
  induction q with
  | nil => rfl
  | cons x rest ih =>
    obtain ⟨le, sorted⟩ := List.pairwise_cons.1 sorted
    by_cases head : x.fields.orderKey ≤ e.fields.orderKey
    · rw [placeByKey_pass ⟨x, List.mem_cons_self, head⟩, ih sorted]
      simp [head, Nat.not_lt.2 head]
    · have larger : ∀ y ∈ x :: rest, e.fields.orderKey < y.fields.orderKey :=
        List.forall_mem_cons.2 ⟨Nat.not_le.1 head, fun y hy => (Nat.not_le.1 head).trans_le (le y hy)⟩
      have none : (x :: rest).filter (fun y => y.fields.orderKey ≤ e.fields.orderKey) = [] :=
        List.filter_eq_nil_iff.2 fun y hy => by simpa using larger y hy
      have all : (x :: rest).filter (fun y => e.fields.orderKey < y.fields.orderKey) = x :: rest :=
        List.filter_eq_self.2 fun y hy => by simpa using larger y hy
      rw [placeByKey_front larger, none, all]
      rfl

/-- A queue in key order stays in key order. -/
theorem placeByKey_keeps_order {e : QueueEntry} {q : List QueueEntry}
    (sorted : q.Pairwise fun x y => x.fields.orderKey ≤ y.fields.orderKey) :
    (placeByKey e q).Pairwise fun x y => x.fields.orderKey ≤ y.fields.orderKey := by
  have front : ∀ x ∈ q.filter (fun x => x.fields.orderKey ≤ e.fields.orderKey),
      x.fields.orderKey ≤ e.fields.orderKey := fun x hx => of_decide_eq_true (List.mem_filter.1 hx).2
  have back : ∀ x ∈ q.filter (fun x => e.fields.orderKey < x.fields.orderKey),
      e.fields.orderKey ≤ x.fields.orderKey := fun x hx =>
    Nat.le_of_lt (of_decide_eq_true (List.mem_filter.1 hx).2)
  rw [placeByKey_sorted sorted, List.pairwise_append]
  refine ⟨sorted.filter _, List.pairwise_cons.2 ⟨back, sorted.filter _⟩, fun x hx y hy => ?_⟩
  rcases List.mem_cons.1 hy with rfl | behind
  · exact front x hx
  · exact (front x hx).trans (back y behind)

/-! ### The start of a queue (R26) -/

theorem placeEntry_unstarted (e : QueueEntry) (q : List QueueEntry) : placeEntry false e q = placeByKey e q := rfl

theorem placeEntry_empty (started : Bool) (e : QueueEntry) : placeEntry started e [] = placeByKey e [] := by
  cases started <;> rfl

/-- A sweep that goes on reads the first slot from its index on that is not in flight (R7). -/
theorem State.sweepOn_first {s : State} (requested : Bool) {i j : Nat} (le : i ≤ j)
    (inTable : j < s.tsu.geometry.slotCount) (free : j ∉ s.tsu.inFlight) :
    ∃ k, i ≤ k ∧ k ≤ j ∧ (s.sweepOn requested i).tsu.sweep = some (sweepAt requested k) := by
  have some : ∃ k, i ≤ k ∧ k ∉ s.tsu.inFlight := ⟨j, le, free⟩
  obtain ⟨from_i, freeFirst⟩ := Nat.find_spec some
  have first : Nat.find some ≤ j := Nat.find_min' some ⟨le, free⟩
  have passed : ∀ x, i ≤ x → x < Nat.find some → x ∈ s.tsu.inFlight := fun x hx lt => by
    by_contra out
    exact Nat.find_min some lt ⟨hx, out⟩
  refine ⟨Nat.find some, from_i, first, ?_⟩
  rw [State.sweepOn, Tsu.scanFrom_first from_i (by omega) freeFirst passed]

/-- Settles O23: the place of a new entry is the one behind the last entry of no larger key. -/
theorem queueOrderIsByKeyThenAdmission : Obligations.QueueOrderIsByKeyThenAdmission := by
  refine ⟨fun e q => ⟨placeByKey_split e q, fun sorted => ⟨placeByKey_keeps_order sorted, placeByKey_sorted sorted⟩,
    placeByKey_front⟩, fun s p e => ⟨?_, ?_, fun q hq => s.addEntry_port_ne e hq⟩, ?_⟩
  · rintro (idle | empty)
    · have unstarted : (s.port p).started = false := by simp [Port.started, idle]
      simp [unstarted, placeEntry_unstarted]
    · simp [empty, placeEntry_empty]
  · intro head rest started queue
    simp [(Port.started_iff _).2 started, queue, placeEntry]
  · intro s requested i j le inTable free
    exact State.sweepOn_first requested le inTable free

end Sys2Proof.Machine
end

section
/-! SUPPORT. What a BROADCAST notes of each share, and the completion that its last share hands; the statement on
broadcasts. -/

namespace Sys2Proof.Machine

/-! ### What a share's end notes (R47, R48) -/

section
variable (b : Broadcast) (p : PortId) (start now : Word) (n : Nat) (fault : Bool)

/-- The code of a BROADCAST by the order of R48; drained ports count as refused (R49). -/
theorem Broadcast.code_eq : b.code =
    if b.cancelled then .cancelled
    else if b.nDrained = b.total then .drained
    else if b.fault then .memoryFault
    else if b.refused ||| b.drained ≠ 0 then .partialResult
    else .ok := by
  unfold Broadcast.code Broadcast.refusedSet
  split_ifs <;> rfl

/-- A share that was stopped before its last byte adds its characters (R48, log 21). -/
theorem Broadcast.note_characters (set : ShareSet) : (b.note p set start now n fault).characters
    = b.characters + if set ≠ .sent ∧ n < b.textLength then n else 0 := by
  by_cases h : set ≠ .sent ∧ n < b.textLength
  · simp [Broadcast.note, h]
  · have none : set = .sent ∨ b.textLength ≤ n := by
      by_contra out
      obtain ⟨notSent, stopped⟩ := not_or.1 out
      exact h ⟨notSent, by omega⟩
    simp [Broadcast.note, h, none]

/-- Of two stamps the one that lies longer ago, as seen from the present, is the earlier. -/
theorem earlierStamp_some (first : Word) : earlierStamp now (some first) start =
    if (now - first).toNat < (now - start).toNat then start else first := by
  simp only [earlierStamp, ← Nat.not_lt, ite_not]

end

/-- The completion that the end of the last share hands, field by field (R48). -/
theorem Broadcast.note_completion {b : Broadcast} {p : PortId} {set : ShareSet} {start earliest now : Word} {n : Nat}
    {fault : Bool} {sent refused drained : BitVec 24} {nDrained : Nat}
    (first : earliest = earlierStamp now b.start start)
    (hs : sent = if set = .sent then b.sent ||| 1#24 <<< p.val else b.sent)
    (hr : refused = if set = .refused then b.refused ||| 1#24 <<< p.val else b.refused)
    (hd : drained = if set = .drained then b.drained ||| 1#24 <<< p.val else b.drained)
    (hn : nDrained = if set = .drained then b.nDrained + 1 else b.nDrained) :
    (b.note p set start now n fault).completion now =
      { slot := b.slot, notify := b.notify
        code := if b.cancelled = true then .cancelled
          else if nDrained = b.total then .drained
          else if (b.fault || fault) = true then .memoryFault
          else if refused ||| drained ≠ 0 then .partialResult
          else .ok
        attempts := 0
        bytesSent := b.textLength * ((List.finRange 24).filter fun q : PortId => sent.getLsbD q.val).length
          + b.characters + (if set ≠ .sent ∧ n < b.textLength then n else 0)
        matchSequence := 0, startTime := earliest, endTime := now
        outcomeA := sent.setWidth 32
        outcomeB := (if nDrained = b.total then refused else refused ||| drained).setWidth 32 } := by
  subst first hs hr hd hn
  rw [Broadcast.completion, Broadcast.code_eq, Broadcast.note_characters, Nat.add_assoc]
  rfl

/-! ### The statement -/

/-- Settles O56: by what each share's end notes, and by the completion of the last one. -/
theorem broadcastCompletesWithItsLastShare : Obligations.BroadcastCompletesWithItsLastShare := by
  refine ⟨fun complete => ⟨rfl, rfl, rfl, rfl, rfl, rfl, rfl, rfl⟩, Broadcast.code_eq, ?_, ?_, ?_⟩
  · intro s p b start n only
    refine ⟨fun more => ?_, fun last going undrained well => ?_⟩
    · rw [State.shareEnds_noted only rfl more]
      exact ⟨rfl, _, rfl, rfl, rfl, rfl, rfl, rfl, rfl, rfl⟩
    · have partly : b.nDrained ≠ b.total := by omega
      rw [State.shareEnds_completed only rfl last, Broadcast.note_completion rfl rfl rfl rfl rfl]
      exact ⟨rfl, _, rfl, rfl, rfl, rfl, rfl, by simp [going, partly, well], rfl, rfl, by simp [partly], by simp⟩
  · intro s p b start n fault only more
    simp only [State.shareEnds_noted only rfl more]
    refine ⟨⟨_, rfl, rfl, rfl, rfl, rfl, rfl, rfl, ?_⟩, ⟨_, rfl, rfl, rfl, rfl, rfl, rfl, by simp [Broadcast.note], ?_⟩,
      ⟨_, rfl, rfl, rfl, rfl, rfl, rfl, by simp [Broadcast.note], ?_⟩, trivial⟩
    all_goals
      rw [Broadcast.note_characters]
      split_ifs <;> simp_all
  · intro s p b set start earliest n fault only first
    replace first : earliest = earlierStamp s.partTime b.start start := by
      rw [first]
      cases b.start with
      | none => rfl
      | some stamp => exact (earlierStamp_some ..).symm
    refine ⟨fun more => ?_, fun sent refused drained nDrained last hs hr hd hn => ?_⟩
    · rw [State.shareEnds_noted only rfl more]
      exact ⟨_, rfl, by rw [first]; rfl⟩
    · rw [State.shareEnds_completed only rfl last, Broadcast.note_completion first hs hr hd hn]
      exact ⟨rfl, rfl, rfl⟩

end Sys2Proof.Machine
end

section
/-! SUPPORT. What handing an item leaves of every port, the start of a search, and the packed parameters of LINE; the
statement on LINE and WATCH. -/

namespace Sys2Proof.Machine

/-! ### What an item leaves unchanged (R130) -/

section
variable {s t : State} {p : PortId}

/-- A change of one port's capture leaves the rest of every port. -/
theorem State.onlyCapture.port_eq (h : s.onlyCapture p t) (q : PortId) :
    t.port q = { s.port q with ca := (t.port q).ca, status := (t.port q).status } := by
  by_cases hq : q = p
  · subst hq
    exact h.own
  · rw [h.elsewhere q hq]

theorem State.onlyCapture.rf (h : s.onlyCapture p t) (q : PortId) : (t.port q).rf = (s.port q).rf := by
  rw [h.port_eq q]

theorem State.onlyCapture.pm (h : s.onlyCapture p t) (q : PortId) : (t.port q).pm = (s.port q).pm := by
  rw [h.port_eq q]

theorem State.onlyCapture.guard (h : s.onlyCapture p t) (q : PortId) : (t.port q).guard = (s.port q).guard := by
  rw [h.port_eq q]

end

section
variable (s : State) (p : PortId) (a : ItemAction) (q : PortId)

@[simp] theorem State.handItem_queue : ((s.handItem p a).port q).queue = (s.port q).queue := by
  rw [(s.onlyCapture_handItem p a).port_eq q]

@[simp] theorem State.handItem_exc : ((s.handItem p a).port q).exc = (s.port q).exc := by
  rw [(s.onlyCapture_handItem p a).port_eq q]

@[simp] theorem State.handItem_hold : ((s.handItem p a).port q).hold = (s.port q).hold := by
  rw [(s.onlyCapture_handItem p a).port_eq q]

@[simp] theorem State.handItem_guard : ((s.handItem p a).port q).guard = (s.port q).guard :=
  (s.onlyCapture_handItem p a).guard q

@[simp] theorem State.handItem_slu : ((s.handItem p a).port q).slu = (s.port q).slu := by
  rw [(s.onlyCapture_handItem p a).port_eq q]

@[simp] theorem State.handItem_rf : ((s.handItem p a).port q).rf = (s.port q).rf :=
  (s.onlyCapture_handItem p a).rf q

@[simp] theorem State.handItem_pm : ((s.handItem p a).port q).pm = (s.port q).pm :=
  (s.onlyCapture_handItem p a).pm q

@[simp] theorem State.handItem_freeze : ((s.handItem p a).port q).freeze = (s.port q).freeze := by
  rw [(s.onlyCapture_handItem p a).port_eq q]

@[simp] theorem State.handItem_sense : ((s.handItem p a).port q).sense = (s.port q).sense := by
  rw [(s.onlyCapture_handItem p a).port_eq q]

theorem State.handItem_port_ne {q : PortId} (h : q ≠ p) : (s.handItem p a).port q = s.port q :=
  (s.onlyCapture_handItem p a).elsewhere q h

end

/-! ### The start of a search (R88, R96) -/

theorem State.seek_port_same (s : State) (p : PortId) (attempts : Nat) : (s.seek p attempts).port p =
    (s.port p).noting { s.port p with
      rf := (s.port p).rf.seek attempts, slu := (s.port p).slu.silence (s.freeLevel p) } := by
  unfold State.seek
  dsimp only
  split <;> simp

theorem State.seek_port_ne (s : State) {p q : PortId} (attempts : Nat) (h : q ≠ p) :
    (s.seek p attempts).port q = s.port q := by
  unfold State.seek
  dsimp only
  split <;> simp [State.port_modPort_ne _ _ h]

/-- A receiver that is in no detected BREAK stops decoding (R88). -/
theorem Slu.silence_rx {u : Slu} (free : Bool) (h : ∀ edge silent, u.rx ≠ .brk edge silent) :
    (u.silence free).rx = .notDecoding := by
  have quiet : u.rx.inBreak = false := by
    cases rx : u.rx with
    | brk edge silent => exact absurd rx (h edge silent)
    | _ => rfl
  simp [Slu.silence, quiet]

/-! ### The parameters of a LINE (R79, R190) -/

theorem byteAt_eq_extract (w : Word) (n : Nat) : byteAt w n = w.extractLsb' (8 * n) 8 := by
  apply BitVec.eq_of_toNat_eq
  simp [byteAt]

/-- The settings of a LINE with a rate, by the bits of its parameters. -/
theorem LineSettings.ofTask_rate (old : LineSettings) {f : TaskFields} (rate : f.paramA ≠ 0) : old.ofTask f =
    { mode := .fixed
      period := periodOfRate f.paramA.toNat
      format := { dataBits := if f.paramC.extractLsb' 0 8 = 7 then 7 else 8
                  parity := if f.paramC.extractLsb' 8 8 = 1 then .even
                    else if f.paramC.extractLsb' 8 8 = 2 then .odd else .noParity
                  stopBits := if f.paramC.extractLsb' 16 8 = 2 then 2 else 1 }
      gap := (f.paramC.extractLsb' 24 8).toNat
      fallbackRate := (f.paramB.extractLsb' 0 24).toNat
      pauseEnable := f.paramB.getLsbD 24
      lineEndCode := f.paramD.extractLsb' 0 8
      pauseMs := min 1000 (4 * (f.paramD.extractLsb' 24 8).toNat)
      endCodeEnable := f.paramB.getLsbD 25
      endCode := f.paramD.extractLsb' 8 8
      quiet := if f.paramD.extractLsb' 16 8 = 0 then 4 else (f.paramD.extractLsb' 16 8).toNat } := by
  have fallback : (f.paramB.extractLsb' 0 24).toNat = f.paramB.toNat % 2 ^ 24 := by simp
  rw [fallback]
  simp only [LineSettings.ofTask, lineFormatOf, byteAt_eq_extract, if_neg rate, Nat.mul_zero, Nat.mul_one,
    Nat.reduceMul]

/-! ### LINE and WATCH (R42, R43) -/

/-- The settings of a LINE are in effect and progress is reset, its open record closed (R42). -/
def State.lineApplied (s : State) (p : PortId) (f : TaskFields) : State :=
  (s.handItem p (.close [])).modPort p fun v =>
    { v with pm := v.pm.resetProgress, slu := { v.slu with line := v.slu.line.ofTask f } }

@[simp] theorem State.lineApplied_slu (s : State) (p : PortId) (f : TaskFields) :
    ((s.lineApplied p f).port p).slu = { (s.port p).slu with line := (s.port p).slu.line.ofTask f } := by
  simp [State.lineApplied]

@[simp] theorem State.lineApplied_pm (s : State) (p : PortId) (f : TaskFields) :
    ((s.lineApplied p f).port p).pm = (s.port p).pm.resetProgress := by
  simp [State.lineApplied]

@[simp] theorem State.lineApplied_guard (s : State) (p : PortId) (f : TaskFields) :
    ((s.lineApplied p f).port p).guard = (s.port p).guard := by
  simp [State.lineApplied]

theorem State.lineApplied_port_ne (s : State) {p q : PortId} (f : TaskFields) (h : q ≠ p) :
    (s.lineApplied p f).port q = s.port q := by
  rw [State.lineApplied, State.port_modPort_ne _ _ h, State.handItem_port_ne _ _ _ h]

/-- LINE with a rate leaves FIXED, and a receiver that was silenced listens again (R42, R104). -/
def State.lineFixed (s : State) (p : PortId) (f : TaskFields) : State :=
  (s.lineApplied p f).modPort p fun v =>
    { v with rf := v.rf.fix, slu := if v.rf.state = .seeking then v.slu.listen else v.slu }

theorem State.lineTask_rate {s : State} {p : PortId} {f : TaskFields} (rate : f.paramA ≠ 0) : s.lineTask p f =
    ((s.lineFixed p f).handItem p
      (.close [(.settings, BitVec.ofNat 32 (achievedRate (periodOfRate f.paramA.toNat)))]),
      { code := .ok, matchSequence := 0, outcomeA := BitVec.ofNat 32 (achievedRate (periodOfRate f.paramA.toNat))
        outcomeB := BitVec.ofNat 32 (periodOfRate f.paramA.toNat) }) := by
  simp only [State.lineTask, if_neg rate]
  rfl

theorem State.lineTask_auto {s : State} {p : PortId} {f : TaskFields} (auto : f.paramA = 0) : s.lineTask p f =
    (((s.lineApplied p f).seek p 0).handItem p (.close [(.settings, 0)]), endWith .ok) := by
  simp only [State.lineTask, if_pos auto]
  rfl

/-- What LINE leaves of a port besides its settings, with a rate or without. -/
theorem State.lineTask_frame (s : State) (p : PortId) (f : TaskFields) :
    ((s.lineTask p f).1.port p).pm = (s.port p).pm.resetProgress
      ∧ ((s.lineTask p f).1.port p).slu.tx = (s.port p).slu.tx
      ∧ ((s.lineTask p f).1.port p).slu.receiveCount = (s.port p).slu.receiveCount
      ∧ ((s.lineTask p f).1.port p).guard = (s.port p).guard ∧ s.sameElsewhere p (s.lineTask p f).1 := by
  by_cases auto : f.paramA = 0
  · rw [State.lineTask_auto auto]
    refine ⟨?_, ?_, ?_, ?_, fun q hq => ?_⟩
    · simp [State.seek_port_same]
    · simp [State.seek_port_same, Slu.silence]
    · simp [State.seek_port_same, Slu.silence]
    · simp [State.seek_port_same]
    · rw [State.handItem_port_ne _ _ _ hq, State.seek_port_ne _ _ hq, State.lineApplied_port_ne _ _ hq]
  · rw [State.lineTask_rate auto]
    refine ⟨?_, ?_, ?_, ?_, fun q hq => ?_⟩
    · simp [State.lineFixed]
    · simp only [State.handItem_slu, State.lineFixed, State.port_modPort_same, Port.noting_slu]
      split <;> simp [Slu.listen]
    · simp only [State.handItem_slu, State.lineFixed, State.port_modPort_same, Port.noting_slu]
      split <;> simp [Slu.listen]
    · simp [State.lineFixed]
    · rw [State.handItem_port_ne _ _ _ hq, State.lineFixed, State.port_modPort_ne _ _ hq,
        State.lineApplied_port_ne _ _ hq]

theorem State.lineFixed_line (s : State) (p : PortId) (f : TaskFields) :
    ((s.lineFixed p f).port p).slu.line = (s.port p).slu.line.ofTask f := by
  simp only [State.lineFixed, State.port_modPort_same, Port.noting_slu]
  split <;> simp [Slu.listen]

theorem PortMatch.setWatch_eligible (m : PortMatch) (watch trigger : BitVec 32) (i : PatternId) :
    (m.setWatch watch trigger).eligible[i] =
      if (watch.getLsbD i.val ∧ m.watch.getLsbD i.val) ∨ m.await = some i then m.eligible[i] else 0 := by
  simp [PortMatch.setWatch, PortMatch.withEligible]

/-- A change of one port's state alone. -/
theorem State.onlyPort_modPort (s : State) (p : PortId) (f : Port → Port) : s.onlyPort p (s.modPort p f) :=
  ⟨⟨rfl, rfl, rfl, rfl, rfl, rfl, rfl, rfl, rfl⟩, fun _ hq => s.port_modPort_ne f hq, rfl⟩

/-- Settles O54: LINE by its two forms, WATCH by the sets that it gives. -/
theorem lineAndWatchTakeTheirParameters : Obligations.LineAndWatchTakeTheirParameters := by
  intro s p f
  obtain ⟨progress, tx, count, guard, elsewhere⟩ := s.lineTask_frame p f
  refine ⟨fun rate => ?_, fun auto => ?_, progress, tx, count, guard, elsewhere, rfl, ?_, ?_, ?_, fun i => ?_, ?_,
    s.onlyPort_modPort p _⟩
  · rw [State.lineTask_rate rate]
    refine ⟨rfl, ?_, ?_⟩
    · rw [State.handItem_slu, State.lineFixed_line, LineSettings.ofTask_rate _ rate]
    · simp [State.lineFixed, RateFinder.fix]
  · rw [State.lineTask_auto auto]
    refine ⟨rfl, ?_, ?_, ?_, fun listening => ?_⟩
    · simp [State.seek_port_same, Slu.silence, LineSettings.ofTask, auto]
    · simp [State.seek_port_same, Slu.silence, LineSettings.ofTask, auto]
    · simp [State.seek_port_same, RateFinder.seek]
    · rw [State.handItem_slu, State.seek_port_same, Port.noting_slu]
      exact Slu.silence_rx _ (by simpa using listening)
  · simp [State.watchTask, PortMatch.setWatch]
  · simp [State.watchTask, PortMatch.setWatch]
  · simp [State.watchTask, PortMatch.setWatch, PortMatch.withEligible]
  · have watched : ((s.watchTask p f).1.port p).pm = (s.port p).pm.setWatch f.paramA f.paramB := by
      simp [State.watchTask]
    rw [watched]
    exact PortMatch.setWatch_eligible ..
  · simp [State.watchTask]

end Sys2Proof.Machine
end

section
/-! SUPPORT. Frames of what a step leaves unchanged, the watch of a drain where the drain is not done, the head checks,
and the attempts of an exchange; the statements on heads and on the timers of a task. -/

namespace Sys2Proof.Machine

/-! ### Frames -/

section
variable {s t u : State} {p : PortId}

theorem State.sameElsewhere.trans (st : s.sameElsewhere p t) (tu : t.sameElsewhere p u) : s.sameElsewhere p u :=
  fun q hq => (tu q hq).trans (st q hq)

theorem State.onlyPort.trans (st : s.onlyPort p t) (tu : t.onlyPort p u) : s.onlyPort p u := by
  obtain ⟨⟨a1, a2, a3, a4, a5, a6, a7, a8, a9⟩, st, at'⟩ := st
  obtain ⟨⟨b1, b2, b3, b4, b5, b6, b7, b8, b9⟩, tu, bt⟩ := tu
  exact ⟨⟨b1.trans a1, b2.trans a2, b3.trans a3, b4.trans a4, b5.trans a5, b6.trans a6, b7.trans a7, b8.trans a8,
    b9.trans a9⟩, State.sameElsewhere.trans st tu, bt.trans at'⟩

theorem State.onlyCapture.onlyPort (h : s.onlyCapture p t) : s.onlyPort p t := by
  have same := h.beside
  refine ⟨?_, h.elsewhere, by rw [same]⟩
  rw [same]
  exact ⟨rfl, rfl, rfl, rfl, rfl, rfl, rfl, rfl, rfl⟩

/-- Only the capture assemblers, the status writers and the Bus Port may differ. -/
structure State.onlyCaptures (s t : State) : Prop where
  beside : t = { s with ports := t.ports, bus := t.bus }
  port : ∀ q, t.port q = { s.port q with ca := (t.port q).ca, status := (t.port q).status }

theorem State.onlyCaptures.refl (s : State) : s.onlyCaptures s := ⟨rfl, fun _ => rfl⟩

theorem State.onlyCaptures.trans (st : s.onlyCaptures t) (tu : t.onlyCaptures u) : s.onlyCaptures u := by
  refine ⟨?_, fun q => ?_⟩
  · calc
      u = { t with ports := u.ports, bus := u.bus } := tu.beside
      _ = { s with ports := u.ports, bus := u.bus } := by rw [st.beside]
  · rw [tu.port q, st.port q]

theorem State.onlyCapture.onlyCaptures (h : s.onlyCapture p t) : s.onlyCaptures t :=
  ⟨by rw [h.beside], h.port_eq⟩

theorem State.onlyCaptures.withBus (h : s.onlyCaptures t) (bus : BusPort) :
    s.onlyCaptures { t with bus := bus } :=
  ⟨congrArg (fun u : State => { u with bus := bus }) h.beside, h.port⟩

theorem State.onlyCaptures.tsu (h : s.onlyCaptures t) : t.tsu = s.tsu := by rw [h.beside]

theorem State.onlyCaptures.time (h : s.onlyCaptures t) : t.time = s.time := by rw [h.beside]

theorem State.onlyCaptures.attention (h : s.onlyCaptures t) : t.attention = s.attention := by rw [h.beside]

theorem State.onlyCaptures.hme (h : s.onlyCaptures t) : t.hme = s.hme := by rw [h.beside]

/-! ### The watch of a drain that is not done (R182) -/

theorem State.onlyCaptures_forPorts_handItem (s : State) (a : ItemAction) :
    s.onlyCaptures (s.forPorts fun p s => s.handItem p a) :=
  State.forPorts_keeps (P := s.onlyCaptures) (fun p u hu => hu.trans (u.onlyCapture_handItem p a).onlyCaptures)
    (.refl s)

/-- The settle requests reach the capture assemblers alone. -/
theorem State.onlyCaptures_watchSettle (s : State) : s.onlyCaptures s.watchSettle := by
  unfold State.watchSettle
  split
  · exact (s.onlyCaptures_forPorts_handItem .settle).withBus _
  · exact .refl s

@[simp] theorem State.watchSettle_tsu (s : State) : s.watchSettle.tsu = s.tsu := s.onlyCaptures_watchSettle.tsu

/-- While a completion waits to be taken the drain is not done. -/
theorem State.onlyCaptures_watchDrain (h : s.tsu.completions ≠ []) : s.onlyCaptures s.watchDrain := by
  have undone : s.watchSettle.drainDone = false := by simp [State.drainDone, h]
  unfold State.watchDrain
  split
  · rw [undone, if_neg Bool.false_ne_true]
    exact s.onlyCaptures_watchSettle
  · exact .refl s

/-- While an entry is queued a drain has nothing to watch for. -/
theorem State.watchDrain_queued {e : QueueEntry} {rest : List QueueEntry} (h : (s.port p).queue = e :: rest) :
    s.watchDrain = s := by
  have queued : s.queuesEmpty = false := by
    rw [State.queuesEmpty, List.all_eq_false]
    exact ⟨p, List.mem_finRange p, by simp [h]⟩
  have settle : s.watchSettle = s := by simp [State.watchSettle, queued]
  simp [State.watchDrain, settle, State.drainDone, queued]

end

/-! ### The end of a port's only task, with the drain watched (R27, R182) -/

section
variable {s t : State} {p : PortId} {e : QueueEntry} {fin : TaskEnd}

/-- What the end of a port's only task, no share, leaves, whether or not the drain is watched then. -/
theorem State.endTask_watched (queue : (s.port p).queue = [e]) (task : e.kind ≠ .broadcast)
    (ht : (s.endTask p fin).watchDrain = t) :
    t.port p = { s.port p with
        queue := [], exc := Exc.idle, hold := (s.port p).hold.restarted e.fields.originator
          (some (s.arm ((s.port p).hold.idleSeconds * 1000)))
        ca := (t.port p).ca, status := (t.port p).status }
      ∧ t.tsu = { s.tsu with completions := s.tsu.completions ++ [s.headCompletion p e fin] }
      ∧ t.time = s.time ∧ t.attention = s.attention ∧ t.hme = s.hme
      ∧ (s.bus.control ≠ .draining → s.sameElsewhere p t) := by
  rw [State.endTask_only queue task] at ht
  have watched : ((s.headLeft p e).handCompletion (s.headCompletion p e fin)).onlyCaptures t :=
    ht ▸ State.onlyCaptures_watchDrain (by simp [State.handCompletion])
  refine ⟨?_, watched.tsu, watched.time, watched.attention, watched.hme, fun control q hq => ?_⟩
  · rw [watched.port p, State.handCompletion_port, State.headLeft_port_same]
    rcases Port.noting_eq (s.port p) { s.port p with
      queue := [], exc := Exc.idle, hold := (s.port p).hold.onEnd e.fields.originator s.arm } with h | h <;>
    rw [h] <;> rfl
  · rw [State.watchDrain_same (by simpa using control)] at ht
    rw [← ht, State.handCompletion_port, State.headLeft_port_ne _ _ hq]

end

/-! ### The rate-wait limit (R29) -/

theorem exec_rateWaitLimitExpiry (p : PortId) (s : State) :
    exec (.rateWaitLimitExpiry p) s = .next (s.rateWaitExpires p).watchDrain := rfl

/-- Settles O33: the end of the only task, by its controller's counts. -/
theorem rateWaitLimitEndsNoRate : Obligations.RateWaitLimitEndsNoRate := by
  refine ⟨?_, ?_⟩
  · intro s p e tm queue task waiting timer due attempts bytes
    have ends : s.rateWaitExpires p = s.endTask p (endWith .noRate) := by
      simp [State.rateWaitExpires, waiting, timer, State.expired_some, due]
    obtain ⟨port, tsu, _, _, hme, elsewhere⟩ :=
      State.endTask_watched (fin := endWith .noRate) queue task (congrArg _ ends.symm)
    refine ⟨_, exec_rateWaitLimitExpiry p s, ?_⟩
    rw [port, tsu]
    refine ⟨rfl, rfl, rfl, rfl, rfl, rfl, ?_, rfl, fun control => ⟨elsewhere control, hme⟩⟩
    simp [State.headCompletion, attempts, bytes, endWith]
  · intro s p tm control timer early
    have waits : s.rateWaitExpires p = s := by
      simp [State.rateWaitExpires, timer, State.expired_some, Nat.not_le.2 early]
    rw [exec_rateWaitLimitExpiry, waits, State.watchDrain_same control]

end Sys2Proof.Machine
end

section
/-! SUPPORT. The attempts of an exchange, the taking of heads and the end of a break; the statements on head checks,
deadlines, pauses and breaks. -/

namespace Sys2Proof.Machine

/-! ### The present after a change of one port -/

@[simp] theorem State.modPort_partTime (s : State) (p : PortId) (f : Port → Port) :
    (s.modPort p f).partTime = s.partTime := rfl

@[simp] theorem State.modPort_arm (s : State) (p : PortId) (f : Port → Port) (span : Nat) :
    (s.modPort p f).arm span = s.arm span := rfl

@[simp] theorem State.disarm_partTime (s : State) (p : PortId) : (s.disarm p).partTime = s.partTime := rfl

@[simp] theorem State.disarm_arm (s : State) (p : PortId) (span : Nat) : (s.disarm p).arm span = s.arm span := rfl

@[simp] theorem State.disarm_tsu (s : State) (p : PortId) : (s.disarm p).tsu = s.tsu := rfl

@[simp] theorem State.lineFreed_partTime (s : State) (p : PortId) : (s.lineFreed p).partTime = s.partTime := rfl

@[simp] theorem State.lineFreed_tsu (s : State) (p : PortId) : (s.lineFreed p).tsu = s.tsu := rfl

/-! ### Attempts (R35, R41) -/

section
variable (s : State) (p : PortId) (f : TaskFields)

/-- An attempt has been counted (R35). -/
def State.attemptCounted : State := s.modPort p fun v => { v with exc := { v.exc with attempts := v.exc.attempts + 1 } }

@[simp] theorem State.attemptCounted_arm (span : Nat) : (s.attemptCounted p).arm span = s.arm span := rfl

@[simp] theorem State.attemptCounted_port : (s.attemptCounted p).port p = (s.port p).noting { s.port p with
    exc := { (s.port p).exc with attempts := (s.port p).exc.attempts + 1 } } := by
  simp [State.attemptCounted]

theorem State.attemptCounted_port_ne {q : PortId} (h : q ≠ p) : (s.attemptCounted p).port q = s.port q :=
  s.port_modPort_ne _ h

@[simp] theorem State.enterAwaiting_port : (s.enterAwaiting p f).port p = (s.port p).noting { s.port p with
    exc := { (s.port p).exc with
      state := .awaiting, timer := some (s.arm ((s.port p).slu.line.responseMs f.responseTime)) }
    pm := (s.port p).pm.armAwait (Fin.ofNat 32 f.patternId) } := by
  simp [State.enterAwaiting]

@[simp] theorem State.enterSending_guard : ((s.enterSending p).port p).guard = (s.port p).guard := by
  simp [State.enterSending]

@[simp] theorem State.enterSending_pm : ((s.enterSending p).port p).pm = (s.port p).pm := by
  simp [State.enterSending]

@[simp] theorem State.enterSending_attention : (s.enterSending p).attention = s.attention := by
  simp [State.enterSending]

end

/-- What the beginning of an attempt leaves of the part besides the controller, the staging buffer, the await and the
link. -/
structure State.attemptFrame (s : State) (p : PortId) (t : State) : Prop where
  queue : (t.port p).queue = (s.port p).queue
  hold : (t.port p).hold = (s.port p).hold
  guard : (t.port p).guard = (s.port p).guard
  line : (t.port p).slu.line = (s.port p).slu.line
  tx : (t.port p).slu.tx = (s.port p).slu.tx
  watch : (t.port p).pm.watch = (s.port p).pm.watch
  tsu : t.tsu = s.tsu
  attention : t.attention = s.attention
  elsewhere : s.sameElsewhere p t

section
variable {s : State} {p : PortId} {f : TaskFields}

theorem State.beginAttempt_text (text : 0 < f.textLength) :
    s.beginAttempt p f = (s.attemptCounted p).enterSending p := if_pos text

theorem State.beginAttempt_empty (empty : f.textLength = 0) :
    s.beginAttempt p f = (s.attemptCounted p).enterAwaiting p f := if_neg (by omega)

theorem State.attemptFrame_beginAttempt (s : State) (p : PortId) (f : TaskFields) :
    s.attemptFrame p (s.beginAttempt p f) := by
  by_cases text : 0 < f.textLength
  · rw [State.beginAttempt_text text]
    refine ⟨by simp, by simp, by simp, by simp, by simp, by simp, by simp [State.attemptCounted], ?_, fun q hq => ?_⟩
    · rw [State.enterSending_attention]
      rfl
    · rw [State.enterSending_port_ne _ hq, State.attemptCounted_port_ne _ _ hq]
  · rw [State.beginAttempt_empty (Nat.eq_zero_of_not_pos text)]
    refine ⟨by simp, by simp, by simp, by simp, by simp, ?_, rfl, rfl, fun q hq => ?_⟩
    · rw [State.enterAwaiting_port, Port.noting_pm]
      simp [PortMatch.armAwait]
    · rw [State.enterAwaiting, State.port_modPort_ne _ _ hq, State.attemptCounted_port_ne _ _ hq]

/-- An attempt with a text: it is sent from its first byte (R30, R35). -/
theorem State.beginAttempt_sends (text : 0 < f.textLength) :
    ((s.beginAttempt p f).port p).exc = { (s.port p).exc with
        state := .sending, attempts := (s.port p).exc.attempts + 1, timer := none }
      ∧ ((s.beginAttempt p f).port p).slu = { (s.port p).slu with staging := [], fetchOffset := 0, textRead := none }
      ∧ ((s.beginAttempt p f).port p).pm = (s.port p).pm := by
  rw [State.beginAttempt_text text]
  simp

/-- The response deadline's time by the settings of the port (R33, R76). -/
theorem Port.responseMs_eq_deadlineMs (v : Port) (field : Nat) : v.slu.line.responseMs field = v.deadlineMs field := rfl

/-- An attempt without a text: the deadline and the await are armed at once (R33, R41). -/
theorem State.beginAttempt_awaits (empty : f.textLength = 0) :
    ((s.beginAttempt p f).port p).exc = { (s.port p).exc with
        state := .awaiting, attempts := (s.port p).exc.attempts + 1
        timer := some (s.arm ((s.port p).deadlineMs f.responseTime)) }
      ∧ ((s.beginAttempt p f).port p).slu = (s.port p).slu
      ∧ ((s.beginAttempt p f).port p).pm.await = some (Fin.ofNat 32 f.patternId) := by
  rw [State.beginAttempt_empty empty]
  refine ⟨?_, by simp, ?_⟩
  · simp [← Port.responseMs_eq_deadlineMs]
  · rw [State.enterAwaiting_port, Port.noting_pm]
    rfl

end

/-! ### The retry pause (R36) -/

theorem exec_retryPauseExpiry (p : PortId) (s : State) : exec (.retryPauseExpiry p) s = .next (s.pauseExpires p) := rfl

/-- Settles O35: the expiry begins an attempt for the head. -/
theorem retryPauseBeginsTheNextAttempt : Obligations.RetryPauseBeginsTheNextAttempt := by
  intro s p e tm head pausing timer due
  obtain ⟨rest, queue⟩ := List.head?_eq_some_iff.1 head
  have begins : s.pauseExpires p = s.beginAttempt p e.fields := by
    simp [State.pauseExpires, queue, pausing, timer, State.expired_some, due]
  have frame := s.attemptFrame_beginAttempt p e.fields
  refine ⟨_, by rw [exec_retryPauseExpiry, begins], ?_, ?_, fun text => ?_, fun empty => ?_, frame.queue, frame.guard,
    frame.hold, frame.line, frame.tsu, frame.attention, frame.elsewhere⟩
  · rcases Nat.eq_zero_or_pos e.fields.textLength with empty | text
    · rw [(State.beginAttempt_awaits empty).1]
    · rw [(State.beginAttempt_sends text).1]
  · rcases Nat.eq_zero_or_pos e.fields.textLength with empty | text
    · rw [(State.beginAttempt_awaits empty).1]
    · rw [(State.beginAttempt_sends text).1]
  · obtain ⟨exc, slu, _⟩ := State.beginAttempt_sends (s := s) (p := p) text
    rw [exc, slu]
    exact ⟨rfl, rfl, rfl, rfl, rfl⟩
  · obtain ⟨exc, slu, await⟩ := State.beginAttempt_awaits (s := s) (p := p) empty
    rw [exc, slu]
    exact ⟨rfl, rfl, await, rfl⟩

/-! ### The response deadline (R35) -/

theorem exec_responseDeadlineExpiry (p : PortId) (s : State) :
    exec (.responseDeadlineExpiry p) s = .next (s.deadlineExpires p).watchDrain := rfl

theorem PortMatch.disarmAwait_watch (m : PortMatch) : m.disarmAwait.watch = m.watch := by
  unfold PortMatch.disarmAwait
  split
  · rfl
  · split <;> simp

/-- The EXC pauses before its next attempt (R35). -/
def State.pauseEntered (s : State) (p : PortId) (f : TaskFields) : State :=
  s.modPort p fun v => { v with exc := { v.exc with state := .pausing, timer := some (s.arm f.retryPause) } }

section
variable {s : State} {p : PortId} {e : QueueEntry}

/-- An attempt that begins, or a pause, keeps the entry, so that a drain is not watched. -/
theorem State.watchDrain_beginAttempt (queue : (s.port p).queue = [e]) :
    (s.beginAttempt p e.fields).watchDrain = s.beginAttempt p e.fields :=
  State.watchDrain_queued ((s.attemptFrame_beginAttempt p e.fields).queue.trans queue)

theorem State.watchDrain_pauseEntered (queue : (s.port p).queue = [e]) :
    (s.pauseEntered p e.fields).watchDrain = s.pauseEntered p e.fields :=
  State.watchDrain_queued (p := p) (by simpa [State.pauseEntered] using queue)

end

/-- Settles O34: what follows a deadline, by the attempts that are left, the pause and the text. -/
theorem responseDeadlineRetriesOrEnds : Obligations.ResponseDeadlineRetriesOrEnds := by
  intro s p e tm queue exchange awaiting timer due
  have task : e.kind ≠ .broadcast := by simp [exchange]
  have expires : s.deadlineExpires p = (s.disarm p).afterDeadline p e.fields := by
    simp [State.deadlineExpires, queue, awaiting, timer, State.expired_some, due]
  have queued : ((s.disarm p).port p).queue = [e] := by simpa using queue
  have disarmed : s.sameElsewhere p (s.disarm p) := fun q hq => s.port_modPort_ne _ hq
  have watch : ((s.disarm p).port p).pm.watch = (s.port p).pm.watch := by simp [PortMatch.disarmAwait_watch]
  refine ⟨_, exec_responseDeadlineExpiry p s, ?_⟩
  rw [expires]
  by_cases more : (s.port p).exc.attempts < min e.fields.retries 15 + 1
  · have left : ((s.disarm p).port p).exc.attempts < e.fields.allowed := by simpa [TaskFields.allowed] using more
    by_cases pause : 0 < e.fields.retryPause
    · have after : (s.disarm p).afterDeadline p e.fields = (s.disarm p).pauseEntered p e.fields := by
        rw [State.afterDeadline, if_pos left, if_pos pause]
        rfl
      rw [after, State.watchDrain_pauseEntered queued]
      refine ⟨fun _ _ => ⟨?_, ?_, ?_, rfl, ?_⟩, fun _ none => by omega, fun _ none => by omega, fun out => by omega,
        fun _ q hq => ?_, ?_, ?_⟩
      · simp [State.pauseEntered]
      · simp [State.pauseEntered, PortMatch.disarmAwait_await]
      · simpa [State.pauseEntered] using queue
      · simp [State.pauseEntered]
      · rw [State.pauseEntered, State.port_modPort_ne _ _ hq, disarmed q hq]
      · simp [State.pauseEntered]
      · simp [State.pauseEntered, PortMatch.disarmAwait_watch]
    · have after : (s.disarm p).afterDeadline p e.fields = (s.disarm p).beginAttempt p e.fields := by
        rw [State.afterDeadline, if_pos left, if_neg pause]
      have frame := (s.disarm p).attemptFrame_beginAttempt p e.fields
      rw [after, State.watchDrain_beginAttempt queued]
      refine ⟨fun _ some => absurd some pause, fun _ _ text => ?_, fun _ _ empty => ?_, fun out => by omega,
        fun _ => State.sameElsewhere.trans disarmed frame.elsewhere, by simp [frame.guard], frame.watch.trans watch⟩
      · obtain ⟨exc, slu, pm⟩ := State.beginAttempt_sends (s := s.disarm p) (p := p) text
        rw [exc, slu, pm, frame.queue]
        simp [PortMatch.disarmAwait_await, queue]
      · obtain ⟨exc, slu, await⟩ := State.beginAttempt_awaits (s := s.disarm p) (p := p) empty
        rw [exc, slu, await, frame.queue, frame.tsu]
        refine ⟨?_, rfl, by simp, by simpa using queue, rfl⟩
        simp [awaiting, Port.deadlineMs]
  · have none : ¬ ((s.disarm p).port p).exc.attempts < e.fields.allowed := by simpa [TaskFields.allowed] using more
    have after : (s.disarm p).afterDeadline p e.fields = (s.disarm p).endTask p (endWith .noMatch) := if_neg none
    obtain ⟨port, tsu, _, _, _, elsewhere⟩ :=
      State.endTask_watched (fin := endWith .noMatch) queued task (congrArg _ after.symm)
    refine ⟨fun some => absurd some more, fun some => absurd some more, fun some => absurd some more, fun _ => ?_,
      fun control => State.sameElsewhere.trans disarmed (elsewhere control), ?_, ?_⟩
    · rw [port, tsu]
      refine ⟨rfl, rfl, ?_⟩
      simp [State.headCompletion, endWith]
    · rw [port]
      simp
    · rw [port]
      exact watch

/-! ### Breaks (R40, R75) -/

theorem exec_breakTimerExpiry (p : PortId) (s : State) : exec (.breakTimerExpiry p) s = .next (s.breakExpires p) := rfl

theorem exec_breakGuardEnd (p : PortId) (s : State) :
    exec (.breakGuardEnd p) s = .next (s.endGuard p).watchDrain := rfl

theorem State.listening_of {s : State} {p : PortId} (on : s.bus.control ≠ .off)
    (inUse : p.val < s.tsu.geometry.portCount) : s.listening p = true := by
  simp [State.listening, State.inUse, on, inUse]

/-- The guard time after a break runs, with the break timer disarmed (R75). -/
def State.guardBegun (s : State) (p : PortId) : State :=
  s.modPort p fun v =>
    { v with
      slu := { v.slu with tx := .breakGuard (s.time.ticks + v.slu.line.guardTicks) }
      exc := { v.exc with timer := none } }

@[simp] theorem State.guardBegun_partTime (s : State) (p : PortId) : (s.guardBegun p).partTime = s.partTime := rfl

@[simp] theorem State.guardBegun_port (s : State) (p : PortId) : (s.guardBegun p).port p =
    (s.port p).noting { s.port p with
      slu := { (s.port p).slu with tx := .breakGuard (s.time.ticks + (s.port p).slu.line.guardTicks) }
      exc := { (s.port p).exc with timer := none } } := by
  simp [State.guardBegun]

/-- The duration of a break is that of the head (R40). -/
theorem Port.headBreakMs_cons {v : Port} {e : QueueEntry} {rest : List QueueEntry} (queue : v.queue = e :: rest) :
    v.headBreakMs = breakMs e.fields.paramA := by
  simp [Port.headBreakMs, queue]

/-- Settles O41: the expiry begins the guard time and hands the mark. -/
theorem breakTimerReleasesTheLine : Obligations.BreakTimerReleasesTheLine := by
  intro s p e tm head space breaking timer due control inUse none
  obtain ⟨rest, queue⟩ := List.head?_eq_some_iff.1 head
  have on : s.bus.control ≠ .off := by rcases control with h | h <;> simp [h]
  have expires : s.breakExpires p = (s.guardBegun p).handItem p
      (.close [(.breakTx, BitVec.ofNat 32 (breakMs e.fields.paramA))]) := by
    rw [← Port.headBreakMs_cons queue]
    simp only [State.breakExpires, space, breaking, timer, State.expired_some, due, decide_true, Bool.and_true, if_true]
    rfl
  have events := State.handItem_events_only (s := s.guardBegun p) (p := p)
    (action := .close [(.breakTx, BitVec.ofNat 32 (breakMs e.fields.paramA))]) (State.listening_of on inUse)
    (by simpa using none) rfl
  have tx : (((s.guardBegun p).handItem p (.close [(.breakTx, BitVec.ofNat 32 (breakMs e.fields.paramA))])).port
      p).slu.tx = .breakGuard (s.time.ticks + (s.port p).slu.line.guardTicks) := by simp
  refine ⟨_, (exec_breakTimerExpiry p s).trans (congrArg _ expires), tx, by rw [tx]; rfl, by simp, ?_, by simp, by simp,
    State.onlyPort.trans (s.onlyPort_modPort p _) (State.onlyCapture_handItem _ p _).onlyPort⟩
  rw [events]
  simp [breakMs]

/-- Settles O42: the transmitter is freed, and the only task of the port ends. -/
theorem breakGuardEndsTheBreak : Obligations.BreakGuardEndsTheBreak := by
  intro s p e d queue brk guard inTime attempts bytes
  have task : e.kind ≠ .broadcast := by simp [brk]
  have endsNow : s.endsNow d = true := decide_eq_true inTime
  have ends : s.endGuard p = ((s.reachTick d).lineFreed p).endTask p
      { endWith .ok with outcomeA := BitVec.ofNat 32 (breakMs e.fields.paramA) } := by
    rw [← Port.headBreakMs_cons queue]
    simp only [State.endGuard, guard, endsNow, if_true]
    rfl
  have queued : (((s.reachTick d).lineFreed p).port p).queue = [e] := by simpa using queue
  obtain ⟨port, tsu, _, attention, _, elsewhere⟩ := State.endTask_watched
    (fin := { endWith .ok with outcomeA := BitVec.ofNat 32 (breakMs e.fields.paramA) }) queued task
    (congrArg _ ends.symm)
  refine ⟨_, exec_breakGuardEnd p s, ?_⟩
  rw [port, tsu]
  refine ⟨by simp, rfl, rfl, ?_, by simp, by simp, fun control => ⟨fun q hq => ?_, attention⟩⟩
  · simp [State.headCompletion, attempts, bytes, endWith, breakMs]
  · rw [elsewhere control q hq, State.lineFreed_port_ne _ hq, State.reachTick_port]

end Sys2Proof.Machine
end

section
/-! SUPPORT. The head checks by kind and code, the entry of RATE_WAIT and what follows it; the statement on head
checks. -/

namespace Sys2Proof.Machine

/-! ### The head checks (R28, R46, R60) -/

theorem Port.guardRefuses_iff (v : Port) (e : QueueEntry) : v.guardRefuses e = true ↔
    (e.kind = .brk ∧ v.guard.getLsbD 0) ∨ (e.kind = .line ∧ v.guard.getLsbD 1)
      ∨ ((e.kind = .send ∨ e.kind = .broadcast ∨ (e.kind = .exchange ∧ 0 < e.fields.textLength))
        ∧ v.guard.getLsbD 2) := by
  unfold Port.guardRefuses Port.noBreak Port.noLine Port.noSend
  cases e.kind <;> simp [and_comm]

theorem TaskKind.holdChecked_iff (k : TaskKind) : k.holdChecked = true ↔
    k = .send ∨ k = .exchange ∨ k = .brk ∨ k = .line ∨ k = .broadcast := by
  cases k <;> decide

theorem TaskKind.rateChecked_iff (k : TaskKind) : k.rateChecked = true ↔ k = .send ∨ k = .exchange ∨ k = .brk := by
  cases k <;> decide

theorem Hold.against_iff (h : Hold) (originator : BitVec 4) :
    h.against originator = true ↔ ∃ o, h.owner = some o ∧ o ≠ originator := by
  cases owner : h.owner <;> simp [Hold.against, owner]

/-- The checks look at the guard, the owner of the hold, the presence, the mode and the rate state alone. -/
theorem Port.headCheck_eq (v : Port) (e : QueueEntry) : v.headCheck e =
    if (e.kind = .brk ∧ v.guard.getLsbD 0) ∨ (e.kind = .line ∧ v.guard.getLsbD 1)
        ∨ ((e.kind = .send ∨ e.kind = .broadcast ∨ (e.kind = .exchange ∧ 0 < e.fields.textLength))
          ∧ v.guard.getLsbD 2) then some .guarded
    else if (e.kind = .send ∨ e.kind = .exchange ∨ e.kind = .brk ∨ e.kind = .line ∨ e.kind = .broadcast)
        ∧ (∃ o, v.hold.owner = some o ∧ o ≠ e.fields.originator) then some .held
    else if e.fields.flags.getLsbD 1 ∧ v.sense.presence = .absent then some .lineLost
    else if e.kind = .broadcast ∧ v.slu.line.mode = .auto ∧ v.rf.state ≠ .locked then some .noRate
    else none := by
  simp only [Port.headCheck, Bool.and_eq_true, v.guardRefuses_iff, e.kind.holdChecked_iff, Hold.against_iff,
    TaskFields.requirePresence, decide_eq_true_eq, and_assoc]

/-- The start of an entry changes nothing that its checks look at. -/
theorem State.headCheck_startEntry (s : State) (p : PortId) (e : QueueEntry) :
    ((s.startEntry p e).port p).headCheck e = (s.port p).headCheck e := by
  simp only [Port.headCheck_eq, State.startEntry_port_same, Port.noting_guard, Port.noting_hold, Port.noting_sense,
    Port.noting_slu, Port.noting_rf, Hold.onStart_owner]

/-! ### RATE_WAIT (R28, R29) -/

section
variable {s : State} {p : PortId} {e : QueueEntry} {rest : List QueueEntry}

theorem Port.rateUnfound_iff (v : Port) : v.rateUnfound = true ↔
    v.slu.line.mode = .auto ∧ (v.rf.state = .seeking ∨ v.rf.state = .verifying) := by
  simp [Port.rateUnfound]

/-- A head that passes its checks, but whose rate is still being found, waits for it (R28). -/
theorem State.serveQueue_waits (queue : (s.port p).queue = e :: rest) (idle : (s.port p).exc.state = .idle)
    (passes : (s.port p).headCheck e = none) (checked : e.kind.rateChecked = true)
    (unfound : (s.port p).rateUnfound = true) :
    s.serveQueue p = (s.startEntry p e).enterRateWait p e.fields := by
  have unstarted : (s.port p).started = false := by simp [Port.started, idle]
  have begun : ((s.startEntry p e).port p).rateUnfound = true := by
    rw [Port.rateUnfound_iff] at unfound ⊢
    simpa using unfound
  have begunPasses := (s.headCheck_startEntry p e).trans passes
  simp only [State.serveQueue, queue, List.length_cons, State.takeHeads, unstarted, begunPasses, checked, begun,
    Bool.and_true, Bool.false_eq_true, if_false, if_true]

/-- The rate-wait limit is disarmed, and the task goes on (R29). -/
def State.rateWaitLeft (s : State) (p : PortId) : State :=
  s.modPort p fun v => { v with exc := { v.exc with timer := none } }

@[simp] theorem State.rateWaitLeft_port (s : State) (p : PortId) : (s.rateWaitLeft p).port p =
    (s.port p).noting { s.port p with exc := { (s.port p).exc with timer := none } } := by
  simp [State.rateWaitLeft]

/-- A rate that is found or given up lets a task of a timed kind go on. -/
theorem State.serveRateWait_works {worked : State} (queue : (s.port p).queue = e :: rest)
    (waiting : (s.port p).exc.state = .rateWait)
    (found : (s.port p).rf.state = .locked ∨ (s.port p).rf.state = .failed)
    (work : (s.rateWaitLeft p).work p e = (worked, none)) : s.serveRateWait p = worked := by
  have left : s.serveRateWait p = s.leaveRateWait p := by
    rcases found with h | h <;> simp [State.serveRateWait, h]
  have dropped : s.leaveRateWait p = match (s.rateWaitLeft p).work p e with
      | (worked, some fin) => worked.endTask p fin
      | (worked, none) => worked := by
    simp only [State.leaveRateWait, queue, waiting]
    rfl
  rw [left, dropped, work]

/-- A text, or an exchange, begins its attempt when the wait ends. -/
theorem State.serveRateWait_attempts (queue : (s.port p).queue = e :: rest)
    (waiting : (s.port p).exc.state = .rateWait)
    (found : (s.port p).rf.state = .locked ∨ (s.port p).rf.state = .failed)
    (kind : (e.kind = .send ∧ 0 < e.fields.textLength) ∨ e.kind = .exchange) :
    s.serveRateWait p = (s.rateWaitLeft p).beginAttempt p e.fields := by
  refine State.serveRateWait_works queue waiting found ?_
  rcases kind with ⟨send, text⟩ | exchange
  · simp only [State.work, send, if_pos text]
  · simp only [State.work, exchange]

/-- A BREAK asks for the transmitter when the wait ends (R40). -/
theorem State.serveRateWait_breaks (queue : (s.port p).queue = e :: rest)
    (waiting : (s.port p).exc.state = .rateWait)
    (found : (s.port p).rf.state = .locked ∨ (s.port p).rf.state = .failed) (brk : e.kind = .brk) :
    s.serveRateWait p = (s.rateWaitLeft p).enterBreaking p := by
  refine State.serveRateWait_works queue waiting found ?_
  simp only [State.work, brk]

end

/-- The EXC in BREAKING, before the transmitter is asked (R40). -/
def State.breakAsked (s : State) (p : PortId) : State :=
  s.modPort p fun v => { v with exc := { v.exc with state := .breaking, timer := none } }

@[simp] theorem State.breakAsked_port (s : State) (p : PortId) : (s.breakAsked p).port p =
    (s.port p).noting { s.port p with exc := { (s.port p).exc with state := .breaking, timer := none } } := by
  simp [State.breakAsked]

theorem State.enterBreaking_eq (s : State) (p : PortId) : s.enterBreaking p = (s.breakAsked p).serveTransmitter p := rfl

/-- A break takes a FREE transmitter at once, and otherwise waits for it (R84). -/
theorem State.enterBreaking_port (s : State) (p : PortId) :
    ((s.enterBreaking p).port p).exc.state = .breaking
      ∧ ((s.enterBreaking p).port p).exc.startTime = (s.port p).exc.startTime
      ∧ ((s.port p).slu.tx = .free → ((s.enterBreaking p).port p).slu.tx = .breakSpace) := by
  rw [State.enterBreaking_eq]
  by_cases free : (s.port p).slu.tx = .free
  · have taken : (s.breakAsked p).serveTransmitter p = (s.breakAsked p).startSpace p := by
      simp [State.serveTransmitter, free]
    rw [taken]
    simp [State.startSpace]
  · rw [State.serveTransmitter_busy (by simpa using free)]
    simp [free]

/-- Settles O32: the checks by kind and code, the entry of RATE_WAIT, and the work that follows it. -/
theorem headChecksAreMadeInOrder : Obligations.HeadChecksAreMadeInOrder := by
  refine ⟨Port.headCheck_eq, ?_, ?_⟩
  · intro s p e rest queue idle passes kind auto state
    rw [State.serveQueue_waits queue idle passes (e.kind.rateChecked_iff.2 kind)
      ((Port.rateUnfound_iff _).2 ⟨auto, state⟩)]
    refine ⟨by simpa [State.enterRateWait] using queue, ?_, by simp [State.enterRateWait],
      State.onlyPort.trans (s.onlyPort_modPort p _) (State.onlyPort_modPort _ p _)⟩
    simp only [State.enterRateWait, State.port_modPort_same, State.startEntry_port_same, Port.noting_exc]
    rfl
  · intro s p e rest queue waiting
    refine ⟨fun unlocked going => by simp [State.serveRateWait, unlocked, going], fun found => ⟨?_, ?_, ?_⟩⟩
    · intro kind text
      rw [State.serveRateWait_attempts queue waiting found (kind.imp_left fun send => ⟨send, text⟩)]
      obtain ⟨exc, slu, _⟩ := State.beginAttempt_sends (s := s.rateWaitLeft p) (p := p) text
      rw [exc, slu, (State.attemptFrame_beginAttempt _ p e.fields).queue]
      simp [queue]
    · intro exchange empty
      rw [State.serveRateWait_attempts queue waiting found (.inr exchange)]
      obtain ⟨exc, _, await⟩ := State.beginAttempt_awaits (s := s.rateWaitLeft p) (p := p) empty
      rw [exc, await]
      simp
    · intro brk
      rw [State.serveRateWait_breaks queue waiting found brk]
      obtain ⟨state, start, space⟩ := (s.rateWaitLeft p).enterBreaking_port p
      exact ⟨state, by simpa using start, fun free => space (by simpa using free)⟩

end Sys2Proof.Machine
end

section
/-! SUPPORT. What the work of an Exchange Controller reaches beyond its port, and the end of a character; the statement
on character ends. -/

namespace Sys2Proof.Machine

/-! ### What the work of one port's controller reaches (R27, R28) -/

/-- One port may differ but for its sense items, the link and the task tables; the time and the control state do not,
and no cause is cleared. -/
structure State.atPort (s : State) (p : PortId) (t : State) : Prop where
  time : t.time = s.time
  bus : t.bus = s.bus
  attention : ∀ i, s.attention.getLsbD i = true → t.attention.getLsbD i = true
  sense : (t.port p).sense = (s.port p).sense
  elsewhere : s.sameElsewhere p t

section
variable {s t u : State} {p : PortId}

theorem State.atPort.refl (s : State) (p : PortId) : s.atPort p s :=
  ⟨rfl, rfl, fun _ h => h, rfl, fun _ _ => rfl⟩

theorem State.atPort.trans (st : s.atPort p t) (tu : t.atPort p u) : s.atPort p u :=
  ⟨tu.time.trans st.time, tu.bus.trans st.bus, fun i h => tu.attention i (st.attention i h),
    tu.sense.trans st.sense, st.elsewhere.trans tu.elsewhere⟩

theorem State.onlyCapture.atPort (h : s.onlyCapture p t) : s.atPort p t :=
  ⟨h.time, h.bus, fun _ hi => by rw [h.attention]; exact hi, by rw [h.own], h.elsewhere⟩

end

section
variable (s : State) (p : PortId)

theorem State.atPort_modPort (f : Port → Port) (sense : (f (s.port p)).sense = (s.port p).sense := by rfl) :
    s.atPort p (s.modPort p f) :=
  ⟨rfl, rfl, fun _ h => h, by simp [sense], fun _ hq => s.port_modPort_ne f hq⟩

theorem State.atPort_handItem (a : ItemAction) : s.atPort p (s.handItem p a) := (s.onlyCapture_handItem p a).atPort

theorem State.notice_port_ne {q : PortId} (kind : NoticeKind) (h : q ≠ p) : (s.notice p kind).port q = s.port q := by
  unfold State.notice
  split <;> simp [State.port_modPort_ne _ _ h]

theorem State.notice_attention {kind : NoticeKind} {c : Cause} (cause : kind.cause = some c) :
    (s.notice p kind).attention = s.attention ||| c.bit := by
  simp [State.notice, cause]

theorem State.atPort_notice (kind : NoticeKind) : s.atPort p (s.notice p kind) := by
  refine ⟨by simp, by simp, fun i h => ?_, by simp [State.port_notice], fun q hq => s.notice_port_ne p kind hq⟩
  unfold State.notice
  split <;> simp [h]

theorem State.atPort_serveTransmitter : s.atPort p (s.serveTransmitter p) := by
  rcases s.serveTransmitter_cases p with h | h | h <;> rw [h]
  · exact .refl s p
  · unfold State.handByte
    split
    · exact .refl s p
    · exact s.atPort_modPort p _
  · exact s.atPort_modPort p _

theorem State.atPort_stopFetch : s.atPort p (s.stopFetch p) :=
  ⟨by simp, by simp, fun _ h => by simpa using h, by simp, fun _ hq => s.stopFetch_port_ne hq⟩

theorem State.atPort_beginAttempt (f : TaskFields) : s.atPort p (s.beginAttempt p f) := by
  unfold State.beginAttempt
  dsimp only
  split
  · exact ((s.atPort_modPort p _).trans (State.atPort_stopFetch _ p)).trans (State.atPort_modPort _ p _)
  · exact (s.atPort_modPort p _).trans (State.atPort_modPort _ p _)

theorem State.atPort_seek (attempts : Nat) : s.atPort p (s.seek p attempts) := by
  have drawn : s.atPort p s.drawn := ⟨rfl, rfl, fun _ h => h, rfl, fun _ _ => rfl⟩
  unfold State.seek
  dsimp only
  split
  · exact drawn.trans (State.atPort_modPort _ p _)
  · exact s.atPort_modPort p _

theorem State.atPort_lineApplied (f : TaskFields) : s.atPort p (s.lineApplied p f) :=
  (s.atPort_handItem p _).trans (State.atPort_modPort _ p _)

theorem State.atPort_lineTask (f : TaskFields) : s.atPort p (s.lineTask p f).1 := by
  by_cases auto : f.paramA = 0
  · rw [State.lineTask_auto auto]
    exact ((s.atPort_lineApplied p f).trans (State.atPort_seek _ p 0)).trans (State.atPort_handItem _ p _)
  · rw [State.lineTask_rate auto]
    exact ((s.atPort_lineApplied p f).trans (State.atPort_modPort _ p _)).trans (State.atPort_handItem _ p _)

theorem State.atPort_thaw : s.atPort p (s.thaw p).1 := by
  unfold State.thaw
  dsimp only
  split
  · exact .refl s p
  · dsimp only
    exact (s.atPort_modPort p _).trans (State.atPort_modPort _ p _)
  · dsimp only
    exact (s.atPort_modPort p _).trans (State.atPort_handItem _ p _)

theorem State.atPort_holdTask (f : TaskFields) : s.atPort p (s.holdTask p f).1 := by
  unfold State.holdTask
  split
  · exact .refl s p
  · dsimp only
    exact s.atPort_modPort p _

theorem State.atPort_releaseTask (f : TaskFields) : s.atPort p (s.releaseTask p f).1 := by
  have ended : s.atPort p (s.endHold p) := s.atPort_modPort p _
  unfold State.releaseTask
  split
  · exact .refl s p
  · split
    · exact ended
    · split
      · exact ended.trans (State.atPort_notice _ p .holdLost)
      · exact .refl s p

theorem State.atPort_watchTask (f : TaskFields) : s.atPort p (s.watchTask p f).1 := by
  unfold State.watchTask
  dsimp only
  exact s.atPort_modPort p _

theorem State.atPort_guardTask (f : TaskFields) : s.atPort p (s.guardTask p f).1 := by
  unfold State.guardTask
  dsimp only
  exact s.atPort_modPort p _

theorem State.atPort_handCompletion (c : Completion) : s.atPort p (s.handCompletion c) :=
  ⟨rfl, rfl, fun _ h => h, rfl, fun _ _ => rfl⟩

theorem State.atPort_work (e : QueueEntry) : s.atPort p (s.work p e).1 := by
  unfold State.work
  split
  · split
    · exact s.atPort_beginAttempt p _
    · exact .refl s p
  · exact s.atPort_beginAttempt p _
  · exact s.atPort_beginAttempt p _
  · exact (s.atPort_modPort p _).trans (State.atPort_serveTransmitter _ p)
  · exact s.atPort_lineTask p _
  · exact s.atPort_watchTask p _
  · exact s.atPort_thaw p
  · exact s.atPort_holdTask p _
  · exact s.atPort_releaseTask p _
  · exact s.atPort_guardTask p _
  all_goals exact .refl s p

theorem State.atPort_shareEnds (slot : Nat) (set : ShareSet) (start : Word) (characters : Nat) (fault : Bool) :
    s.atPort p (s.shareEnds p slot set start characters fault) := by
  unfold State.shareEnds
  split
  · exact .refl s p
  · dsimp only
    split <;> exact ⟨rfl, rfl, fun _ h => h, rfl, fun _ _ => rfl⟩

theorem State.atPort_finishHead (fin : TaskEnd) : s.atPort p (s.finishHead p fin) := by
  unfold State.finishHead
  split
  · exact .refl s p
  · dsimp only
    split
    · exact (s.atPort_modPort p _).trans (State.atPort_shareEnds _ p _ _ _ _ _)
    · exact (s.atPort_modPort p _).trans (State.atPort_handCompletion _ p _)

theorem State.atPort_serveQueue : s.atPort p (s.serveQueue p) :=
  State.takeHeads_keeps (P := s.atPort p) (fun t _ h => h.trans (t.atPort_modPort p _))
    (fun t fin h => h.trans (t.atPort_finishHead p fin)) (fun t _ h => h.trans (t.atPort_modPort p _))
    (fun t e h => h.trans (t.atPort_work p e)) _ (.refl s p)

theorem State.atPort_endTask (fin : TaskEnd) : s.atPort p (s.endTask p fin) :=
  (s.atPort_finishHead p fin).trans (State.atPort_serveQueue _ p)

end

/-! ### Frames of the end of a character -/

/-- What the end of a character leaves besides its port's task, transmitter and capture. -/
structure State.lineFrame (s : State) (p : PortId) (t : State) : Prop where
  line : (t.port p).slu.line = (s.port p).slu.line
  guard : (t.port p).guard = (s.port p).guard
  receiveCount : (t.port p).slu.receiveCount = (s.port p).slu.receiveCount
  attention : t.attention = s.attention
  elsewhere : s.sameElsewhere p t

section
variable {s t u : State} {p : PortId} {e : QueueEntry}

theorem State.lineFrame.refl (s : State) (p : PortId) : s.lineFrame p s := ⟨rfl, rfl, rfl, rfl, fun _ _ => rfl⟩

theorem State.lineFrame.trans (st : s.lineFrame p t) (tu : t.lineFrame p u) : s.lineFrame p u :=
  ⟨tu.line.trans st.line, tu.guard.trans st.guard, tu.receiveCount.trans st.receiveCount,
    tu.attention.trans st.attention, st.elsewhere.trans tu.elsewhere⟩

theorem State.onlyCapture.lineFrame (h : s.onlyCapture p t) : s.lineFrame p t :=
  ⟨by rw [h.slu], h.guard p, by rw [h.slu], h.attention, h.elsewhere⟩

theorem State.lineFrame_modPort (s : State) (p : PortId) (f : Port → Port)
    (line : (f (s.port p)).slu.line = (s.port p).slu.line) (guard : (f (s.port p)).guard = (s.port p).guard)
    (count : (f (s.port p)).slu.receiveCount = (s.port p).slu.receiveCount) : s.lineFrame p (s.modPort p f) :=
  ⟨by simp [line], by simp [guard], by simp [count], by simp, fun _ hq => s.port_modPort_ne f hq⟩

theorem State.lineFrame_serveTransmitter (s : State) (p : PortId) : s.lineFrame p (s.serveTransmitter p) := by
  rcases s.serveTransmitter_cases p with h | h | h <;> rw [h]
  · exact .refl s p
  · unfold State.handByte
    split
    · exact .refl s p
    · exact s.lineFrame_modPort p _ rfl rfl rfl
  · exact s.lineFrame_modPort p _ rfl rfl rfl

theorem State.shareEnds_attention (s : State) (p : PortId) (slot : Nat) (set : ShareSet) (start : Word)
    (characters : Nat) (fault : Bool) : (s.shareEnds p slot set start characters fault).attention = s.attention := by
  unfold State.shareEnds
  split
  · rfl
  · dsimp only
    split <;> rfl

/-- The end of a port's only entry, a task's or a share's, touches neither its line nor its transmitter. -/
theorem State.endTask_only_frame (queue : (s.port p).queue = [e]) (fin : TaskEnd) :
    s.lineFrame p (s.endTask p fin) ∧ ((s.endTask p fin).port p).slu = (s.port p).slu := by
  have left : s.lineFrame p (s.headLeft p e) := s.lineFrame_modPort p _ rfl rfl rfl
  by_cases share : e.kind = .broadcast
  · rw [State.endTask_onlyShare queue share]
    refine ⟨left.trans ⟨by simp, by simp, by simp, State.shareEnds_attention .., fun q _ => by simp⟩, by simp⟩
  · rw [State.endTask_only queue share]
    exact ⟨left.trans ⟨rfl, rfl, rfl, rfl, fun q _ => rfl⟩, by simp⟩

end

/-! ### The counted character (R82) -/

section
variable (s : State) (p : PortId) (c : TxCharacter)

theorem State.onlyCapture_logTxByte (slot : Nat) (byte : Byte) (start : Word) :
    s.onlyCapture p (s.logTxByte p slot byte start) := by
  unfold State.logTxByte
  dsimp only
  split
  · exact .refl s p
  · split
    · exact (s.onlyCapture_handItem p _).trans (State.onlyCapture_modPort _ p _)
    · split
      · exact (s.onlyCapture_modPort p _).trans (State.onlyCapture_closeTxRecord _ p)
      · exact s.onlyCapture_modPort p _

/-- The character that ends has been logged where its entry asks for that (R135). -/
def State.characterLogged : State :=
  match (s.port p).queue with
  | [] => s
  | e :: _ => if e.fields.logTx then s.logTxByte p e.slot c.byte c.startTime else s

theorem State.onlyCapture_characterLogged : s.onlyCapture p (s.characterLogged p c) := by
  unfold State.characterLogged
  split
  · exact .refl s p
  · split
    · exact s.onlyCapture_logTxByte p _ _ _
    · exact .refl s p

theorem State.countCharacter_eq : s.countCharacter p c = (s.characterLogged p c).modPort p fun v =>
    { v with
      slu := { v.slu with tx := s.afterCharacter v.slu.line c.pauseFollows }
      exc := { v.exc with bytesSent := v.exc.bytesSent + 1 } } := rfl

@[simp] theorem State.countCharacter_queue : ((s.countCharacter p c).port p).queue = (s.port p).queue := by
  simp [State.countCharacter_eq, (s.onlyCapture_characterLogged p c).queue]

@[simp] theorem State.countCharacter_exc : ((s.countCharacter p c).port p).exc =
    { (s.port p).exc with bytesSent := (s.port p).exc.bytesSent + 1 } := by
  simp [State.countCharacter_eq, (s.onlyCapture_characterLogged p c).exc]

@[simp] theorem State.countCharacter_slu : ((s.countCharacter p c).port p).slu =
    { (s.port p).slu with tx := s.afterCharacter (s.port p).slu.line c.pauseFollows } := by
  simp [State.countCharacter_eq, (s.onlyCapture_characterLogged p c).slu]

@[simp] theorem State.countCharacter_tsu : (s.countCharacter p c).tsu = s.tsu := by
  simp [State.countCharacter_eq, (s.onlyCapture_characterLogged p c).tsu]

@[simp] theorem State.countCharacter_time : (s.countCharacter p c).time = s.time := by
  simp [State.countCharacter_eq, (s.onlyCapture_characterLogged p c).time]

theorem State.lineFrame_countCharacter : s.lineFrame p (s.countCharacter p c) := by
  rw [State.countCharacter_eq]
  exact (s.onlyCapture_characterLogged p c).lineFrame.trans (State.lineFrame_modPort _ p _ rfl rfl rfl)

@[simp] theorem State.handByte_port {b : Byte} {rest : List Byte} (staged : (s.port p).slu.staging = b :: rest) :
    (s.handByte p).port p = (s.port p).noting { s.port p with
      slu := { (s.port p).slu with
        tx := .character (s.characterOf (s.port p).slu.line b), staging := rest }
      exc := { (s.port p).exc with
        state := if rest.isEmpty && (s.port p).textFetched then .draining else (s.port p).exc.state } } := by
  simp [State.handByte, staged]

theorem State.handByte_tsu : (s.handByte p).tsu = s.tsu := by
  unfold State.handByte
  split <;> simp

end

/-! ### What follows the counted character (R30, R32, R82) -/

section
variable {s : State} {p : PortId} {e : QueueEntry} {rest : List QueueEntry}

theorem State.characterEnded_stopping {why : StopCause} (stopping : (s.port p).exc.stopping = some why) :
    s.characterEnded p = (s.closeTx p).endTask p (endWith why.code) := by
  simp [State.characterEnded, stopping]

theorem State.characterEnded_draining (going : (s.port p).exc.stopping = none)
    (state : (s.port p).exc.state = .draining) : s.characterEnded p = s.textSent p := by
  simp [State.characterEnded, going, state]

theorem State.characterEnded_other (going : (s.port p).exc.stopping = none)
    (state : (s.port p).exc.state ≠ .draining) : s.characterEnded p = s.serveTransmitter p := by
  unfold State.characterEnded
  rw [going]
  split <;> simp_all

theorem State.textSent_exchange (queue : (s.port p).queue = e :: rest) (exchange : e.kind = .exchange) :
    s.textSent p = (s.closeTx p).enterAwaiting p e.fields := by
  simp [State.textSent, queue, exchange]

theorem State.textSent_task (queue : (s.port p).queue = e :: rest) (task : e.kind ≠ .exchange) :
    s.textSent p = (s.closeTx p).endTask p (endWith .ok) := by
  simp [State.textSent, queue, task]

theorem State.characterEnded_time (s : State) (p : PortId) : (s.characterEnded p).time = s.time := by
  have closed := (s.onlyCapture_closeTx p).time
  have ends (fin : TaskEnd) : ((s.closeTx p).endTask p fin).time = s.time :=
    (State.atPort_endTask _ p fin).time.trans closed
  unfold State.characterEnded
  split
  · exact ends _
  · unfold State.textSent
    dsimp only
    split
    · exact closed
    · split
      · exact closed
      · exact ends _
  all_goals exact (s.atPort_serveTransmitter p).time

/-- What follows at a port's only entry leaves its line, and the other ports; and the end of its sending leaves its
transmitter too. -/
theorem State.characterEnded_only_frame (queue : (s.port p).queue = [e]) : s.lineFrame p (s.characterEnded p)
    ∧ ((s.port p).exc.state = .draining ∨ (s.port p).exc.stopping ≠ none →
      ((s.characterEnded p).port p).slu.tx = (s.port p).slu.tx) := by
  have closed := s.onlyCapture_closeTx p
  have stillQueued : ((s.closeTx p).port p).queue = [e] := closed.queue.trans queue
  have ends (fin : TaskEnd) : s.lineFrame p ((s.closeTx p).endTask p fin)
      ∧ (((s.closeTx p).endTask p fin).port p).slu.tx = (s.port p).slu.tx := by
    obtain ⟨frame, slu⟩ := State.endTask_only_frame stillQueued fin
    exact ⟨closed.lineFrame.trans frame, by rw [slu, closed.slu]⟩
  cases stopping : (s.port p).exc.stopping with
  | some why =>
    rw [State.characterEnded_stopping stopping]
    exact ⟨(ends _).1, fun _ => (ends _).2⟩
  | none =>
    by_cases state : (s.port p).exc.state = .draining
    · rw [State.characterEnded_draining stopping state]
      by_cases exchange : e.kind = .exchange
      · rw [State.textSent_exchange queue exchange]
        refine ⟨closed.lineFrame.trans (State.lineFrame_modPort _ p _ rfl rfl rfl), fun _ => ?_⟩
        simp [closed.slu]
      · rw [State.textSent_task queue exchange]
        exact ⟨(ends _).1, fun _ => (ends _).2⟩
    · rw [State.characterEnded_other stopping state]
      exact ⟨s.lineFrame_serveTransmitter p, by simp [state]⟩

/-- The end of a port's only task, no share, with its TX record closed before: what it hands. -/
theorem State.closeTx_endTask (queue : (s.port p).queue = [e]) (task : e.kind ≠ .broadcast) (fin : TaskEnd) :
    (((s.closeTx p).endTask p fin).port p).queue = [] ∧ (((s.closeTx p).endTask p fin).port p).exc = Exc.idle
      ∧ ((s.closeTx p).endTask p fin).tsu.completions = s.tsu.completions ++ [s.headCompletion p e fin] := by
  have closed := s.onlyCapture_closeTx p
  rw [State.endTask_only (closed.queue.trans queue) task]
  have now : (s.closeTx p).partTime = s.partTime := by rw [State.partTime, closed.time]; rfl
  refine ⟨by simp, by simp, ?_⟩
  simp [State.handCompletion, closed.tsu, State.headCompletion, closed.exc, now]

end

/-- The character has been counted at the tick of its end (R82). -/
def State.charEnds (s : State) (p : PortId) (c : TxCharacter) : State := (s.reachTick c.endTick).countCharacter p c

theorem exec_txCharacterEnd (p : PortId) (s : State) :
    exec (.txCharacterEnd p) s = .next (s.endCharacter p).watchDrain := rfl

section
variable {s : State} {p : PortId} {c : TxCharacter}

theorem State.endCharacter_now (tx : (s.port p).slu.tx = .character c)
    (due : c.endTick ≤ (s.time.increments + 1) * 36864) :
    s.endCharacter p = (s.charEnds p c).characterEnded p := by
  have now : s.endsNow c.endTick = true := decide_eq_true due
  simp [State.endCharacter, tx, now, State.charEnds]

theorem State.endCharacter_early (tx : (s.port p).slu.tx = .character c)
    (early : (s.time.increments + 1) * 36864 < c.endTick) : s.endCharacter p = s := by
  have later : s.endsNow c.endTick = false := decide_eq_false (Nat.not_le.2 early)
  simp [State.endCharacter, tx, later]

/-- Where the clock stands at the tick of an end, what follows is told by the settings (R72, R73). -/
theorem State.afterCharacter_eq {d : Nat} (ticks : s.time.ticks = d) (l : LineSettings) (pauseFollows : Bool) :
    s.afterCharacter l pauseFollows =
      if 0 < l.gap * l.period then .gap (d + l.gap * l.period) pauseFollows
      else if pauseFollows = true ∧ 0 < l.pauseMs then .pause (d + l.pauseMs * 36864)
      else .free := by
  simp [State.afterCharacter, LineSettings.gapTicks, LineSettings.pauseTicks, ticks]

/-- The counted character, with what follows it on the line. -/
theorem State.charEnds_slu (behind : s.time.ticks ≤ c.endTick) : ((s.charEnds p c).port p).slu =
    { (s.port p).slu with
      tx := if 0 < (s.port p).slu.line.gap * (s.port p).slu.line.period then
          .gap (c.endTick + (s.port p).slu.line.gap * (s.port p).slu.line.period) c.pauseFollows
        else if c.pauseFollows = true ∧ 0 < (s.port p).slu.line.pauseMs then
          .pause (c.endTick + (s.port p).slu.line.pauseMs * 36864)
        else .free } := by
  rw [State.charEnds, State.countCharacter_slu, State.afterCharacter_eq (d := c.endTick) (by simp [behind])]
  rfl

@[simp] theorem State.charEnds_queue : ((s.charEnds p c).port p).queue = (s.port p).queue := by
  simp [State.charEnds]

@[simp] theorem State.charEnds_exc : ((s.charEnds p c).port p).exc =
    { (s.port p).exc with bytesSent := (s.port p).exc.bytesSent + 1 } := by
  simp [State.charEnds]

@[simp] theorem State.charEnds_tsu : (s.charEnds p c).tsu = s.tsu := by simp [State.charEnds]

theorem State.charEnds_time (behind : s.time.ticks ≤ c.endTick) :
    (s.charEnds p c).time = { s.time with ticks := c.endTick } := by
  simp [State.charEnds, State.reachTick, behind]

theorem State.charEnds_partTime : (s.charEnds p c).partTime = s.partTime := by
  simp [State.charEnds, State.partTime]

theorem State.lineFrame_charEnds (s : State) (p : PortId) (c : TxCharacter) : s.lineFrame p (s.charEnds p c) :=
  have reached : s.lineFrame p (s.reachTick c.endTick) := ⟨rfl, rfl, rfl, rfl, fun _ _ => rfl⟩
  reached.trans (State.lineFrame_countCharacter _ p c)

end

/-- Settles O39: the character is counted, and what follows is told by the stop, the state and the kind. -/
theorem characterEndCountsAndGoesOn : Obligations.CharacterEndCountsAndGoesOn := by
  refine ⟨?_, fun s p c tx early => by rw [exec_txCharacterEnd, State.endCharacter_early tx early]⟩
  intro s p c e rest d after tx hd due behind queue hafter
  obtain rfl : d = c.endTick := hd
  have slu : ((s.charEnds p c).port p).slu = { (s.port p).slu with tx := after } := by
    rw [State.charEnds_slu behind, hafter]
  have time := State.charEnds_time (p := p) behind
  have now := State.charEnds_partTime (s := s) (p := p) (c := c)
  have queued : ((s.charEnds p c).port p).queue = e :: rest := by simpa using queue
  have only (none : rest = []) := State.characterEnded_only_frame (none ▸ queued)
  have frame := s.lineFrame_charEnds p c
  have ends {fin : TaskEnd} (none : rest = []) (task : e.kind ≠ .broadcast) :=
    State.closeTx_endTask (none ▸ queued) task fin
  refine ⟨_, by rw [exec_txCharacterEnd, State.endCharacter_now tx due], (State.characterEnded_time _ p).trans time,
    fun state going => ?_, fun state none => ?_, fun state going send none => ?_, fun state going exchange => ?_,
    fun why stopping task none => ?_, fun none => ?_, fun alone => ?_⟩
  · rw [State.characterEnded_other (by simpa using going) (by simp [state])]
    by_cases serves : after = .free ∧ (s.port p).slu.staging ≠ []
    · obtain ⟨free, some⟩ := serves
      obtain ⟨b, bs, staged⟩ := List.exists_cons_of_ne_nil some
      have handed : (s.charEnds p c).serveTransmitter p = (s.charEnds p c).handByte p := by
        simp [State.serveTransmitter, slu, free, state, going]
      rw [handed, State.handByte_port _ _ (by rw [slu]; exact staged), State.handByte_tsu]
      refine ⟨by simp, by simpa using queued, by simp, ?_, ?_⟩
      · rintro (busy | empty)
        · exact absurd free busy
        · exact absurd empty some
      · intro b' bs' _ staged'
        obtain ⟨rfl, rfl⟩ := List.cons.inj (staged.symm.trans staged')
        refine ⟨?_, ?_⟩
        · simp [slu, State.characterOf, now, time]
        · simp [slu, Port.textFetched, Port.headLength, queue, state]
    · have waits : (s.charEnds p c).serveTransmitter p = s.charEnds p c := by
        by_cases free : after = .free
        · have empty : (s.port p).slu.staging = [] := by
            by_contra some
            exact serves ⟨free, some⟩
          simp [State.serveTransmitter, slu, state, State.handByte, empty]
        · exact State.serveTransmitter_busy (by rw [slu]; exact free)
      rw [waits]
      refine ⟨by simp, queued, by simp, fun _ => ⟨slu, by simpa using state⟩, fun b bs free staged => ?_⟩
      exact absurd ⟨free, by simp [staged]⟩ serves
  · rw [(only none).2 (by simpa using state), slu]
  · rw [State.characterEnded_draining (by simpa using going) (by simpa using state),
      State.textSent_task queued (by simp [send])]
    obtain ⟨left, idle, handed⟩ := ends (fin := endWith .ok) none (by simp [send])
    refine ⟨left, idle, ?_⟩
    rw [handed]
    simp [State.headCompletion, endWith, now]
  · have closed := (s.charEnds p c).onlyCapture_closeTx p
    rw [State.characterEnded_draining (by simpa using going) (by simpa using state),
      State.textSent_exchange queued exchange, State.enterAwaiting_port]
    refine ⟨by simp [closed.slu, slu], by simpa [closed.queue] using queue, by simp, by simp [closed.exc], ?_, by simp⟩
    rw [Port.noting_pm]
    rfl
  · rw [State.characterEnded_stopping (by simpa using stopping)]
    obtain ⟨left, idle, handed⟩ := ends (fin := endWith why.code) none task
    refine ⟨left, idle, ?_⟩
    rw [handed]
    simp [State.headCompletion, endWith, now]
  · obtain ⟨line, guard, count, attention, _⟩ := frame.trans (only none).1
    exact ⟨line, guard, count, attention⟩
  · rcases alone with none | ⟨state, going⟩
    · exact (frame.trans (only none).1).elsewhere
    · rw [State.characterEnded_other (by simpa using going) (by simp [state])]
      exact (frame.trans (State.lineFrame_serveTransmitter _ p)).elsewhere

end Sys2Proof.Machine
end

section
/-! SUPPORT. The elements, the progress and the completed patterns of the Pattern Matcher, the watch notices of a byte,
and its delivery; the statement on patterns. -/

namespace Sys2Proof.Machine

/-! ### Elements (R108) -/

section
variable (v b : Byte)

theorem Element.matchesByte_fold : ({ kind := .fold, value := v } : Element).matchesByte b = true ↔
    b = v ∨ (0x41 ≤ v.toNat ∧ v.toNat ≤ 0x5A ∧ b.toNat = v.toNat + 0x20)
      ∨ (0x61 ≤ v.toNat ∧ v.toNat ≤ 0x7A ∧ b.toNat + 0x20 = v.toNat) := by
  have capital : isUpper v = true ∧ b = v + 0x20 ↔ 0x41 ≤ v.toNat ∧ v.toNat ≤ 0x5A ∧ b.toNat = v.toNat + 0x20 := by
    simp only [isUpper, Bool.and_eq_true, decide_eq_true_eq, and_assoc]
    bv_omega
  have small : isLower v = true ∧ b = v - 0x20 ↔ 0x61 ≤ v.toNat ∧ v.toNat ≤ 0x7A ∧ b.toNat + 0x20 = v.toNat := by
    simp only [isLower, Bool.and_eq_true, decide_eq_true_eq, and_assoc]
    bv_omega
  simp only [Element.matchesByte, Bool.or_eq_true, Bool.and_eq_true, decide_eq_true_eq, or_assoc, capital, small]

end

/-! ### Progress (R114) -/

/-- Bytes no more than the elements match where each matches its own element. -/
theorem matchesPrefix_iff (es : List Element) (bs : List Byte) : matchesPrefix es bs = true ↔
    bs.length ≤ es.length
      ∧ ∀ (i : Nat) (e : Element) (b : Byte), es[i]? = some e → bs[i]? = some b → e.matchesByte b = true := by
  induction es generalizing bs with
  | nil => cases bs <;> simp [matchesPrefix]
  | cons e es ih =>
    cases bs with
    | nil => simp [matchesPrefix]
    | cons b bs =>
      rw [matchesPrefix, Bool.and_eq_true, ih]
      constructor
      · rintro ⟨front, le, rest⟩
        refine ⟨Nat.succ_le_succ le, fun i e' b' he hb => ?_⟩
        cases i with
        | zero => simp_all
        | succ i => exact rest i e' b' (by simpa using he) (by simpa using hb)
      · rintro ⟨le, all⟩
        exact ⟨all 0 e b rfl rfl, Nat.le_of_succ_le_succ le, fun i e' b' he hb =>
          all (i + 1) e' b' (by simpa using he) (by simpa using hb)⟩

theorem largestUpTo_le (ok : Nat → Bool) (n : Nat) : largestUpTo ok n ≤ n := by
  induction n with
  | zero => exact Nat.le_refl 0
  | succ n ih =>
    unfold largestUpTo
    split <;> omega

/-- The largest number reaches its bound exactly where that satisfies the condition. -/
theorem largestUpTo_eq_iff (ok : Nat → Bool) (n : Nat) : largestUpTo ok (n + 1) = n + 1 ↔ ok (n + 1) = true := by
  have below := largestUpTo_le ok n
  have short : largestUpTo ok n ≠ n + 1 := by omega
  unfold largestUpTo
  split <;> simp_all

/-- A defined pattern completes where its elements match the last bytes of the window (R114). -/
theorem completes_iff (es : List Element) (taken : Nat) (window : List Byte) :
    completes (some es) taken window = true ↔
      0 < es.length ∧ es.length ≤ taken ∧ es.length ≤ window.length
      ∧ ∀ i e b, es[i]? = some e → window[window.length - es.length + i]? = some b → e.matchesByte b = true := by
  cases es with
  | nil => simp [completes]
  | cons x xs =>
    have last (le : (x :: xs).length ≤ window.length) :
        (lastBytes window (x :: xs).length).length = (x :: xs).length := by
      rw [lastBytes, List.length_drop]
      omega
    rw [completes, decide_eq_true_eq, progress, List.length_cons, largestUpTo_eq_iff]
    simp only [progressAt, Bool.and_eq_true, decide_eq_true_eq, ← List.length_cons (a := x)]
    constructor
    · rintro ⟨⟨⟨eligible, _⟩, le⟩, matched⟩
      obtain ⟨_, all⟩ := (matchesPrefix_iff _ _).1 matched
      refine ⟨by simp, eligible, le, fun i e b he hb => all i e b he ?_⟩
      rwa [lastBytes, List.getElem?_drop]
    · rintro ⟨_, eligible, le, all⟩
      refine ⟨⟨⟨eligible, Nat.le_refl _⟩, le⟩, (matchesPrefix_iff _ _).2 ⟨(last le).le, fun i e b he hb => ?_⟩⟩
      rw [lastBytes, List.getElem?_drop] at hb
      exact all i e b he hb
    · exact List.cons_ne_nil x xs

/-! ### The taking of a byte (R111, R115, R120, R121) -/

section
variable (m : PortMatch) (table : Vector (Option (List Element)) 32) (b : Byte) (completed : List PatternId)

theorem PortMatch.armed_iff (i : PatternId) : m.armed i = true ↔ m.watch.getLsbD i.val = true ∨ m.await = some i := by
  simp [PortMatch.armed]

theorem PortMatch.counted_eq (i : PatternId) : m.counted i =
    if m.watch.getLsbD i.val = true ∨ m.await = some i then min 24 (m.eligible[i] + 1) else 0 := by
  simp only [PortMatch.counted, m.armed_iff]

theorem pushTail_eq (tail : List Byte) : pushTail tail b = (tail ++ [b]).drop (tail.length + 1 - 24) := by
  simp [pushTail, lastBytes]

theorem PortMatch.mem_completedBy (i : PatternId) : i ∈ m.completedBy table b ↔
    (m.watch.getLsbD i.val = true ∨ m.await = some i)
    ∧ completes table[i] (min 24 (m.eligible[i] + 1))
        ((m.tail ++ [b]).drop (m.tail.length + 1 - 24)) = true := by
  simp only [PortMatch.completedBy, List.mem_filter, List.mem_finRange, true_and, Bool.and_eq_true, m.armed_iff,
    pushTail_eq]
  refine and_congr_right fun armed => ?_
  rw [m.counted_eq, if_pos armed]

theorem PortMatch.pairwise_completedBy : (m.completedBy table b).Pairwise (· < ·) :=
  (List.pairwise_lt_finRange 32).filter _

theorem PortMatch.took_eligible (i : PatternId) : (m.took b completed).eligible[i] =
    if i ∈ completed then 0
    else if m.watch.getLsbD i.val = true ∨ m.await = some i then min 24 (m.eligible[i] + 1) else 0 := by
  simp only [PortMatch.took, PortMatch.withEligible, Fin.getElem_fin, Vector.getElem_ofFn, Fin.eta,
    List.contains_iff_mem, m.counted_eq]

theorem PortMatch.took_tail :
    (m.took b completed).tail = (m.tail ++ [b]).drop (m.tail.length + 1 - 24) := pushTail_eq b m.tail

@[simp] theorem PortMatch.took_lastWatch : (m.took b completed).lastWatch = m.lastWatch := by
  simp only [PortMatch.took, PortMatch.withEligible]

/-- In a rising list the first that satisfies a condition is the lowest. -/
theorem find?_lowest {l : List PatternId} (rising : l.Pairwise (· < ·)) {ok : PatternId → Bool} {i : PatternId}
    (found : l.find? ok = some i) : (i ∈ l ∧ ok i = true) ∧ ∀ j ∈ l, ok j = true → i ≤ j := by
  obtain ⟨hi, before, after, rfl, unmet⟩ := List.find?_eq_some_iff_append.1 found
  refine ⟨⟨by simp, hi⟩, fun j hj okj => ?_⟩
  have behind := (List.pairwise_append.1 rising).2.1
  rcases List.mem_append.1 hj with h | h
  · exact absurd okj (by simpa using unmet j h)
  · rcases List.mem_cons.1 h with rfl | h
    · exact Fin.le_refl _
    · exact Fin.le_of_lt ((List.pairwise_cons.1 behind).1 j h)

theorem PortMatch.note_lowest : (m.note completed).lowest = completed.find? fun i => m.watch.getLsbD i.val := by
  simp [PortMatch.note, PortMatch.watchMatches]

theorem PortMatch.note_trigger : (m.note completed).trigger =
    completed.find? fun i => m.watch.getLsbD i.val && m.trigger.getLsbD i.val := by
  simp [PortMatch.note, PortMatch.watchMatches, List.find?_filter]

end

/-! ### Watch notices (R119) -/

/-- Besides a port's last watch and its notices, and what a raised cause does, nothing may differ. -/
structure State.watchFrame (s : State) (p : PortId) (t : State) : Prop where
  port : t.port p = { s.port p with
    pm := { (s.port p).pm with lastWatch := (t.port p).pm.lastWatch }, status := (t.port p).status }
  tsu : t.tsu = s.tsu
  time : t.time = s.time
  elsewhere : s.sameElsewhere p t

section
variable (s : State) (p : PortId) (sequence : Word)

/-- One watch notice: the last watch, and the notice of kind WATCH (R119). -/
def State.watchNoticed (i : PatternId) : State :=
  (s.modPort p fun v => { v with pm := { v.pm with
    lastWatch := { pattern := BitVec.ofNat 8 i.val, sequence := sequence, time := s.partTime } } }).notice p .watch

theorem State.watchNotices_cons (i : PatternId) (rest : List PatternId) :
    s.watchNotices p sequence (i :: rest) = (s.watchNoticed p sequence i).watchNotices p sequence rest := rfl

theorem State.watchNoticed_port (i : PatternId) : (s.watchNoticed p sequence i).port p = { s.port p with
    pm := { (s.port p).pm with
      lastWatch := { pattern := BitVec.ofNat 8 i.val, sequence := sequence, time := s.partTime } }
    status := ((s.watchNoticed p sequence i).port p).status } := by
  rw [State.watchNoticed, State.port_notice, State.port_modPort_same]
  unfold Port.noting
  split <;> split <;> rfl

theorem State.watchFrame_watchNoticed (i : PatternId) : s.watchFrame p (s.watchNoticed p sequence i) := by
  refine ⟨?_, by simp [State.watchNoticed], by simp [State.watchNoticed], fun q hq => ?_⟩
  · have port := s.watchNoticed_port p sequence i
    rw [port]
  · rw [State.watchNoticed, State.notice_port_ne _ _ _ hq, State.port_modPort_ne _ _ hq]

theorem State.watchNoticed_status (i : PatternId) :
    ((s.watchNoticed p sequence i).port p).status.noticeCount = (s.port p).status.noticeCount + 1
      ∧ ((s.watchNoticed p sequence i).port p).status.lastNotice = .watch := by
  rw [State.watchNoticed, State.port_notice]
  simp

theorem State.watchNoticed_attention (i : PatternId) :
    (s.watchNoticed p sequence i).attention = s.attention ||| 1#10 <<< 1 := by
  rw [State.watchNoticed, State.notice_attention _ _ (c := .watch) rfl]
  rfl

end

section
variable {s t u : State} {p : PortId}

theorem State.watchFrame.refl (s : State) (p : PortId) : s.watchFrame p s := ⟨rfl, rfl, rfl, fun _ _ => rfl⟩

theorem State.watchFrame.trans (st : s.watchFrame p t) (tu : t.watchFrame p u) : s.watchFrame p u := by
  refine ⟨?_, tu.tsu.trans st.tsu, tu.time.trans st.time, st.elsewhere.trans tu.elsewhere⟩
  rw [tu.port, st.port]

theorem State.watchFrame_watchNotices (s : State) (p : PortId) (sequence : Word) (watched : List PatternId) :
    s.watchFrame p (s.watchNotices p sequence watched) := by
  induction watched generalizing s with
  | nil => exact .refl s p
  | cons i rest ih => exact (s.watchFrame_watchNoticed p sequence i).trans (ih _)

theorem State.watchNotices_noticeCount (s : State) (p : PortId) (sequence : Word) (watched : List PatternId) :
    ((s.watchNotices p sequence watched).port p).status.noticeCount =
      (s.port p).status.noticeCount + BitVec.ofNat 16 watched.length := by
  induction watched generalizing s with
  | nil => simp [State.watchNotices]
  | cons i rest ih =>
    rw [State.watchNotices_cons, ih, (s.watchNoticed_status p sequence i).1, List.length_cons, BitVec.add_assoc,
      Nat.add_comm rest.length, BitVec.ofNat_add]
    rfl

/-- The last of the watch matches stays named, and WATCH is raised (R119). -/
theorem State.watchNotices_last (s : State) (p : PortId) (sequence : Word) {watched : List PatternId} {i : PatternId}
    (last : watched.getLast? = some i) :
    ((s.watchNotices p sequence watched).port p).pm.lastWatch =
        { pattern := BitVec.ofNat 8 i.val, sequence := sequence, time := s.partTime }
      ∧ ((s.watchNotices p sequence watched).port p).status.lastNotice = .watch
      ∧ (s.watchNotices p sequence watched).attention = s.attention ||| 1#10 <<< 1 := by
  induction watched generalizing s with
  | nil => simp at last
  | cons j rest ih =>
    rw [State.watchNotices_cons]
    cases rest with
    | nil =>
      obtain rfl : j = i := by simpa using last
      refine ⟨?_, (s.watchNoticed_status p sequence j).2, s.watchNoticed_attention p sequence j⟩
      rw [State.watchNotices, State.watchNoticed_port]
    | cons k more =>
      have now : (s.watchNoticed p sequence j).partTime = s.partTime := by
        rw [State.partTime, (s.watchFrame_watchNoticed p sequence j).time]
        rfl
      obtain ⟨named, kind, raised⟩ := ih (s.watchNoticed p sequence j) (by simpa using last)
      refine ⟨by rw [named, now], kind, ?_⟩
      rw [raised, State.watchNoticed_attention, BitVec.or_assoc, BitVec.or_self]

end

/-! ### The delivery of a byte (R85, R89, R90) -/

section
variable (s : State) (p : PortId) (b : Byte) (framing parity : Bool)

/-- The patterns that complete at a byte of the port. -/
def State.byteCompleted : List PatternId := (s.port p).pm.completedBy s.patterns b

/-- The byte has its sequence number and has been matched, its notices not yet recorded (R85, R111). -/
def State.byteJoined : State :=
  (s.modPort p fun v => { v with slu := { v.slu with receiveCount := v.slu.receiveCount + 1 } }).modPort p
    fun v => { v with pm := v.pm.took b (s.byteCompleted p b) }

theorem State.byteMatched_eq : (s.byteMatched p b).1 = (s.byteJoined p b).watchNotices p (s.port p).slu.receiveCount
      ((s.port p).pm.watchMatches (s.byteCompleted p b))
    ∧ (s.byteMatched p b).2.1 = (s.port p).pm.note (s.byteCompleted p b) := by
  simp [State.byteMatched, State.takeByte, State.byteJoined, State.byteCompleted]

theorem State.byteMatched_awaited : (s.byteMatched p b).2.2 = true ↔
    ∃ i, (s.port p).pm.await = some i ∧ i ∈ s.byteCompleted p b := by
  unfold State.byteMatched State.takeByte
  dsimp only
  rw [State.port_modPort_same, Port.noting_pm]
  cases (s.port p).pm.await <;> simp [State.byteCompleted]

section
variable (v : Port) (e : FifoEntry)

@[simp] theorem Port.storeByte_queue : (v.storeByte e).queue = v.queue := by
  unfold Port.storeByte
  split <;> rfl

@[simp] theorem Port.storeByte_exc : (v.storeByte e).exc = v.exc := by
  unfold Port.storeByte
  split <;> rfl

@[simp] theorem Port.storeByte_pm : (v.storeByte e).pm = v.pm := by
  unfold Port.storeByte
  split <;> rfl

@[simp] theorem Port.storeByte_status : (v.storeByte e).status = v.status := by
  unfold Port.storeByte
  split <;> rfl

@[simp] theorem Port.storeByte_receiveCount : (v.storeByte e).slu.receiveCount = v.slu.receiveCount := by
  unfold Port.storeByte
  split <;> rfl

end

theorem State.byteJoined_port : (s.byteJoined p b).port p = { s.port p with
    slu := { (s.port p).slu with receiveCount := (s.port p).slu.receiveCount + 1 }
    pm := (s.port p).pm.took b (s.byteCompleted p b), status := ((s.byteJoined p b).port p).status } := by
  rw [State.byteJoined, State.port_modPort_same, State.port_modPort_same]
  unfold Port.noting
  split <;> split <;> rfl

theorem State.watchFrame_byteMatched : (s.byteJoined p b).watchFrame p (s.byteMatched p b).1 := by
  rw [(s.byteMatched_eq p b).1]
  exact State.watchFrame_watchNotices _ p _ _

/-- What the matcher leaves of a port: its count, its matching, and what its notices say. -/
theorem State.byteMatched_port : (s.byteMatched p b).1.port p = { s.port p with
    slu := { (s.port p).slu with receiveCount := (s.port p).slu.receiveCount + 1 }
    pm := { (s.port p).pm.took b (s.byteCompleted p b) with
      lastWatch := ((s.byteMatched p b).1.port p).pm.lastWatch }
    status := ((s.byteMatched p b).1.port p).status } := by
  rw [(s.watchFrame_byteMatched p b).port, State.byteJoined_port]

theorem State.byteMatched_tail : ((s.byteMatched p b).1.port p).pm.tail =
    ((s.port p).pm.took b (s.byteCompleted p b)).tail := by
  rw [State.byteMatched_port]

theorem State.byteMatched_eligible : ((s.byteMatched p b).1.port p).pm.eligible =
    ((s.port p).pm.took b (s.byteCompleted p b)).eligible := by
  rw [State.byteMatched_port]

@[simp] theorem State.byteStored_queue :
    ((s.byteStored p b framing parity).port p).queue = (s.port p).queue := by
  simp only [State.byteStored, State.port_modPort_same, Port.noting_queue, Port.storeByte_queue]
  rw [State.byteMatched_port]

@[simp] theorem State.byteStored_exc : ((s.byteStored p b framing parity).port p).exc = (s.port p).exc := by
  simp only [State.byteStored, State.port_modPort_same, Port.noting_exc, Port.storeByte_exc]
  rw [State.byteMatched_port]

@[simp] theorem State.byteStored_pm :
    ((s.byteStored p b framing parity).port p).pm = ((s.byteMatched p b).1.port p).pm := by
  simp only [State.byteStored, State.port_modPort_same, Port.noting_pm, Port.storeByte_pm]

@[simp] theorem State.byteStored_receiveCount :
    ((s.byteStored p b framing parity).port p).slu.receiveCount = (s.port p).slu.receiveCount + 1 := by
  simp only [State.byteStored, State.port_modPort_same, Port.noting_slu, Port.storeByte_receiveCount]
  rw [State.byteMatched_port]

@[simp] theorem State.byteStored_noticeCount : ((s.byteStored p b framing parity).port p).status.noticeCount =
    ((s.byteMatched p b).1.port p).status.noticeCount := by
  simp only [State.byteStored, State.port_modPort_same, Port.noting_status_noticeCount, Port.storeByte_status]

@[simp] theorem State.byteStored_lastNotice : ((s.byteStored p b framing parity).port p).status.lastNotice =
    ((s.byteMatched p b).1.port p).status.lastNotice := by
  simp only [State.byteStored, State.port_modPort_same, Port.noting_status_lastNotice, Port.storeByte_status]

@[simp] theorem State.byteStored_attention :
    (s.byteStored p b framing parity).attention = (s.byteMatched p b).1.attention := rfl

@[simp] theorem State.byteStored_tsu : (s.byteStored p b framing parity).tsu = s.tsu :=
  (s.watchFrame_byteMatched p b).tsu

@[simp] theorem State.byteStored_time : (s.byteStored p b framing parity).time = s.time :=
  (s.watchFrame_byteMatched p b).time

theorem State.byteStored_port_ne {q : PortId} (h : q ≠ p) :
    (s.byteStored p b framing parity).port q = s.port q := by
  rw [State.byteStored, State.port_modPort_ne _ _ h, (s.watchFrame_byteMatched p b).elsewhere q h, State.byteJoined,
    State.port_modPort_ne _ _ h, State.port_modPort_ne _ _ h]

/-- What of a delivered byte the FIFO, or the loss, keeps. -/
theorem State.byteEntry_eq : s.byteEntry p b framing parity =
    { byte := b, sequence := (s.port p).slu.receiveCount, framing := framing, parity := parity, time := s.partTime,
      note := (s.port p).pm.note (s.byteCompleted p b) } := by
  rw [State.byteEntry, (s.byteMatched_eq p b).2]

theorem State.byteStored_fits (room : (s.port p).slu.fifo.length < 64) :
    ((s.byteStored p b framing parity).port p).slu.fifo =
        (s.port p).slu.fifo ++ [s.byteEntry p b framing parity]
      ∧ ((s.byteStored p b framing parity).port p).ca = (s.port p).ca := by
  have fits : (((s.byteMatched p b).1.port p).storeByte (s.byteEntry p b framing parity)) =
      { (s.byteMatched p b).1.port p with slu := { ((s.byteMatched p b).1.port p).slu with
        fifo := ((s.byteMatched p b).1.port p).slu.fifo ++ [s.byteEntry p b framing parity] } } := by
    refine if_pos ?_
    rw [State.byteMatched_port]
    exact room
  simp only [State.byteStored, State.port_modPort_same, Port.noting_slu, Port.noting_ca, fits]
  rw [State.byteMatched_port]
  exact ⟨rfl, rfl⟩

theorem State.byteStored_lost (full : 64 ≤ (s.port p).slu.fifo.length) :
    ((s.byteStored p b framing parity).port p).slu.fifo = (s.port p).slu.fifo
      ∧ ((s.byteStored p b framing parity).port p).ca = (s.port p).ca.loseByte (s.port p).slu.receiveCount
        ((s.port p).pm.note (s.byteCompleted p b)).trigger := by
  have lost : (((s.byteMatched p b).1.port p).storeByte (s.byteEntry p b framing parity)) =
      { (s.byteMatched p b).1.port p with
        ca := ((s.byteMatched p b).1.port p).ca.loseByte (s.byteEntry p b framing parity).sequence
          (s.byteEntry p b framing parity).note.trigger } := by
    refine if_neg (Nat.not_lt.2 ?_)
    rw [State.byteMatched_port]
    exact full
  simp only [State.byteStored, State.port_modPort_same, Port.noting_slu, Port.noting_ca, lost]
  rw [State.byteMatched_port, State.byteEntry_eq]
  exact ⟨rfl, rfl⟩

/-- The notices of a byte that no watched pattern completes at, and of one that some do (R119). -/
theorem State.byteMatched_unwatched (none : (s.port p).pm.watchMatches (s.byteCompleted p b) = []) :
    ((s.byteMatched p b).1.port p).pm.lastWatch = (s.port p).pm.lastWatch
      ∧ ((s.byteMatched p b).1.port p).status.noticeCount = (s.port p).status.noticeCount
      ∧ (s.byteMatched p b).1.attention = s.attention := by
  rw [(s.byteMatched_eq p b).1, none, State.watchNotices]
  simp [State.byteJoined]

theorem State.byteMatched_noticeCount : ((s.byteMatched p b).1.port p).status.noticeCount =
    (s.port p).status.noticeCount
      + BitVec.ofNat 16 ((s.port p).pm.watchMatches (s.byteCompleted p b)).length := by
  rw [(s.byteMatched_eq p b).1, State.watchNotices_noticeCount]
  simp [State.byteJoined]

theorem State.byteMatched_watched {i : PatternId}
    (last : ((s.port p).pm.watchMatches (s.byteCompleted p b)).getLast? = some i) :
    ((s.byteMatched p b).1.port p).pm.lastWatch =
        { pattern := BitVec.ofNat 8 i.val, sequence := (s.port p).slu.receiveCount, time := s.partTime }
      ∧ ((s.byteMatched p b).1.port p).status.lastNotice = .watch
      ∧ (s.byteMatched p b).1.attention = s.attention ||| 1#10 <<< 1 := by
  rw [(s.byteMatched_eq p b).1]
  exact (s.byteJoined p b).watchNotices_last p _ last

end

section
variable {s : State} {p : PortId} {b : Byte} {framing parity : Bool}

@[simp] theorem State.disarm_time (s : State) (p : PortId) : (s.disarm p).time = s.time := rfl

/-- Outside VERIFYING a byte that the exchange does not await is stored, and that is all. -/
theorem State.deliver_stored (settled : (s.port p).rf.state ≠ .verifying)
    (unawaited : ∀ i, (s.port p).pm.await = some i → i ∉ s.byteCompleted p b) :
    s.deliver p b framing parity = s.byteStored p b framing parity := by
  have none : ¬ (s.byteMatched p b).2.2 = true := by
    rw [s.byteMatched_awaited p b]
    rintro ⟨i, await, mem⟩
    exact unawaited i await mem
  rw [State.deliver_eq, if_neg none, State.byteVerified, if_neg settled]

/-- A byte at which the awaited pattern completes ends the exchange (R34). -/
theorem State.deliver_matched {e : QueueEntry} {i : PatternId} (settled : (s.port p).rf.state ≠ .verifying)
    (await : (s.port p).pm.await = some i) (mem : i ∈ s.byteCompleted p b)
    (awaiting : (s.port p).exc.state = .awaiting) (queue : (s.port p).queue = [e]) :
    s.deliver p b framing parity = ((s.byteStored p b framing parity).disarm p).endTask p
      { code := .ok, matchSequence := (s.port p).slu.receiveCount
        outcomeA := BitVec.ofNat 32 e.fields.patternId, outcomeB := 0 } := by
  have awaited : (s.byteMatched p b).2.2 = true := (s.byteMatched_awaited p b).2 ⟨i, await, mem⟩
  rw [State.deliver_eq, if_pos awaited, State.byteVerified, if_neg settled, State.awaitMatched]
  simp [queue, awaiting]

end

/-- Settles O49: the elements, the completion of a pattern, the completed ones, the note, and the delivery. -/
theorem patternsCompleteAtTheirLastByte : Obligations.PatternsCompleteAtTheirLastByte := by
  refine ⟨fun v b => ⟨?_, Element.matchesByte_fold v b, rfl, ?_, ?_⟩, completes_iff, fun _ _ => rfl,
    fun m table b => ⟨m.mem_completedBy table b, m.pairwise_completedBy table b⟩, ?_, ?_⟩
  · simp [Element.matchesByte]
  · simp [Element.matchesByte]
  · simp [Element.matchesByte]
  · intro m completed rising
    refine ⟨rfl, fun i h => ?_, fun h => ?_, fun i h => ?_, fun h => ?_⟩
    · exact find?_lowest rising (m.note_lowest completed ▸ h)
    · simpa [m.note_lowest] using h
    · obtain ⟨⟨mem, both⟩, lowest⟩ := find?_lowest rising (m.note_trigger completed ▸ h)
      obtain ⟨watched, trigger⟩ := Bool.and_eq_true_iff.1 both
      exact ⟨⟨mem, watched, trigger⟩, fun j hj w t => lowest j hj (Bool.and_eq_true_iff.2 ⟨w, t⟩)⟩
    · simpa [m.note_trigger] using h
  · rintro s t p b framing parity completed watched rfl settled hcompleted hwatched
    obtain rfl : completed = s.byteCompleted p b := hcompleted
    obtain rfl : watched = (s.port p).pm.watchMatches (s.byteCompleted p b) := hwatched
    refine ⟨fun unawaited => ?_, fun i e await mem awaiting queue task => ?_⟩
    · rw [State.deliver_stored settled unawaited]
      refine ⟨?_, fun i => ?_, fun none => ?_, fun i last => ?_, fun room => ?_, fun full => ?_, by simp, by simp,
        by simp, fun q hq => s.byteStored_port_ne p b framing parity hq⟩
      · rw [State.byteStored_pm, State.byteMatched_tail, PortMatch.took_tail]
      · rw [State.byteStored_pm, State.byteMatched_eligible, PortMatch.took_eligible]
      · rw [State.byteStored_pm, State.byteStored_noticeCount, State.byteStored_attention]
        exact s.byteMatched_unwatched p b none
      · obtain ⟨named, kind, raised⟩ := s.byteMatched_watched p b last
        rw [State.byteStored_pm, State.byteStored_noticeCount, State.byteStored_lastNotice, State.byteStored_attention,
          s.byteMatched_noticeCount p b]
        exact ⟨named, rfl, kind, raised⟩
      · rw [← State.byteEntry_eq]
        exact s.byteStored_fits p b framing parity room
      · exact s.byteStored_lost p b framing parity full
    · have queued : (((s.byteStored p b framing parity).disarm p).port p).queue = [e] := by simpa using queue
      rw [State.deliver_matched settled await mem awaiting queue, State.endTask_only queued task]
      refine ⟨by simp, by simp, by simp [PortMatch.disarmAwait_await], ?_, by simp, ?_⟩
      · simp [State.handCompletion, State.headCompletion, State.partTime]
      · simp [s.byteMatched_noticeCount p b]

end Sys2Proof.Machine
end

section
/-! SUPPORT. Operations over all ports, the drain of the queues, and the watch of the drain that STOP begins; the
statement on STOP. -/

namespace Sys2Proof.Machine

/-! ### Operations over all ports -/

/-- What an operation over all ports makes of port `p`: before `p`'s turn the port is as it was and `I` holds, its turn
gives `Q`, and the turns of the other ports keep that. -/
theorem State.forPorts_at {f : PortId → State → State} {I Q : State → Prop} {s : State} {p : PortId}
    (elsewhere : ∀ q (u : State), u.sameElsewhere q (f q u)) (hs : I s) (keepI : ∀ q u, I u → I (f q u))
    (turn : ∀ u, I u → u.port p = s.port p → Q (f p u)) (keepQ : ∀ q u, q ≠ p → Q u → Q (f q u)) :
    Q (s.forPorts f) := by
  obtain ⟨before, after, split⟩ := List.append_of_mem (List.mem_finRange p)
  have distinct : (before ++ p :: after).Nodup := split ▸ List.nodup_finRange 24
  have notBefore : ∀ q ∈ before, q ≠ p := fun q hq e =>
    List.disjoint_of_nodup_append distinct hq (e ▸ List.mem_cons_self)
  have notAfter : ∀ q ∈ after, q ≠ p := fun q hq e =>
    (List.nodup_cons.1 (List.Nodup.of_append_right distinct)).1 (e ▸ hq)
  rw [State.forPorts, split, List.foldl_append, List.foldl_cons]
  have reached : I (before.foldl (fun u q => f q u) s) ∧ (before.foldl (fun u q => f q u) s).port p = s.port p :=
    List.foldlRecOn (motive := fun u => I u ∧ u.port p = s.port p) before _ ⟨hs, rfl⟩ fun u hu q hq =>
      ⟨keepI q u hu.1, (elsewhere q u p (notBefore q hq).symm).trans hu.2⟩
  exact List.foldlRecOn (motive := Q) after _ (turn _ reached.1 reached.2) fun u hu q hq => keepQ q u (notAfter q hq) hu

@[simp] theorem State.handItem_listens (s : State) (p : PortId) (a : ItemAction) (q : PortId) :
    (s.handItem p a).listening q = s.listening q := by
  simp [State.listening, State.inUse]

/-- An item handed to every port reaches each as an item handed to it alone. -/
theorem State.forPorts_handItem_port (s : State) (a : ItemAction) (p : PortId) :
    (s.forPorts fun q u => u.handItem q a).port p = (s.handItem p a).port p := by
  refine State.forPorts_at (p := p) (I := fun u => u.listening p = s.listening p ∧ u.time = s.time)
    (Q := fun u => u.port p = (s.handItem p a).port p)
    (fun q u => (u.onlyCapture_handItem q a).elsewhere) ⟨rfl, rfl⟩ (fun q u hu => by simpa using hu) ?_ ?_
  · rintro u ⟨listens, time⟩ port
    cases listening : s.listening p with
    | true =>
      rw [State.handItem_listening listening, State.handItem_listening (listens.trans listening),
        State.port_modPort_same, State.port_modPort_same, port, State.partTime, time]
      rfl
    | false => rw [State.handItem_deaf listening, State.handItem_deaf (listens.trans listening), port]
  · intro q u hq hu
    rw [State.handItem_port_ne _ _ _ hq.symm, hu]

@[simp] theorem State.handItem_finalIssued (s : State) (p : PortId) (a : ItemAction) (q : PortId) :
    ((s.handItem p a).port q).status.finalIssued = (s.port q).status.finalIssued := by
  unfold State.handItem
  split
  · by_cases hq : q = p
    · subst hq
      simp
    · rw [State.port_modPort_ne _ _ hq]
  · rfl

/-- An item joins the event list, where it is always placed or where room is left (R130). -/
theorem State.handItem_mem {s : State} {p : PortId} {a : ItemAction} (listening : s.listening p = true)
    (placed : a.always = true ∨ (s.port p).ca.ordinaryItems < 16) :
    EventItem.mk (s.port p).slu.receiveCount s.partTime a ∈ ((s.handItem p a).port p).ca.events := by
  rw [State.handItem_listening listening, State.port_modPort_same, Port.noting_ca]
  rcases placed with h | h
  · simp [Capture.placeItem, h]
  · have room : (s.port p).ca.ordinaryItems < Config.eventCapacity := h
    simp only [Capture.placeItem, room, if_true]
    split <;> simp

/-- An item takes no other away from the event list. -/
theorem State.mem_handItem {s : State} {p : PortId} {a : ItemAction} {it : EventItem}
    (mem : it ∈ (s.port p).ca.events) (other : it.action ≠ a) : it ∈ ((s.handItem p a).port p).ca.events := by
  unfold State.handItem
  split
  · rw [State.port_modPort_same, Port.noting_ca]
    simp only [Capture.placeItem]
    split
    · simp [mem, other]
    · split
      · exact List.mem_append_left _ mem
      · exact mem
  · exact mem

/-! ### The drain of a queue (R49) -/

/-- A port whose unstarted entries have been taken off its queue. -/
def Port.drainedQueue (v : Port) : Port := { v with queue := if v.started then v.queue.take 1 else [] }

@[simp] theorem Port.drainedQueue_slu (v : Port) : v.drainedQueue.slu = v.slu := rfl

@[simp] theorem Port.drainedQueue_ca (v : Port) : v.drainedQueue.ca = v.ca := rfl

@[simp] theorem Port.drainedQueue_status (v : Port) : v.drainedQueue.status = v.status := rfl

/-- A drain hands completions and notes shares; nothing else outside the ports differs that the drain looks at. -/
structure State.drainFrame (s t : State) : Prop where
  time : t.time = s.time
  bus : t.bus = s.bus
  sweep : t.tsu.sweep = s.tsu.sweep
  inFlight : t.tsu.inFlight = s.tsu.inFlight
  geometry : t.tsu.geometry = s.tsu.geometry
  completions : ∀ c ∈ s.tsu.completions, c ∈ t.tsu.completions

section
variable {s t u : State}

theorem State.drainFrame.refl (s : State) : s.drainFrame s := ⟨rfl, rfl, rfl, rfl, rfl, fun _ h => h⟩

theorem State.drainFrame.trans (st : s.drainFrame t) (tu : t.drainFrame u) : s.drainFrame u :=
  ⟨tu.time.trans st.time, tu.bus.trans st.bus, tu.sweep.trans st.sweep, tu.inFlight.trans st.inFlight,
    tu.geometry.trans st.geometry, fun c h => tu.completions c (st.completions c h)⟩

theorem State.drainFrame_handCompletion (s : State) (c : Completion) : s.drainFrame (s.handCompletion c) :=
  ⟨rfl, rfl, rfl, rfl, rfl, fun _ h => List.mem_append_left _ h⟩

theorem State.drainFrame_shareEnds (s : State) (p : PortId) (slot : Nat) (set : ShareSet) (start : Word)
    (characters : Nat) (fault : Bool) : s.drainFrame (s.shareEnds p slot set start characters fault) := by
  unfold State.shareEnds
  split
  · exact .refl s
  · dsimp only
    split
    · exact ⟨rfl, rfl, rfl, rfl, rfl, fun _ h => List.mem_append_left _ h⟩
    · exact ⟨rfl, rfl, rfl, rfl, rfl, fun _ h => h⟩

theorem State.drainFrame_drainEntry (s : State) (p : PortId) (e : QueueEntry) : s.drainFrame (s.drainEntry p e) := by
  unfold State.drainEntry
  split
  · exact s.drainFrame_shareEnds p _ _ _ _ _
  · exact s.drainFrame_handCompletion _

@[simp] theorem State.drainEntry_port (s : State) (p : PortId) (e : QueueEntry) (q : PortId) :
    (s.drainEntry p e).port q = s.port q := by
  unfold State.drainEntry
  split
  · exact s.shareEnds_port p _ _ _ _ _ q
  · rfl

theorem State.foldl_drainEntry_port (s : State) (p : PortId) (entries : List QueueEntry) (q : PortId) :
    (entries.foldl (fun u e => u.drainEntry p e) s).port q = s.port q :=
  List.foldlRecOn (motive := fun u : State => u.port q = s.port q) entries _ rfl fun u hu e _ =>
    (u.drainEntry_port p e q).trans hu

theorem State.drainFrame_foldl (s : State) (p : PortId) (entries : List QueueEntry) :
    s.drainFrame (entries.foldl (fun u e => u.drainEntry p e) s) :=
  List.foldlRecOn (motive := s.drainFrame) entries _ (.refl s) fun u hu e _ =>
    hu.trans (u.drainFrame_drainEntry p e)

/-- Every entry of a list that is no share is completed DRAINED (R49). -/
theorem State.foldl_drainEntry_mem (s : State) (p : PortId) {entries : List QueueEntry} {e : QueueEntry}
    (mem : e ∈ entries) (task : e.kind ≠ .broadcast) :
    s.unbegun e.slot e.fields.notify .drained
      ∈ (entries.foldl (fun u e => u.drainEntry p e) s).tsu.completions := by
  induction entries generalizing s with
  | nil => simp at mem
  | cons x rest ih =>
    rw [List.foldl_cons]
    rcases List.mem_cons.1 mem with rfl | behind
    · refine (State.drainFrame_foldl _ p rest).completions _ ?_
      simp [State.drainEntry, task, State.handCompletion]
    · have same : (s.drainEntry p x).unbegun e.slot e.fields.notify .drained
          = s.unbegun e.slot e.fields.notify .drained := by
        simp only [State.unbegun, State.partTime, (s.drainFrame_drainEntry p x).time]
      exact same ▸ ih (s.drainEntry p x) behind

theorem State.drainPort_port (s : State) (p : PortId) :
    (s.drainPort p).port p = (s.port p).noting (s.port p).drainedQueue := by
  rw [State.drainPort, State.foldl_drainEntry_port, State.port_modPort_same]
  rfl

theorem State.drainPort_elsewhere (s : State) (p : PortId) : s.sameElsewhere p (s.drainPort p) := by
  intro q hq
  rw [State.drainPort, State.foldl_drainEntry_port, State.port_modPort_ne _ _ hq]

theorem State.drainFrame_drainPort (s : State) (p : PortId) : s.drainFrame (s.drainPort p) := by
  have emptied : s.drainFrame (s.modPort p fun v => { v with queue := if v.started then v.queue.take 1 else [] }) :=
    ⟨rfl, rfl, rfl, rfl, rfl, fun _ h => h⟩
  exact emptied.trans (State.drainFrame_foldl _ p _)

/-- The queues of all ports have been drained. -/
@[irreducible] def State.allDrained (s : State) : State := s.forPorts fun p u => u.drainPort p

theorem State.drainFrame_allDrained (s : State) : s.drainFrame s.allDrained := by
  unfold State.allDrained
  exact State.forPorts_keeps (P := s.drainFrame) (fun p u hu => hu.trans (u.drainFrame_drainPort p)) (.refl s)

theorem State.allDrained_port (s : State) (p : PortId) :
    s.allDrained.port p = (s.port p).noting (s.port p).drainedQueue := by
  unfold State.allDrained
  refine State.forPorts_at (p := p) (I := fun _ => True)
    (Q := fun u => u.port p = (s.port p).noting (s.port p).drainedQueue)
    (fun q u => u.drainPort_elsewhere q) trivial (fun _ _ _ => trivial) (fun u _ port => ?_) fun q u hq hu => ?_
  · rw [State.drainPort_port, port]
  · rw [u.drainPort_elsewhere q p hq.symm, hu]

/-- Every unstarted entry that is no share is completed DRAINED. -/
theorem State.allDrained_mem (s : State) {p : PortId} {e : QueueEntry} (mem : e ∈ (s.port p).unstarted)
    (task : e.kind ≠ .broadcast) : s.unbegun e.slot e.fields.notify .drained ∈ s.allDrained.tsu.completions := by
  unfold State.allDrained
  refine State.forPorts_at (p := p) (I := fun u => u.time = s.time)
    (Q := fun u => s.unbegun e.slot e.fields.notify .drained ∈ u.tsu.completions)
    (fun q u => u.drainPort_elsewhere q) rfl (fun q u hu => (u.drainFrame_drainPort q).time.trans hu)
    (fun u time port => ?_) fun q u _ hu => (u.drainFrame_drainPort q).completions _ hu
  have same : (u.modPort p fun v => { v with queue := if v.started then v.queue.take 1 else [] }).unbegun e.slot
      e.fields.notify .drained = s.unbegun e.slot e.fields.notify .drained := by
    simp only [State.unbegun, State.partTime, State.modPort_time, time]
  rw [State.drainPort, ← same]
  exact State.foldl_drainEntry_mem _ p (port ▸ mem) task

end

/-! ### STOP (R181, R182) -/

theorem exec_stop (s : State) : exec .stop s = .next s.stopCommand := rfl

/-- The drain has begun: the queues are drained, and each capture assembler has its start-of-drain item (R143). -/
@[irreducible] def State.drainBegun (s : State) : State :=
  s.draining.allDrained.forPorts fun p u => u.handItem p (.close [])

section
variable {s : State}

theorem State.stopCommand_running (running : s.bus.control = .running) : s.stopCommand = s.drainBegun.watchDrain := by
  unfold State.stopCommand State.drainBegun State.allDrained
  dsimp only
  rw [if_pos running]

theorem State.onlyCaptures_drainBegun (s : State) : s.draining.allDrained.onlyCaptures s.drainBegun := by
  unfold State.drainBegun
  exact State.onlyCaptures_forPorts_handItem _ _

theorem State.drainBegun_bus (s : State) : s.drainBegun.bus = { s.bus with control := .draining } := by
  have kept : s.drainBegun.bus = s.draining.allDrained.bus := by
    unfold State.drainBegun
    exact State.forPorts_keeps (P := fun u => u.bus = s.draining.allDrained.bus) (fun p u hu => by simpa using hu) rfl
  exact kept.trans s.draining.drainFrame_allDrained.bus

/-- The start-of-drain item reaches each port's drained state. -/
theorem State.drainBegun_port (s : State) (p : PortId) :
    s.drainBegun.port p = (s.draining.allDrained.handItem p (.close [])).port p := by
  unfold State.drainBegun
  exact State.forPorts_handItem_port _ _ p

/-- What the watch of a drain adds is the settle requests, and the entry to STOPPED where the drain is done. -/
theorem State.watchDrain_draining (draining : s.bus.control = .draining) :
    s.watchDrain = (if s.watchSettle.drainDone then s.watchSettle.enterStopped else s.watchSettle) :=
  if_pos draining

@[simp] theorem State.port_withBus (s : State) (bus : BusPort) (p : PortId) :
    ({ s with bus := bus } : State).port p = s.port p := rfl

@[simp] theorem State.draining_port (s : State) (p : PortId) : s.draining.port p = s.port p := rfl

theorem State.handSettle_port (s : State) (p : PortId) : s.handSettle.port p = (s.handItem p .settle).port p := by
  unfold State.handSettle
  dsimp only
  rw [State.port_withBus]
  exact s.forPorts_handItem_port .settle p

theorem State.handSettle_control (s : State) : s.handSettle.bus.control = s.bus.control := by
  unfold State.handSettle
  dsimp only
  exact State.forPorts_keeps (P := fun u => u.bus.control = s.bus.control) (fun p u hu => by simpa using hu) rfl

/-- The settle requests reach the ports alike, where the settle point is reached. -/
theorem State.watchSettle_port (s : State) (p : PortId) :
    s.watchSettle.port p = s.port p ∨ s.watchSettle.port p = (s.handItem p .settle).port p := by
  unfold State.watchSettle
  split
  · exact .inr (s.handSettle_port p)
  · exact .inl rfl

/-- At the settle point each capture assembler in use is handed its settle request (R143). -/
theorem State.watchSettle_mem {p : PortId} (empty : ∀ q, (s.port q).queue = []) (unhanded : s.bus.settleHanded = false)
    (listening : s.listening p = true) :
    EventItem.mk (s.port p).slu.receiveCount s.partTime .settle ∈ (s.watchSettle.port p).ca.events := by
  have point : s.watchSettle = s.handSettle := by
    have queues : s.queuesEmpty = true := by simp [State.queuesEmpty, empty]
    simp [State.watchSettle, queues, unhanded]
  rw [point, s.handSettle_port p]
  exact State.handItem_mem listening (.inl rfl)

theorem State.watchSettle_control (s : State) : s.watchSettle.bus.control = s.bus.control := by
  unfold State.watchSettle
  split
  · exact s.handSettle_control
  · rfl

theorem State.watchSettle_finalIssued (s : State) (p : PortId) :
    (s.watchSettle.port p).status.finalIssued = (s.port p).status.finalIssued := by
  rcases s.watchSettle_port p with h | h <;> rw [h]
  exact s.handItem_finalIssued p .settle p

/-- What the settle point leaves in an event list, a start-of-drain item among it. -/
theorem State.mem_watchSettle {p : PortId} {it : EventItem} (mem : it ∈ (s.port p).ca.events)
    (other : it.action ≠ .settle) : it ∈ (s.watchSettle.port p).ca.events := by
  rcases s.watchSettle_port p with h | h <;> rw [h]
  · exact mem
  · exact State.mem_handItem mem other

/-- A drain that waits for a port's final status write is not done (R182). -/
theorem State.drainDone_waits {p : PortId} (inUse : s.inUse p = true)
    (unissued : (s.port p).status.finalIssued = false) : s.drainDone = false := by
  have settled : s.allSettled = false := by
    rw [State.allSettled, List.all_eq_false]
    exact ⟨p, List.mem_finRange p, by simp [inUse, unissued]⟩
  simp [State.drainDone, settled]

@[simp] theorem State.enterStopped_control (s : State) : s.enterStopped.bus.control = .stopped := by
  simp [State.enterStopped]

@[simp] theorem State.enterStopped_time (s : State) : s.enterStopped.time = s.time := by
  simp [State.enterStopped]

@[simp] theorem State.enterStopped_tsu (s : State) : s.enterStopped.tsu = { s.tsu with timer := none } := by
  simp [State.enterStopped]

@[simp] theorem State.enterStopped_port (s : State) (p : PortId) : s.enterStopped.port p =
    (s.port p).noting { s.port p with hold := Hold.clear, slu := { (s.port p).slu with tx := .free } } := by
  simp only [State.enterStopped, State.raise_port, State.port_modPorts]
  rfl

end

/-- What STOP leaves of a port: its queue drained, its transmitter FREE in STOPPED, and its hold and its capture aside
the rest. -/
structure State.portStopped (s : State) (p : PortId) (t : State) : Prop where
  queue : (t.port p).queue = (s.port p).drainedQueue.queue
  exc : (t.port p).exc = (s.port p).exc
  slu : (t.port p).slu = { (s.port p).slu with
    tx := if t.bus.control = .stopped then .free else (s.port p).slu.tx }
  rf : (t.port p).rf = (s.port p).rf
  pm : (t.port p).pm = (s.port p).pm
  guard : (t.port p).guard = (s.port p).guard
  sense : (t.port p).sense = (s.port p).sense
  freeze : (t.port p).freeze = (s.port p).freeze

section
variable {s : State}

/-- The state that the entry to STOPPED is looked for in: the drain has begun and its settle point is passed. -/
@[irreducible] def State.drainWatched (s : State) : State := s.drainBegun.watchSettle

theorem State.onlyCaptures_drainWatched (s : State) : s.draining.allDrained.onlyCaptures s.drainWatched := by
  unfold State.drainWatched
  exact s.onlyCaptures_drainBegun.trans s.drainBegun.onlyCaptures_watchSettle

theorem State.drainWatched_control (s : State) : s.drainWatched.bus.control = .draining := by
  rw [State.drainWatched, State.watchSettle_control, State.drainBegun_bus]

/-- STOP ends in DRAINING, or in STOPPED where the drain is done at once. -/
theorem State.stopCommand_cases (running : s.bus.control = .running) :
    (s.stopCommand = s.drainWatched ∧ s.drainWatched.drainDone = false)
      ∨ (s.stopCommand = s.drainWatched.enterStopped ∧ s.drainWatched.drainDone = true) := by
  have watch : s.stopCommand =
      (if s.drainWatched.drainDone then s.drainWatched.enterStopped else s.drainWatched) := by
    rw [State.stopCommand_running running, State.watchDrain_draining (by rw [State.drainBegun_bus]), State.drainWatched]
  rw [watch]
  cases s.drainWatched.drainDone <;> simp

theorem State.drainWatched_port (s : State) (p : PortId) : s.drainWatched.port p =
    { (s.port p).drainedQueue with ca := (s.drainWatched.port p).ca, status := (s.drainWatched.port p).status } := by
  have drained : s.draining.allDrained.port p =
      { (s.port p).drainedQueue with status := (s.draining.allDrained.port p).status } := by
    rw [State.allDrained_port, State.draining_port]
    unfold Port.noting
    split <;> rfl
  refine (s.onlyCaptures_drainWatched.port p).trans ?_
  rw [drained]

theorem State.portStopped_drainWatched (s : State) (p : PortId) : s.portStopped p s.drainWatched := by
  have port := s.drainWatched_port p
  have notStopped : ¬ s.drainWatched.bus.control = .stopped := by simp [s.drainWatched_control]
  exact ⟨by rw [port], by rw [port]; rfl, by rw [port, if_neg notStopped]; rfl, by rw [port]; rfl, by rw [port]; rfl,
    by rw [port]; rfl, by rw [port]; rfl, by rw [port]; rfl⟩

theorem State.portStopped_enterStopped (s : State) (p : PortId) : s.portStopped p s.drainWatched.enterStopped := by
  obtain ⟨queue, exc, slu, rf, pm, guard, sense, freeze⟩ := s.portStopped_drainWatched p
  exact ⟨by simpa using queue, by simpa using exc, by simp [slu], by simpa using rf, by simpa using pm,
    by simpa using guard, by simpa using sense, by simpa using freeze⟩

/-- The parts of STOP before the entry to STOPPED leave the sweep, the slots in flight and the time. -/
theorem State.drainWatched_frame (s : State) : s.drainWatched.time = s.time ∧ s.drainWatched.tsu.sweep = s.tsu.sweep
    ∧ s.drainWatched.tsu.inFlight = s.tsu.inFlight ∧ s.drainWatched.tsu.geometry = s.tsu.geometry := by
  obtain ⟨time, _, sweep, inFlight, geometry, _⟩ := s.draining.drainFrame_allDrained
  have same := s.onlyCaptures_drainWatched
  rw [same.tsu, same.time]
  exact ⟨time, sweep, inFlight, geometry⟩

/-- A port's event list after the start-of-drain items, and after the settle requests (R143, R182). -/
theorem State.drainWatched_close {p : PortId} (inUse : p.val < s.tsu.geometry.portCount)
    (room : (s.port p).ca.ordinaryItems < 16) :
    EventItem.mk (s.port p).slu.receiveCount s.partTime (.close []) ∈ (s.drainWatched.port p).ca.events := by
  obtain ⟨time, bus, _, _, geometry, _⟩ := s.draining.drainFrame_allDrained
  have port : s.draining.allDrained.port p = (s.port p).noting (s.port p).drainedQueue := s.draining.allDrained_port p
  have now : s.draining.allDrained.partTime = s.partTime := by rw [State.partTime, time]; rfl
  have listening : s.draining.allDrained.listening p = true :=
    State.listening_of (by rw [bus]; simp [State.draining]) (by rw [geometry]; exact inUse)
  have handed := State.handItem_mem (a := .close []) listening
    (.inr (by rw [port, Port.noting_ca, Port.drainedQueue_ca]; exact room))
  rw [now, port, Port.noting_slu, Port.drainedQueue_slu] at handed
  rw [State.drainWatched]
  refine State.mem_watchSettle ?_ (by simp)
  rw [State.drainBegun_port]
  exact handed

theorem State.drainWatched_settle {p : PortId} (inUse : p.val < s.tsu.geometry.portCount)
    (unhanded : s.bus.settleHanded = false) (idle : ∀ q, (s.port q).drainedQueue.queue = []) :
    EventItem.mk (s.port p).slu.receiveCount s.partTime .settle ∈ (s.drainWatched.port p).ca.events := by
  have frame := s.draining.drainFrame_allDrained
  have same := s.onlyCaptures_drainBegun
  have port (q : PortId) : s.drainBegun.port q =
      { (s.port q).noting (s.port q).drainedQueue with
        ca := (s.drainBegun.port q).ca, status := (s.drainBegun.port q).status } := by
    have drained := same.port q
    rw [s.draining.allDrained_port q, State.draining_port] at drained
    exact drained
  have now : s.drainBegun.partTime = s.partTime := by rw [State.partTime, same.time, frame.time]; rfl
  have count : (s.drainBegun.port p).slu.receiveCount = (s.port p).slu.receiveCount := by
    rw [port p, Port.noting_slu, Port.drainedQueue_slu]
  have listening : s.drainBegun.listening p = true :=
    State.listening_of (by rw [State.drainBegun_bus]; simp) (by rw [same.tsu, frame.geometry]; exact inUse)
  rw [← now, ← count, State.drainWatched]
  refine State.watchSettle_mem (fun q => ?_) (by rw [State.drainBegun_bus]; exact unhanded) listening
  rw [port q, Port.noting_queue]
  exact idle q

theorem State.drainWatched_finalIssued (s : State) (p : PortId) :
    (s.drainWatched.port p).status.finalIssued = (s.port p).status.finalIssued := by
  rw [State.drainWatched, State.watchSettle_finalIssued, State.drainBegun_port, State.handItem_finalIssued,
    State.allDrained_port, Port.noting_status_finalIssued, Port.drainedQueue_status,
    State.draining_port]

end

theorem Port.drainedQueue_queue (v : Port) :
    v.drainedQueue.queue = if v.exc.state = .idle then [] else v.queue.take 1 := by
  by_cases idle : v.exc.state = .idle <;> simp [Port.drainedQueue, Port.started, idle]

theorem Port.unstarted_eq (v : Port) :
    v.unstarted = if v.exc.state = .idle then v.queue else v.queue.tail := by
  by_cases idle : v.exc.state = .idle <;> simp [Port.unstarted, Port.started, idle]

/-- Settles O17: the drained state is that of every port; the entry to STOPPED frees the transmitters alone. -/
theorem stopDrainsUnstartedEntries : Obligations.StopDrainsUnstartedEntries := by
  intro s running
  obtain ⟨time, sweep, inFlight, geometry⟩ := s.drainWatched_frame
  have handed {p : PortId} {e : QueueEntry} (task : e.kind ≠ .broadcast) (mem : e ∈ (s.port p).unstarted) :
      s.unbegun e.slot e.fields.notify .drained ∈ s.drainWatched.tsu.completions := by
    rw [s.onlyCaptures_drainWatched.tsu]
    exact s.draining.allDrained_mem mem task
  have idle (none : ∀ p : PortId, (s.port p).exc.state = .idle ∨ (s.port p).queue = []) (p : PortId) :
      (s.port p).drainedQueue.queue = [] := by
    rw [Port.drainedQueue_queue]
    rcases none p with h | h <;> simp [h]
  have waits {p : PortId} (inUse : p.val < s.tsu.geometry.portCount)
      (unissued : (s.port p).status.finalIssued = false) : s.drainWatched.drainDone = false := by
    refine State.drainDone_waits (p := p) (decide_eq_true ?_) ((s.drainWatched_finalIssued p).trans unissued)
    exact geometry.symm ▸ inUse
  refine ⟨_, exec_stop s, ?_⟩
  rcases State.stopCommand_cases running with ⟨stop, _⟩ | ⟨stop, done⟩
  · rw [stop]
    refine ⟨.inl s.drainWatched_control, fun _ => s.drainWatched_control, sweep, inFlight, time, fun p => ?_,
      fun p e task mem => handed task (Port.unstarted_eq _ ▸ mem),
      fun p inUse room => State.drainWatched_close inUse room,
      fun unhanded none p inUse => State.drainWatched_settle inUse unhanded (idle none)⟩
    obtain ⟨queue, exc, slu, rf, pm, guard, sense, freeze⟩ := s.portStopped_drainWatched p
    exact ⟨queue.trans (Port.drainedQueue_queue _), exc, slu, rf, pm, guard, sense, freeze⟩
  · rw [stop]
    refine ⟨.inr (by simp), fun ⟨p, inUse, unissued⟩ => ?_, by simpa using sweep, by simpa using inFlight,
      by simpa using time, fun p => ?_, fun p e task mem => ?_, fun p inUse room => ?_,
      fun unhanded none p inUse => ?_⟩
    · rw [waits inUse unissued] at done
      exact absurd done (by simp)
    · obtain ⟨queue, exc, slu, rf, pm, guard, sense, freeze⟩ := s.portStopped_enterStopped p
      exact ⟨queue.trans (Port.drainedQueue_queue _), exc, slu, rf, pm, guard, sense, freeze⟩
    · rw [State.enterStopped_tsu]
      exact handed task (Port.unstarted_eq _ ▸ mem)
    · rw [State.enterStopped_port, Port.noting_ca]
      exact State.drainWatched_close inUse room
    · rw [State.enterStopped_port, Port.noting_ca]
      exact State.drainWatched_settle inUse unhanded (idle none)

end Sys2Proof.Machine
end

section
/-! SUPPORT. Samples and runs, what a change of presence reports, and what a loss of presence makes of the task that
runs; the statement on sense samples. -/

namespace Sys2Proof.Machine

/-! ### Samples and runs (R158 to R161) -/

section
variable (c : Scanner) (v : PortSense) (code : BitVec 12)

/-- The class of a code's level (R159). -/
def Scanner.codeClass : SampleClass := c.classify (senseLevel code)

theorem PortSense.sample_level : (v.sample c code).level = senseLevel code := by
  have extended (cls : RunClass) (u : PortSense) : (extendRun cls u).level = u.level := by
    unfold extendRun
    split <;> rfl
  have ran (cls : SampleClass) (u : PortSense) : (u.updateRun cls).level = u.level := by
    unfold PortSense.updateRun
    split <;> simp [extended, breakRun]
  unfold PortSense.sample
  dsimp only
  split <;> simp [ran, breakRun]

variable {c v code}

/-- A sample that breaks the run changes the level and the run alone. -/
theorem PortSense.sample_breaks
    (breaks : ({ v with level := senseLevel code } : PortSense).updateRun (c.codeClass code)
      = breakRun { v with level := senseLevel code }) :
    v.sample c code =
      { level := senseLevel code, presence := v.presence, runClass := .noRun, runCount := 0 } := by
  rw [Scanner.codeClass] at breaks
  simp [PortSense.sample, breaks, breakRun]

/-- A sample that belongs to a run makes it as long as `count`, and completes it where that reaches K. -/
theorem PortSense.sample_extends {cls : RunClass} {count : Nat} (run : cls ≠ .noRun)
    (joins : ({ v with level := senseLevel code } : PortSense).updateRun (c.codeClass code)
      = extendRun cls { v with level := senseLevel code })
    (hcount : count = if v.runClass = cls then v.runCount + 1 else 1) :
    v.sample c code =
      if c.debounce ≤ count then
        { level := senseLevel code, presence := cls.leadsTo v.presence, runClass := .noRun, runCount := 0 }
      else { level := senseLevel code, presence := v.presence, runClass := cls, runCount := count } := by
  have ran : extendRun cls { v with level := senseLevel code } =
      { level := senseLevel code, presence := v.presence, runClass := cls, runCount := count } := by
    unfold extendRun
    by_cases same : v.runClass = cls <;> simp [same, hcount]
  rw [Scanner.codeClass] at joins
  simp [PortSense.sample, joins, ran, breakRun, run]

theorem Scanner.codeClass_high (h : c.presentMv ≤ (senseLevel code).natAbs) : c.codeClass code = .high :=
  if_pos h

theorem Scanner.codeClass_low (order : c.absentMv ≤ c.presentMv) (h : (senseLevel code).natAbs < c.absentMv) :
    c.codeClass code = .low := by
  rw [Scanner.codeClass, Scanner.classify, if_neg (by omega), if_pos h]

theorem Scanner.codeClass_mid (above : c.absentMv ≤ (senseLevel code).natAbs)
    (below : (senseLevel code).natAbs < c.presentMv) : c.codeClass code = .mid := by
  rw [Scanner.codeClass, Scanner.classify, if_neg (by omega), if_neg (by omega)]

/-- A HIGH sample of a port that is not PRESENT belongs to a HIGH run, a LOW sample of one that is not ABSENT to a LOW
run (R160). -/
theorem PortSense.updateRun_high (h : v.presence ≠ .present) : v.updateRun .high = extendRun .high v := by
  cases presence : v.presence with
  | present => exact absurd presence h
  | absent | unknown => simp [PortSense.updateRun, presence]

theorem PortSense.updateRun_low (h : v.presence ≠ .absent) : v.updateRun .low = extendRun .low v := by
  cases presence : v.presence with
  | absent => exact absurd presence h
  | present | unknown => simp [PortSense.updateRun, presence]

theorem PortSense.sample_high (high : c.presentMv ≤ (senseLevel code).natAbs) (h : v.presence ≠ .present)
    {count : Nat} (hcount : count = if v.runClass = .high then v.runCount + 1 else 1) :
    v.sample c code =
      if c.debounce ≤ count then
        { level := senseLevel code, presence := .present, runClass := .noRun, runCount := 0 }
      else { level := senseLevel code, presence := v.presence, runClass := .high, runCount := count } :=
  PortSense.sample_extends (by simp)
    (by rw [Scanner.codeClass_high high]; exact PortSense.updateRun_high h) hcount

theorem PortSense.sample_low (order : c.absentMv ≤ c.presentMv) (low : (senseLevel code).natAbs < c.absentMv)
    (h : v.presence ≠ .absent) {count : Nat} (hcount : count = if v.runClass = .low then v.runCount + 1 else 1) :
    v.sample c code =
      if c.debounce ≤ count then
        { level := senseLevel code, presence := .absent, runClass := .noRun, runCount := 0 }
      else { level := senseLevel code, presence := v.presence, runClass := .low, runCount := count } :=
  PortSense.sample_extends (by simp)
    (by rw [Scanner.codeClass_low order low]; exact PortSense.updateRun_low h) hcount

end

/-! ### The conversion and its sample (R157) -/

theorem exec_senseIntervalExpiry (s : State) : exec .senseIntervalExpiry s = .next s.senseExpires := rfl

theorem exec_senseSampleDone (code : BitVec 12) (s : State) :
    exec (.senseSampleDone code) s = .next (s.sampleDone code).watchDrain := rfl

/-- The scanner's state replaced. -/
def State.scanned (s : State) (c : Scanner) : State := { s with scanner := c }

section
variable (s : State) (c : Scanner)

@[simp] theorem State.scanned_port (p : PortId) : (s.scanned c).port p = s.port p := rfl

@[simp] theorem State.scanned_bus : (s.scanned c).bus = s.bus := rfl

@[simp] theorem State.scanned_tsu : (s.scanned c).tsu = s.tsu := rfl

@[simp] theorem State.scanned_attention : (s.scanned c).attention = s.attention := rfl

theorem State.scanned_absenceReported (t : State) (p : PortId) :
    s.absenceReported p (t.scanned c) = s.absenceReported p t := rfl

theorem State.scanned_lineLost (t : State) (p : PortId) (e : QueueEntry) (a : Word) :
    s.lineLost p e a (t.scanned c) = s.lineLost p e a t := rfl

end

/-- The conversion of a port has completed at its tick, or at the clock's where that is later, and its sample stands
(log 4). -/
def State.sensed (s : State) (p : PortId) (w : SenseSweep) (code : BitVec 12) : State :=
  (s.reachTick w.sampleTick).modPort p fun v => { v with sense := v.sense.sample s.scanner code }

section
variable {s : State} {p : PortId} {w : SenseSweep} {code : BitVec 12}

/-- A sample that is due, at a port in the scan. -/
theorem State.sampleDone_due (sweep : s.scanner.sweep = some w) (port : w.port = p.val)
    (inScan : p.val < s.scanner.scanPorts)
    (due : w.startTick + (p.val + 1) * 1475 ≤ (s.time.increments + 1) * 36864) :
    s.sampleDone code = ((s.reachTick w.sampleTick).takeSample p code).scanned
      { ((s.reachTick w.sampleTick).takeSample p code).scanner with sweep := s.scanner.nextPort w } := by
  have now : s.endsNow w.sampleTick = true := by
    refine decide_eq_true ?_
    rw [SenseSweep.sampleTick, port]
    exact due
  have named : Fin.ofNat 24 w.port = p := by
    rw [port]
    exact Fin.ofNat_val_eq_self p
  have scans : w.port < s.scanner.scanPorts := port ▸ inScan
  simp only [State.sampleDone, sweep, now, if_true, State.conversionDone, State.reachTick_scanner, scans, named]
  rfl

theorem State.takeSample_same (same : ((s.port p).sense.sample s.scanner code).presence = (s.port p).sense.presence) :
    (s.reachTick w.sampleTick).takeSample p code = s.sensed p w code := by
  simp [State.takeSample, same, State.sensed]

theorem State.takeSample_changed (on : s.bus.control ≠ .off)
    (changed : ((s.port p).sense.sample s.scanner code).presence ≠ (s.port p).sense.presence) :
    (s.reachTick w.sampleTick).takeSample p code =
      (s.sensed p w code).presenceChanged p ((s.port p).sense.sample s.scanner code).presence := by
  simp [State.takeSample, changed, State.sensed, on]

end

/-! ### The report of a change of presence (R162) -/

section
variable (s : State) (p : PortId) (a : ItemAction)

theorem State.handItem_notices (q : PortId) :
    ((s.handItem p a).port q).status.noticeCount = (s.port q).status.noticeCount
      ∧ ((s.handItem p a).port q).status.lastNotice = (s.port q).status.lastNotice := by
  unfold State.handItem
  split
  · by_cases hq : q = p
    · subst hq
      simp
    · simp [State.port_modPort_ne _ _ hq]
  · exact ⟨rfl, rfl⟩

theorem State.handItem_tx :
    ((s.handItem p a).port p).ca.openTx = (s.port p).ca.openTx
      ∧ ((s.handItem p a).port p).ca.txTaken = (s.port p).ca.txTaken := by
  unfold State.handItem
  split
  · simp [Capture.placeItem]
  · exact ⟨rfl, rfl⟩

end

/-- The sample stands, and the mark and the notice of its change of presence have been handed (R162). -/
def State.presenceReport (s : State) (p : PortId) (w : SenseSweep) (code : BitVec 12) (mark : MarkKind)
    (kind : NoticeKind) : State :=
  ((s.sensed p w code).handItem p (.close [(mark, 0)])).notice p kind

/-- What a reported change of presence leaves, before it reaches the task. -/
structure State.reported (s : State) (p : PortId) (sense : PortSense) (mark : MarkKind) (kind : NoticeKind)
    (t : State) : Prop where
  queue : (t.port p).queue = (s.port p).queue
  exc : (t.port p).exc = (s.port p).exc
  slu : (t.port p).slu = (s.port p).slu
  rf : (t.port p).rf = (s.port p).rf
  sense : (t.port p).sense = sense
  events : (t.port p).ca.events = [EventItem.mk (s.port p).slu.receiveCount s.partTime (.close [(mark, 0)])]
  openTx : (t.port p).ca.openTx = (s.port p).ca.openTx
  txTaken : (t.port p).ca.txTaken = (s.port p).ca.txTaken
  noticeCount : (t.port p).status.noticeCount = (s.port p).status.noticeCount + 1
  lastNotice : (t.port p).status.lastNotice = kind
  attention : t.attention = s.attention ||| 1#10 <<< 2
  tsu : t.tsu = s.tsu
  bus : t.bus = s.bus
  increments : t.time.increments = s.time.increments
  elsewhere : s.sameElsewhere p t

section
variable {s : State} {p : PortId} {w : SenseSweep} {code : BitVec 12} {mark : MarkKind} {kind : NoticeKind}

theorem State.sensed_port (s : State) (p : PortId) (w : SenseSweep) (code : BitVec 12) :
    (s.sensed p w code).port p =
      (s.port p).noting { s.port p with sense := (s.port p).sense.sample s.scanner code } := by
  simp [State.sensed]

theorem State.sensed_port_ne {q : PortId} (h : q ≠ p) : (s.sensed p w code).port q = s.port q := by
  rw [State.sensed, State.port_modPort_ne _ _ h, State.reachTick_port]

theorem State.reported_presenceReport (on : s.bus.control ≠ .off) (inUse : p.val < s.tsu.geometry.portCount)
    (none : (s.port p).ca.events = []) (cause : kind.cause = some .presence) :
    s.reported p ((s.port p).sense.sample s.scanner code) mark kind (s.presenceReport p w code mark kind) := by
  have listening : (s.sensed p w code).listening p = true := State.listening_of on inUse
  have events := State.handItem_events_only (action := .close [(mark, 0)]) listening
    (by simpa [State.sensed_port] using none) rfl
  obtain ⟨count, _⟩ := (s.sensed p w code).handItem_notices p (.close [(mark, 0)]) p
  obtain ⟨openTx, txTaken⟩ := (s.sensed p w code).handItem_tx p (.close [(mark, 0)])
  have now : (s.sensed p w code).partTime = s.partTime := rfl
  unfold State.presenceReport
  refine ⟨?_, ?_, ?_, ?_, ?_, ?_, ?_, ?_, ?_, ?_, ?_, ?_, ?_, ?_, fun q hq => ?_⟩
  · simp [State.port_notice, State.sensed_port]
  · simp [State.port_notice, State.sensed_port]
  · simp [State.port_notice, State.sensed_port]
  · simp [State.port_notice, State.sensed_port]
  · simp [State.port_notice, State.sensed_port]
  · rw [State.port_notice, Port.noting_ca, events, now]
    simp [State.sensed_port]
  · rw [State.port_notice, Port.noting_ca, openTx]
    simp [State.sensed_port]
  · rw [State.port_notice, Port.noting_ca, txTaken]
    simp [State.sensed_port]
  · rw [State.port_notice, Port.noting_status_noticeCount, count]
    simp [State.sensed_port]
  · simp [State.port_notice]
  · rw [State.notice_attention _ _ cause, State.handItem_attention]
    rfl
  · simp [State.sensed]
  · simp [State.sensed]
  · simp [State.sensed]
  · rw [State.notice_port_ne _ _ _ hq, State.handItem_port_ne _ _ _ hq, State.sensed_port_ne hq]

/-- In FIXED a change of presence does not reach the Rate Finder (R103). -/
theorem State.ratePresence_fixed {u : State} (fixed : (u.port p).rf.state = .fixed) (presence : Presence) :
    u.ratePresence p presence = u := by
  cases presence <;> simp [State.ratePresence, fixed]

theorem State.presenceChanged_up (fixed : ((s.presenceReport p w code .presenceUp .presenceUp).port p).rf.state
    = .fixed) :
    (s.sensed p w code).presenceChanged p .present = s.presenceReport p w code .presenceUp .presenceUp :=
  State.ratePresence_fixed fixed .present

theorem State.presenceChanged_down (fixed : ((s.presenceReport p w code .presenceDown .presenceDown).port p).rf.state
    = .fixed) :
    (s.sensed p w code).presenceChanged p .absent =
      (s.presenceReport p w code .presenceDown .presenceDown).losePresence p :=
  congrArg (fun u => State.losePresence u p) (State.ratePresence_fixed fixed .absent)

end

/-! ### A loss of presence and the task that runs (R39, R163) -/

section
variable (s : State) (p : PortId)

theorem State.atPort_stopSending : s.atPort p (s.stopSending p) :=
  (s.atPort_stopFetch p).trans (s.onlyCapture_stopSending p).atPort

theorem State.atPort_cutBreak (code : ResultCode) : s.atPort p (s.cutBreak p code) := by
  unfold State.cutBreak
  dsimp only
  split
  · exact ((s.atPort_modPort p _).trans (State.atPort_handItem _ p _)).trans (State.atPort_endTask _ p _)
  · exact (s.atPort_modPort p _).trans (State.atPort_endTask _ p _)
  all_goals exact s.atPort_endTask p _

theorem State.atPort_stopHead (why : StopCause) : s.atPort p (s.stopHead p why) := by
  unfold State.stopHead
  split
  · exact .refl s p
  · exact s.atPort_endTask p _
  · exact s.atPort_endTask p _
  · exact (s.atPort_modPort p _).trans (State.atPort_endTask _ p _)
  · exact s.atPort_cutBreak p _
  all_goals
    split
    · split
      · exact (s.atPort_stopFetch p).trans (State.atPort_modPort _ p _)
      · exact .refl s p
    · exact (s.atPort_stopSending p).trans (State.atPort_endTask _ p _)

theorem State.atPort_losePresence : s.atPort p (s.losePresence p) := by
  unfold State.losePresence
  split
  · exact .refl s p
  · split
    · exact s.atPort_stopHead p _
    · exact .refl s p

/-- What a stop of the task leaves of a reported change of presence. -/
structure State.reportKept (s : State) (p : PortId) (t : State) : Prop where
  rf : (t.port p).rf = (s.port p).rf
  noticeCount : (t.port p).status.noticeCount = (s.port p).status.noticeCount
  lastNotice : (t.port p).status.lastNotice = (s.port p).status.lastNotice
  attention : t.attention = s.attention

variable {s p} {r t u : State} {e : QueueEntry} {rest : List QueueEntry}

theorem State.reportKept.refl (s : State) (p : PortId) : s.reportKept p s := ⟨rfl, rfl, rfl, rfl⟩

theorem State.reportKept.trans (st : s.reportKept p t) (tu : t.reportKept p u) : s.reportKept p u :=
  ⟨tu.rf.trans st.rf, tu.noticeCount.trans st.noticeCount, tu.lastNotice.trans st.lastNotice,
    tu.attention.trans st.attention⟩

theorem State.reportKept_modPort (s : State) (p : PortId) (f : Port → Port) (rf : (f (s.port p)).rf = (s.port p).rf)
    (status : (f (s.port p)).status = (s.port p).status) : s.reportKept p (s.modPort p f) :=
  ⟨by simp [rf], by simp [status], by simp [status], rfl⟩

theorem State.reportKept_handItem (s : State) (p : PortId) (a : ItemAction) : s.reportKept p (s.handItem p a) :=
  ⟨by simp, (s.handItem_notices p a p).1, (s.handItem_notices p a p).2, by simp⟩

theorem State.reportKept_closeTxRecord (s : State) (p : PortId) : s.reportKept p (s.closeTxRecord p) := by
  unfold State.closeTxRecord
  split
  · exact .refl s p
  · exact (s.reportKept_modPort p _ rfl rfl).trans (State.reportKept_handItem _ p _)

theorem State.reportKept_closeTx (s : State) (p : PortId) : s.reportKept p (s.closeTx p) := by
  unfold State.closeTx
  split
  · exact ((s.reportKept_modPort p _ rfl rfl).trans (State.reportKept_handItem _ p _)).trans
      (State.reportKept_closeTxRecord _ p)
  · exact s.reportKept_closeTxRecord p

theorem State.reportKept_stopFetch (s : State) (p : PortId) : s.reportKept p (s.stopFetch p) :=
  ⟨by simp, by simp [State.stopFetch], by simp [State.stopFetch], by simp⟩

theorem State.reportKept_endTask (queue : (s.port p).queue = [e]) (task : e.kind ≠ .broadcast) (fin : TaskEnd) :
    s.reportKept p (s.endTask p fin) := by
  have left : s.reportKept p (s.headLeft p e) := s.reportKept_modPort p _ rfl rfl
  rw [State.endTask_only queue task]
  exact left.trans ⟨rfl, rfl, rfl, rfl⟩

/-- A reported loss of presence stays reported through what keeps its report. -/
theorem State.absenceReported_of {sense : PortSense} (report : s.reported p sense .presenceDown .presenceDown r)
    (kept : r.reportKept p t) : s.absenceReported p t :=
  ⟨kept.noticeCount.trans report.noticeCount, kept.lastNotice.trans report.lastNotice,
    kept.attention.trans report.attention, kept.rf.trans report.rf⟩

/-- A task that a reported loss of presence ends: from a state that keeps the report, the controller and the TSU. -/
theorem State.lineLost_endTask {sense : PortSense} {a : Word}
    (report : s.reported p sense .presenceDown .presenceDown r) (kept : r.reportKept p u)
    (queue : (u.port p).queue = [e]) (task : e.kind ≠ .broadcast) (exc : (u.port p).exc = (r.port p).exc)
    (tsu : u.tsu = r.tsu) (time : u.time = r.time) :
    s.lineLost p e a (u.endTask p { endWith .lineLost with outcomeA := a }) := by
  obtain ⟨left, idle, handed⟩ := State.taskEnded_endTask (fin := { endWith .lineLost with outcomeA := a }) queue task
    exc (by rw [tsu]) time rfl
  refine ⟨State.absenceReported_of report (kept.trans (State.reportKept_endTask queue task _)), left, idle, ?_⟩
  have now : r.partTime = s.partTime := congrArg (BitVec.ofNat 32) report.increments
  rw [handed, report.tsu, report.exc, now]
  rfl

theorem State.losePresence_spared
    (spared : (s.port p).queue = [] ∨ (s.port p).exc.state = .idle
      ∨ ∃ e rest, (s.port p).queue = e :: rest ∧ e.fields.flags.getLsbD 1 = false) : s.losePresence p = s := by
  rcases spared with h | h | ⟨e, rest, queue, flag⟩
  · simp [State.losePresence, h]
  · unfold State.losePresence
    split
    · rfl
    · simp [Port.started, h]
  · have unasked : e.fields.requirePresence = false := flag
    simp [State.losePresence, queue, unasked]

theorem State.losePresence_stops (queue : (s.port p).queue = e :: rest) (flag : e.fields.flags.getLsbD 1 = true)
    (started : (s.port p).exc.state ≠ .idle) : s.losePresence p = s.stopHead p .lineLost := by
  have begun : (s.port p).started = true := (s.port p).started_iff.2 started
  have asked : e.fields.requirePresence = true := flag
  simp [State.losePresence, queue, begun, asked]

/-- A sending that stops already goes on to the end of its character (R21). -/
theorem State.stopHead_stopping {c : TxCharacter} (why : StopCause)
    (sending : (s.port p).exc.state = .sending ∨ (s.port p).exc.state = .draining)
    (tx : (s.port p).slu.tx = .character c) (stopping : (s.port p).exc.stopping ≠ none) :
    s.stopHead p why = s := by
  have already : (s.port p).exc.stopping.isNone = false := by
    rw [Option.isNone_eq_false_iff, Option.isSome_iff_ne_none]
    exact stopping
  rcases sending with h | h <;> simp [State.stopHead, h, tx, Transmitter.inCharacter, already]

/-- A loss of presence passes by a task that does not run or does not ask for presence, and one that stops already at
the end of its character. -/
theorem State.losePresence_same
    (spared : (s.port p).queue = [] ∨ (s.port p).exc.state = .idle
      ∨ ∃ e rest, (s.port p).queue = e :: rest ∧ (e.fields.flags.getLsbD 1 = false
        ∨ ((s.port p).exc.state = .sending ∨ (s.port p).exc.state = .draining)
          ∧ (∃ c, (s.port p).slu.tx = .character c) ∧ (s.port p).exc.stopping ≠ none)) : s.losePresence p = s := by
  rcases spared with empty | idle | ⟨e, rest, queue, flag | ⟨sending, ⟨c, tx⟩, stopping⟩⟩
  · exact State.losePresence_spared (.inl empty)
  · exact State.losePresence_spared (.inr (.inl idle))
  · exact State.losePresence_spared (.inr (.inr ⟨e, rest, queue, flag⟩))
  · cases flag : e.fields.flags.getLsbD 1 with
    | false => exact State.losePresence_spared (.inr (.inr ⟨e, rest, queue, flag⟩))
    | true =>
      rw [State.losePresence_stops queue flag (by rcases sending with h | h <;> simp [h])]
      exact State.stopHead_stopping .lineLost sending tx stopping

section
variable {sense : PortSense}

theorem State.loss_waiting (report : s.reported p sense .presenceDown .presenceDown r) (queue : (r.port p).queue = [e])
    (task : e.kind ≠ .broadcast) (state : (r.port p).exc.state = .rateWait ∨ (r.port p).exc.state = .pausing) :
    s.lineLost p e 0 (r.stopHead p .lineLost) ∧ ((r.stopHead p .lineLost).port p).slu = (s.port p).slu
      ∧ ((r.stopHead p .lineLost).port p).ca = (r.port p).ca := by
  rw [State.stopHead_waiting state]
  refine ⟨State.lineLost_endTask report (.refl r p) queue task rfl rfl rfl, ?_, State.endTask_ca queue task _⟩
  rw [State.endTask_slu queue task, report.slu]

theorem State.loss_awaiting (report : s.reported p sense .presenceDown .presenceDown r)
    (queue : (r.port p).queue = [e]) (task : e.kind ≠ .broadcast) (state : (r.port p).exc.state = .awaiting) :
    s.lineLost p e 0 (r.stopHead p .lineLost) ∧ ((r.stopHead p .lineLost).port p).slu = (s.port p).slu
      ∧ ((r.stopHead p .lineLost).port p).ca = (r.port p).ca
      ∧ ((r.stopHead p .lineLost).port p).pm.await = none := by
  have queued : ((r.disarm p).port p).queue = [e] := by simpa using queue
  have kept : r.reportKept p (r.disarm p) := r.reportKept_modPort p _ rfl rfl
  rw [State.stopHead_awaiting state]
  refine ⟨State.lineLost_endTask report kept queued task (by simp) rfl rfl, ?_, ?_, ?_⟩
  · simp [State.endTask_slu queued task, report.slu]
  · simp [State.endTask_ca queued task]
  · simp [State.endTask_pm queued task, PortMatch.disarmAwait_await]

theorem State.loss_sending (report : s.reported p sense .presenceDown .presenceDown r) (queue : (r.port p).queue = [e])
    (task : e.kind ≠ .broadcast) (state : (r.port p).exc.state = .sending ∨ (r.port p).exc.state = .draining)
    (tx : ∀ c, (r.port p).slu.tx ≠ .character c) :
    s.lineLost p e 0 (r.stopHead p .lineLost)
      ∧ ((r.stopHead p .lineLost).port p).slu = { (s.port p).slu with staging := [], textRead := none }
      ∧ ((r.port p).ca.openTx = none → (r.port p).ca.txTaken = false →
        ((r.stopHead p .lineLost).port p).ca = (r.port p).ca) := by
  have stopped := r.onlyCapture_stopSending p
  have queued : ((r.stopSending p).port p).queue = [e] := by rw [stopped.queue]; simpa using queue
  have kept : r.reportKept p (r.stopSending p) :=
    (r.reportKept_stopFetch p).trans (State.reportKept_closeTx _ p)
  rw [State.stopHead_atOnce .lineLost state tx]
  refine ⟨State.lineLost_endTask report kept queued task ?_ ?_ ?_, ?_, fun openTx txTaken => ?_⟩
  · rw [stopped.exc]
    simp
  · rw [stopped.tsu, State.stopFetch_tsu]
  · rw [stopped.time, State.stopFetch_time]
  · rw [State.endTask_slu queued task, stopped.slu]
    simp [report.slu]
  · have unclosed : r.stopSending p = r.stopFetch p := by
      rw [State.stopSending, State.closeTx_untaken (by simpa using txTaken),
        State.closeTxRecord_none (by simpa using openTx)]
    rw [State.endTask_ca queued task, unclosed]
    simp

/-- An ordinary item joins the event list of a listening port behind what waits there, where that leaves room. -/
theorem State.handItem_events_behind {action : ItemAction} (listening : s.listening p = true)
    (ordinary : action.always = false) (room : (s.port p).ca.events.length < 16) :
    ((s.handItem p action).port p).ca.events = (s.port p).ca.events ++
      [{ position := (s.port p).slu.receiveCount, time := s.partTime, action := action }] := by
  have fits : (s.port p).ca.ordinaryItems < Config.eventCapacity := (List.length_filter_le _ _).trans_lt room
  rw [State.handItem_listening listening, State.port_modPort_same, Port.noting_ca]
  simp only [Capture.placeItem, ordinary, fits, if_true]
  rfl

/-- A break at SPACE is cut, with its mark behind the change of presence (R40, R84). -/
theorem State.loss_space {tm : Timer} (report : s.reported p sense .presenceDown .presenceDown r)
    (listening : r.listening p = true) (queue : (r.port p).queue = [e]) (task : e.kind ≠ .broadcast)
    (state : (r.port p).exc.state = .breaking) (tx : (r.port p).slu.tx = .breakSpace)
    (timer : (r.port p).exc.timer = some tm) :
    s.lineLost p e (s.measured tm.armedAt) (r.stopHead p .lineLost)
      ∧ ((r.stopHead p .lineLost).port p).slu = { (s.port p).slu with tx := .free }
      ∧ ((r.stopHead p .lineLost).port p).ca.events = [s.presenceDownItem p,
        { position := (s.port p).slu.receiveCount, time := s.partTime,
          action := .close [(.breakTx, s.measured tm.armedAt)] }] := by
  have held : r.measured tm.armedAt = s.measured tm.armedAt := by rw [State.measured, report.increments]; rfl
  have now : (r.lineFreed p).partTime = s.partTime := congrArg (BitVec.ofNat 32) report.increments
  have freed : r.reportKept p (r.lineFreed p) := r.reportKept_modPort p _ rfl rfl
  have handed := (r.lineFreed p).onlyCapture_handItem p (.close [(.breakTx, s.measured tm.armedAt)])
  have queued := handed.queue.trans (show ((r.lineFreed p).port p).queue = [e] by simpa using queue)
  rw [State.stopHead_breaking state, State.cutBreak_space tx timer, held]
  refine ⟨State.lineLost_endTask report (freed.trans (State.reportKept_handItem _ p _)) queued task ?_ ?_ ?_, ?_, ?_⟩
  · rw [handed.exc]
    simp
  · rw [handed.tsu, State.lineFreed_tsu]
  · rw [handed.time]
    rfl
  · rw [State.endTask_slu queued task, handed.slu]
    simp [report.slu]
  · rw [State.endTask_ca queued task, State.handItem_events_behind (s := r.lineFreed p) listening rfl
      (by simp [report.events]), now]
    simp [report.events, report.slu, State.presenceDownItem]

theorem State.loss_guard {d : Nat} (report : s.reported p sense .presenceDown .presenceDown r)
    (queue : (r.port p).queue = [e]) (task : e.kind ≠ .broadcast) (state : (r.port p).exc.state = .breaking)
    (tx : (r.port p).slu.tx = .breakGuard d) :
    s.lineLost p e (BitVec.ofNat 32 (breakMs e.fields.paramA)) (r.stopHead p .lineLost)
      ∧ ((r.stopHead p .lineLost).port p).slu = { (s.port p).slu with tx := .free }
      ∧ ((r.stopHead p .lineLost).port p).ca = (r.port p).ca := by
  have queued : ((r.lineFreed p).port p).queue = [e] := by simpa using queue
  have kept : r.reportKept p (r.lineFreed p) := r.reportKept_modPort p _ rfl rfl
  rw [State.stopHead_breaking state, State.cutBreak_guard tx, Port.headBreakMs_cons queue]
  refine ⟨State.lineLost_endTask report kept queued task (by simp) rfl rfl, ?_, ?_⟩
  · simp [State.endTask_slu queued task, report.slu]
  · simp [State.endTask_ca queued task]

theorem State.loss_unbegun {d : Nat} {b : Bool} (report : s.reported p sense .presenceDown .presenceDown r)
    (queue : (r.port p).queue = [e]) (task : e.kind ≠ .broadcast) (state : (r.port p).exc.state = .breaking)
    (tx : (r.port p).slu.tx = .gap d b ∨ (r.port p).slu.tx = .pause d) :
    s.lineLost p e 0 (r.stopHead p .lineLost) ∧ ((r.stopHead p .lineLost).port p).slu = (s.port p).slu
      ∧ ((r.stopHead p .lineLost).port p).ca = (r.port p).ca := by
  rw [State.stopHead_breaking state, State.cutBreak_unbegun tx]
  refine ⟨State.lineLost_endTask report (.refl r p) queue task rfl rfl rfl, ?_, State.endTask_ca queue task _⟩
  rw [State.endTask_slu queue task, report.slu]

/-- A sending with a character on the line goes on to its end (R39). -/
theorem State.loss_inCharacter {c : TxCharacter} (report : s.reported p sense .presenceDown .presenceDown r)
    (state : (r.port p).exc.state = .sending ∨ (r.port p).exc.state = .draining)
    (tx : (r.port p).slu.tx = .character c) (going : (r.port p).exc.stopping = none) :
    s.absenceReported p (r.stopHead p .lineLost)
      ∧ ((r.stopHead p .lineLost).port p).ca = (r.port p).ca
      ∧ ((r.stopHead p .lineLost).port p).exc = { (s.port p).exc with stopping := some .lineLost }
      ∧ ((r.stopHead p .lineLost).port p).slu = { (s.port p).slu with staging := [], textRead := none }
      ∧ ((r.stopHead p .lineLost).port p).queue = (s.port p).queue ∧ (r.stopHead p .lineLost).tsu = s.tsu := by
  rw [State.stopHead_inCharacter .lineLost state tx going]
  refine ⟨State.absenceReported_of report
    ((r.reportKept_stopFetch p).trans (State.reportKept_modPort _ p _ rfl rfl)), ?_, ?_, ?_, ?_, ?_⟩
  · simp
  · simp [report.exc]
  · simp [report.slu]
  · simp [report.queue]
  · simp [report.tsu]

end

end

/-! ### A change of presence in RUNNING (R162) -/

/-- In RUNNING a sample of port `p`, which is in use with its rate FIXED and no event waiting, is due. -/
structure State.sampleMet (s : State) (p : PortId) (w : SenseSweep) : Prop where
  sweep : s.scanner.sweep = some w
  port : w.port = p.val
  inScan : p.val < s.scanner.scanPorts
  inUse : p.val < s.tsu.geometry.portCount
  due : w.startTick + (p.val + 1) * 1475 ≤ (s.time.increments + 1) * 36864
  running : s.bus.control = .running
  fixed : (s.port p).rf.state = .fixed
  none : (s.port p).ca.events = []

section
variable {s : State} {p : PortId} {w : SenseSweep} {code : BitVec 12}

theorem State.sampleMet.on (met : s.sampleMet p w) : s.bus.control ≠ .off := by simp [met.running]

/-- What a sample leaves in RUNNING, where no drain is watched. -/
theorem State.sampleMet.exec_eq {t : State} (met : s.sampleMet p w)
    (taken : (s.reachTick w.sampleTick).takeSample p code = t) (bus : t.bus = s.bus) :
    ∃ c, exec (.senseSampleDone code) s = .next (t.scanned c) := by
  subst taken
  rw [exec_senseSampleDone, State.sampleDone_due met.sweep met.port met.inScan met.due,
    State.watchDrain_same (by rw [State.scanned_bus, bus, met.running]; simp)]
  exact ⟨_, rfl⟩

theorem State.sampleMet.up (met : s.sampleMet p w) (other : (s.port p).sense.presence ≠ .present)
    (up : ((s.port p).sense.sample s.scanner code).presence = .present) :
    ∃ r c, exec (.senseSampleDone code) s = .next (r.scanned c)
      ∧ s.reported p ((s.port p).sense.sample s.scanner code) .presenceUp .presenceUp r := by
  have report := State.reported_presenceReport (w := w) (code := code) (mark := .presenceUp) (kind := .presenceUp)
    met.on met.inUse met.none rfl
  have taken : (s.reachTick w.sampleTick).takeSample p code = s.presenceReport p w code .presenceUp .presenceUp := by
    rw [State.takeSample_changed met.on (by rw [up]; exact other.symm), up,
      State.presenceChanged_up (by rw [report.rf]; exact met.fixed)]
  obtain ⟨c, done⟩ := met.exec_eq taken report.bus
  exact ⟨_, c, done, report⟩

theorem State.sampleMet.down (met : s.sampleMet p w) (other : (s.port p).sense.presence ≠ .absent)
    (down : ((s.port p).sense.sample s.scanner code).presence = .absent) :
    ∃ r c, exec (.senseSampleDone code) s = .next ((r.losePresence p).scanned c)
      ∧ s.reported p ((s.port p).sense.sample s.scanner code) .presenceDown .presenceDown r := by
  have report := State.reported_presenceReport (w := w) (code := code) (mark := .presenceDown) (kind := .presenceDown)
    met.on met.inUse met.none rfl
  have taken : (s.reachTick w.sampleTick).takeSample p code =
      (s.presenceReport p w code .presenceDown .presenceDown).losePresence p := by
    rw [State.takeSample_changed met.on (by rw [down]; exact other.symm), down,
      State.presenceChanged_down (by rw [report.rf]; exact met.fixed)]
  obtain ⟨c, done⟩ := met.exec_eq taken ((State.atPort_losePresence _ p).bus.trans report.bus)
  exact ⟨_, c, done, report⟩

end

/-- Settles O53: the samples by class and run; a change of presence by its report, and a loss by what the port's task
was doing. -/
theorem senseSamplesFollowTheirRules : Obligations.SenseSamplesFollowTheirRules := by
  refine ⟨?_, ?_, ?_, ?_, ?_⟩
  · intro s tm idle timer due
    have expires : s.senseExpires = s.startSenseSweep := by
      simp [State.senseExpires, idle, timer, State.expired_some, due]
    rw [exec_senseIntervalExpiry, expires]
    rfl
  · rintro c v code mv rfl order
    refine ⟨v.sample_level c code, fun above below => ?_, fun high present => ?_, fun low absent => ?_,
      fun high other fresh => ?_, fun high other run => ?_, fun low other fresh => ?_, fun low other run => ?_⟩
    · exact PortSense.sample_breaks (by rw [Scanner.codeClass_mid above below]; rfl)
    · rw [← present]
      exact PortSense.sample_breaks (by rw [Scanner.codeClass_high high]; simp [PortSense.updateRun, present])
    · rw [← absent]
      exact PortSense.sample_breaks (by rw [Scanner.codeClass_low order low]; simp [PortSense.updateRun, absent])
    · exact PortSense.sample_high high other (by rw [if_neg fresh])
    · exact PortSense.sample_high high other (by rw [if_pos run])
    · exact PortSense.sample_low order low other (by rw [if_neg fresh])
    · exact PortSense.sample_low order low other (by rw [if_pos run])
  · intro s w p code sweep port inScan due control same
    have tick : w.sampleTick = w.startTick + (p.val + 1) * 1475 := by rw [SenseSweep.sampleTick, port]
    refine ⟨_, exec_senseSampleDone code s, ?_⟩
    rw [State.sampleDone_due sweep port inScan due, State.takeSample_same same,
      State.watchDrain_same (by exact control)]
    refine ⟨?_, ?_, ?_, ?_, ?_, ?_, fun q hq => State.sensed_port_ne hq, rfl, rfl, rfl⟩
    · simp [State.sensed_port]
    · simp [State.sensed_port]
    · simp [State.sensed_port]
    · simp [State.sensed_port]
    · rw [← port]
      rfl
    · rw [← tick]
      rfl
  · intro s w p code sweep port inScan inUse due running fixed none other up
    obtain ⟨r, c, done, report⟩ :=
      State.sampleMet.up ⟨sweep, port, inScan, inUse, due, running, fixed, none⟩ other up
    exact ⟨_, done, report.sense, report.events, report.noticeCount, report.lastNotice, report.attention,
      report.queue, report.exc, report.elsewhere, report.tsu⟩
  · intro s w p code sweep port inScan inUse due running fixed none other down
    have met : s.sampleMet p w := ⟨sweep, port, inScan, inUse, due, running, fixed, none⟩
    obtain ⟨r, c, done, report⟩ := met.down other down
    have lost := r.atPort_losePresence p
    have listening : r.listening p = true :=
      State.listening_of (by rw [report.bus]; exact met.on) (by rw [report.tsu]; exact inUse)
    have stops {e : QueueEntry} {rest : List QueueEntry} (queue : (s.port p).queue = e :: rest)
        (flag : e.fields.flags.getLsbD 1 = true) (started : (s.port p).exc.state ≠ .idle) :
        r.losePresence p = r.stopHead p .lineLost :=
      State.losePresence_stops (report.queue.trans queue) flag (by rw [report.exc]; exact started)
    refine ⟨_, done, ?_⟩
    simp only [State.scanned_port, State.scanned_attention, State.scanned_tsu, State.scanned_absenceReported,
      State.scanned_lineLost]
    refine ⟨lost.sense.trans report.sense, report.elsewhere.trans lost.elsewhere,
      lost.attention 2 (by rw [report.attention]; simp), fun spared => ?_,
      fun e rest c queue flag state tx going => ?_, fun e queue flag task => ⟨fun state => ?_, fun state tx => ?_,
        fun state => ?_⟩⟩
    · have same : r.losePresence p = r := by
        refine State.losePresence_same ?_
        rw [report.queue, report.exc, report.slu]
        exact spared
      rw [same]
      exact ⟨State.absenceReported_of report (.refl r p), report.events, report.queue, report.exc, report.slu,
        report.tsu⟩
    · rw [stops queue flag (by rcases state with h | h <;> simp [h])]
      rw [← report.exc] at state going
      rw [← report.slu] at tx
      obtain ⟨absent, ca, exc, slu, kept, tsu⟩ := State.loss_inCharacter report state tx going
      exact ⟨absent, by rw [ca]; exact report.events, exc, slu, kept.trans queue, tsu⟩
    · rw [stops queue flag (by rcases state with h | h | h <;> simp [h])]
      rw [← report.queue] at queue
      rw [← report.exc] at state
      by_cases awaiting : (r.port p).exc.state = .awaiting
      · obtain ⟨lost, slu, ca, await⟩ := State.loss_awaiting report queue task awaiting
        exact ⟨lost, by rw [ca]; exact report.events, slu, fun _ => await⟩
      · obtain ⟨lost, slu, ca⟩ := State.loss_waiting report queue task (by simpa [awaiting] using state)
        exact ⟨lost, by rw [ca]; exact report.events, slu, fun h => absurd (report.exc ▸ h) awaiting⟩
    · rw [stops queue flag (by rcases state with h | h <;> simp [h])]
      rw [← report.queue] at queue
      rw [← report.exc] at state
      rw [← report.slu] at tx
      obtain ⟨lost, slu, ca⟩ := State.loss_sending report queue task state tx
      refine ⟨lost, slu, fun openTx txTaken => ?_⟩
      rw [ca (report.openTx.trans openTx) (report.txTaken.trans txTaken)]
      exact report.events
    · rw [stops queue flag (by simp [state])]
      rw [← report.queue] at queue
      rw [← report.exc] at state
      have tx {x : Transmitter} (h : (s.port p).slu.tx = x) : (r.port p).slu.tx = x := by rw [report.slu, h]
      refine ⟨fun tm held space timer hheld => ?_, fun d guard => ?_, fun d b unbegun => ?_⟩
      · subst hheld
        exact State.loss_space report listening queue task state (tx space) (by rw [report.exc]; exact timer)
      · obtain ⟨lost, slu, ca⟩ := State.loss_guard report queue task state (tx guard)
        exact ⟨lost, slu, by rw [ca]; exact report.events⟩
      · obtain ⟨lost, slu, ca⟩ := State.loss_unbegun report queue task state (unbegun.imp tx tx)
        exact ⟨lost, slu, by rw [ca]; exact report.events⟩

end Sys2Proof.Machine
end

section
/-! SUPPORT. What lasts of a port: its guard flags and its changed flag. One relation between the part before and
after, and its rules for the shared operations on the state. -/

namespace Sys2Proof.Machine

/-! ### Flags that last (R60, R146) -/

/-- What the two flags of a port keep: the guard flags and the changed flag stay set (R60), and where a published field
differs the changed flag is set (R146). -/
structure Port.flagsLast (v w : Port) : Prop where
  guard : ∀ i, v.guard.getLsbD i = true → w.guard.getLsbD i = true
  changed : v.status.changed = true → w.status.changed = true
  noted : w.published ≠ v.published → w.status.changed = true

theorem Port.flagsLast.refl (v : Port) : v.flagsLast v := ⟨fun _ h => h, id, fun h => absurd rfl h⟩

theorem Port.flagsLast.trans {u v w : Port} (uv : u.flagsLast v) (vw : v.flagsLast w) : u.flagsLast w := by
  refine ⟨fun i h => vw.guard i (uv.guard i h), fun h => vw.changed (uv.changed h), fun differs => ?_⟩
  by_cases same : w.published = v.published
  · exact vw.changed (uv.noted (same ▸ differs))
  · exact vw.noted same

/-- The two flags of a port. -/
def Port.flags (v : Port) : BitVec 3 × Bool := (v.guard, v.status.changed)

/-- A noted change lets the flags last where the change itself clears none (R146). -/
theorem Port.flagsLast_noting {v w : Port} (guard : ∀ i, v.guard.getLsbD i = true → w.guard.getLsbD i = true)
    (changed : v.status.changed = true → w.status.changed = true) : v.flagsLast (v.noting w) := by
  refine ⟨by simpa using guard, fun h => ?_, fun h => Port.noting_changed (by simpa using h)⟩
  rcases Port.noting_eq v w with eq | eq <;> rw [eq]
  exact changed h

/-- The flags of every port last. -/
def State.flagsLast (s t : State) : Prop := ∀ p, (s.port p).flagsLast (t.port p)

theorem State.flagsLast.refl (s : State) : s.flagsLast s := fun p => .refl (s.port p)

namespace State.flagsLast

section
variable {s t u : State} (h : s.flagsLast t)
include h

/-! ### The shared operations -/

/-- A choice between two outcomes that both let the flags last. -/
theorem ite {c : Prop} {_ : Decidable c} (other : s.flagsLast u) : s.flagsLast (if c then t else u) := by
  split
  · exact h
  · exact other

/-- What differs beside the ports has no part in the flags. -/
theorem of_ports (ports : u.ports = t.ports) : s.flagsLast u := by
  intro p
  have same : u.port p = t.port p := by rw [State.port, State.port, ports]
  rw [same]
  exact h p

theorem setPort {p : PortId} {v : Port} (lasts : (t.port p).flagsLast v) : s.flagsLast (t.setPort p v) := by
  intro q
  by_cases hq : q = p
  · subst hq
    rw [State.port_setPort_same]
    exact (h q).trans lasts
  · rw [t.port_setPort_ne v hq]
    exact h q

/-- A noted change of one port that leaves both flags as they are; `Port.flags` stands unfolded, so that `rfl` looks at
the flags alone. -/
theorem modPort {p : PortId} {f : Port → Port} (same : ((f (t.port p)).guard, (f (t.port p)).status.changed)
    = ((t.port p).guard, (t.port p).status.changed)) : s.flagsLast (t.modPort p f) := by
  obtain ⟨guard, changed⟩ := Prod.mk.inj same
  exact h.setPort (Port.flagsLast_noting (by simp [guard]) (by simp [changed]))

/-- A noted change of every port that clears neither flag. -/
theorem modPorts {f : PortId → Port → Port} (guard : ∀ p, (f p (t.port p)).guard = (t.port p).guard)
    (changed : ∀ p, (t.port p).status.changed = true → (f p (t.port p)).status.changed = true) :
    s.flagsLast (t.modPorts f) := by
  intro p
  rw [State.port_modPorts]
  exact (h p).trans (Port.flagsLast_noting (by simp [guard p]) (changed p))

theorem forPorts {f : PortId → State → State} (keeps : ∀ p u, s.flagsLast u → s.flagsLast (f p u)) :
    s.flagsLast (t.forPorts f) := State.forPorts_keeps keeps h

theorem raiseBits (bits : BitVec 10) : s.flagsLast (t.raiseBits bits) := h.of_ports (t.raiseBits_ports bits)

theorem raise (c : Cause) : s.flagsLast (t.raise c) := h.raiseBits c.bit

theorem notice (p : PortId) (kind : NoticeKind) : s.flagsLast (t.notice p kind) := by
  unfold State.notice
  dsimp only
  split
  · exact h.modPort (by rfl)
  · exact (h.modPort (by rfl)).raise _

theorem discardRead (read : Option Nat) : s.flagsLast (t.discardRead read) := h.of_ports (by simp)

end

end State.flagsLast

end Sys2Proof.Machine
end

section
/-! SUPPORT. Every operation of a port's blocks lets the flags last: each lemma follows its operation part by part. -/

namespace Sys2Proof.Machine

/-! ### Changes of a port that have no part in the flags -/

theorem Port.flags_storeByte (v : Port) (e : FifoEntry) : (v.storeByte e).flags = v.flags := by
  unfold Port.storeByte
  split <;> rfl

theorem Port.flags_freezeByte (v : Port) (sequence now : Word) (trigger : Option PatternId) :
    (v.freezeByte sequence now trigger).flags = v.flags := by
  unfold Port.freezeByte
  split
  · split
    · dsimp only
      split <;> rfl
    · split
      · rfl
      · dsimp only
        split <;> rfl
    all_goals rfl
  · rfl

theorem Port.flags_loseRun (v : Port) (run : LossRun) (now : Word) : (v.loseRun run now).flags = v.flags := by
  unfold Port.loseRun
  split
  · rfl
  · split
    · rfl
    · dsimp only
      split <;> rfl

theorem Port.flags_meetByte (v : Port) (e : FifoEntry) (now : Word) : (v.meetByte e now).1.flags = v.flags := by
  unfold Port.meetByte
  dsimp only
  split
  · rfl
  · split
    · rfl
    · split
      · rfl
      · split <;> exact Port.flags_freezeByte ..

namespace State.flagsLast

section
variable {s t : State} (h : s.flagsLast t)
include h

/-! ### The Pattern Matcher -/

theorem watchNotices (p : PortId) (sequence : Word) (watched : List PatternId) :
    s.flagsLast (t.watchNotices p sequence watched) := by
  induction watched generalizing t with
  | nil => exact h
  | cons i rest ih => exact ih ((h.modPort (by rfl)).notice p .watch)

theorem takeByte (p : PortId) (b : Byte) (sequence : Word) : s.flagsLast (t.takeByte p b sequence).1 := by
  unfold State.takeByte
  exact State.flagsLast.watchNotices (h.modPort (by rfl)) p sequence _

theorem setPattern (i : PatternId) (contents : Option (List Element)) : s.flagsLast (t.setPattern i contents) := by
  have entered : s.flagsLast { t with patterns := t.patterns.set i contents } := h
  unfold State.setPattern
  exact entered.modPorts (fun _ => rfl) fun _ => id

/-! ### The Capture Assembler -/

theorem handItem (p : PortId) (a : ItemAction) : s.flagsLast (t.handItem p a) := .ite (h.modPort (by rfl)) h

theorem closeTxRecord (p : PortId) : s.flagsLast (t.closeTxRecord p) := by
  unfold State.closeTxRecord
  split
  · exact h
  · exact (h.modPort (by rfl)).handItem p _

theorem closeTx (p : PortId) : s.flagsLast (t.closeTx p) :=
  .ite (((h.modPort (by rfl)).handItem p _).closeTxRecord p) (h.closeTxRecord p)

theorem logTxByte (p : PortId) (slot : Nat) (byte : Byte) (startTime : Word) :
    s.flagsLast (t.logTxByte p slot byte startTime) := by
  unfold State.logTxByte
  refine .ite h ?_
  split
  · exact (h.handItem p _).modPort (by rfl)
  · exact .ite ((h.modPort (by rfl)).closeTxRecord p) (h.modPort (by rfl))

theorem discardUnit (p : PortId) (u : WriteUnit) : s.flagsLast (t.discardUnit p u) :=
  .ite (((h.modPort (by rfl)).modPort (by rfl)).notice p .full) (h.modPort (by rfl))

theorem testUnit (p : PortId) (u : WriteUnit) : s.flagsLast (t.testUnit p u) :=
  .ite (h.modPort (by rfl)) (.ite (h.discardUnit p u) (h.modPort (by rfl)))

theorem takeInHand (p : PortId) (record : Option CaptureRecord) (joinGap : Bool) :
    s.flagsLast (t.takeInHand p record joinGap) := by
  unfold State.takeInHand
  refine .ite h ?_
  split
  · exact h
  · exact h.modPort (by rfl)
  · exact h.testUnit p _

theorem captureStep (p : PortId) (step : CaptureStep) : s.flagsLast (t.captureStep p step) := by
  cases step with
  | write record joinGap => exact h.takeInHand p _ _
  | writeGap => exact h.takeInHand p _ _
  | loseRun run met => exact h.modPort (Port.flags_loseRun ..)

theorem runAgenda (p : PortId) (steps : List CaptureStep) : s.flagsLast (t.runAgenda p steps) :=
  State.runAgenda_keeps (P := s.flagsLast) (fun _ c hu => hu.captureStep p c) (fun _ _ hu => hu.modPort (by rfl))
    steps h

theorem resumeAgenda (p : PortId) : s.flagsLast (t.resumeAgenda p) := h.runAgenda p _

theorem retestUnit (p : PortId) : s.flagsLast (t.retestUnit p) := by
  unfold State.retestUnit
  split
  · exact h
  · exact .ite h (.ite (h.modPort (by rfl)) ((h.discardUnit p _).resumeAgenda p))

theorem meetItem (p : PortId) (it : EventItem) : s.flagsLast (t.meetItem p it) := by
  refine State.flagsLast.runAgenda ?_ p _
  split
  · exact (h.modPort (by rfl)).modPort (by rfl)
  · exact ((h.modPort (by rfl)).modPort (by rfl)).notice p .frozen
  all_goals exact h.modPort (by rfl)

theorem meetInput (p : PortId) (input : CaptureInput) : s.flagsLast (t.meetInput p input) := by
  cases input with
  | byte e => exact (h.modPort (Port.flags_meetByte ..)).runAgenda p _
  | run r => exact (h.modPort (by rfl)).runAgenda p _
  | item it => exact h.meetItem p it

theorem thaw (p : PortId) : s.flagsLast (t.thaw p).1 := by
  unfold State.thaw
  dsimp only
  split
  · exact h
  · exact (h.modPort (by rfl)).modPort (by rfl)
  · exact (h.modPort (by rfl)).handItem p _

/-! ### The transmitter (R72 to R84) -/

theorem handByte (p : PortId) : s.flagsLast (t.handByte p) := by
  unfold State.handByte
  split
  · exact h
  · exact h.modPort (by rfl)

theorem serveTransmitter (p : PortId) : s.flagsLast (t.serveTransmitter p) := by
  rcases t.serveTransmitter_cases p with eq | eq | eq <;> rw [eq]
  · exact h
  · exact h.handByte p
  · exact h.modPort (by rfl)

theorem stopFetch (p : PortId) : s.flagsLast (t.stopFetch p) := (h.discardRead _).modPort (by rfl)

theorem textArrives (p : PortId) (read : Nat) (bytes : List Byte) : s.flagsLast (t.textArrives p read bytes) :=
  .ite ((h.modPort (by rfl)).serveTransmitter p) h

/-! ### The Rate Finder -/

theorem seek (p : PortId) (attempts : Nat) : s.flagsLast (t.seek p attempts) :=
  (State.flagsLast.ite (h.of_ports t.drawn_ports) h).modPort (by rfl)

theorem enterSeeking (p : PortId) (attempts : Nat) (marks : List (MarkKind × Word)) :
    s.flagsLast (t.enterSeeking p attempts marks) := ((h.seek p attempts).modPort (by rfl)).handItem p _

theorem enterVerifying (p : PortId) (period : Nat) : s.flagsLast (t.enterVerifying p period) :=
  (h.modPort (by rfl)).handItem p _

theorem judgeInterval (p : PortId) (length : Nat) : s.flagsLast (t.judgeInterval p length) := by
  unfold State.judgeInterval
  extract_lets ended samples sampled
  have endedLasts : s.flagsLast ended := h.modPort (by rfl)
  have sampledLasts : s.flagsLast sampled := endedLasts.modPort (by rfl)
  exact .ite (.ite (sampledLasts.enterVerifying p _) sampledLasts) endedLasts

theorem lockRate (p : PortId) : s.flagsLast (t.lockRate p) :=
  ((h.modPort (by rfl)).handItem p _).notice p .rateLocked

theorem failRate (p : PortId) : s.flagsLast (t.failRate p) :=
  ((h.modPort (by rfl)).handItem p _).notice p .rateFailed

theorem rejectRate (p : PortId) : s.flagsLast (t.rejectRate p) := .ite (h.enterSeeking p _ _) (h.failRate p)

theorem verifyByte (p : PortId) (framing : Bool) : s.flagsLast (t.verifyByte p framing) := by
  unfold State.verifyByte
  refine .ite ?_ h
  extract_lets counted
  have lasts : s.flagsLast counted := h.modPort (by rfl)
  exact .ite lasts (.ite (lasts.lockRate p) (lasts.rejectRate p))

theorem ratePresence (p : PortId) (presence : Presence) : s.flagsLast (t.ratePresence p presence) := by
  unfold State.ratePresence
  split
  · exact h.modPort (by rfl)
  · exact h.enterSeeking p _ _
  · exact h.enterSeeking p _ _
  · exact h.enterSeeking p _ _
  all_goals exact h

end

end State.flagsLast

end Sys2Proof.Machine
end

section
/-! SUPPORT. The Exchange Controller, the receiver and the Task Sweep Unit let the flags last: a GUARD alone changes the
guard flags, and it only adds to them (R61). -/

namespace Sys2Proof.Machine

namespace State.flagsLast

section
variable {s t : State} (h : s.flagsLast t)
include h

/-! ### Ends and working states -/

theorem handCompletion (c : Completion) : s.flagsLast (t.handCompletion c) := h.of_ports (t.handCompletion_ports c)

theorem shareEnds (p : PortId) (slot : Nat) (set : ShareSet) (start : Word) (characters : Nat) (fault : Bool) :
    s.flagsLast (t.shareEnds p slot set start characters fault) := h.of_ports (State.shareEnds_ports ..)

theorem markCancelled (slot : Nat) : s.flagsLast (t.markCancelled slot) := h

theorem finishHead (p : PortId) (fin : TaskEnd) : s.flagsLast (t.finishHead p fin) := by
  unfold State.finishHead
  split
  · exact h
  · exact .ite ((h.modPort (by rfl)).shareEnds p _ _ _ _ _) ((h.modPort (by rfl)).handCompletion _)

theorem enterSending (p : PortId) : s.flagsLast (t.enterSending p) := (h.stopFetch p).modPort (by rfl)

theorem enterAwaiting (p : PortId) (f : TaskFields) : s.flagsLast (t.enterAwaiting p f) := h.modPort (by rfl)

theorem beginAttempt (p : PortId) (f : TaskFields) : s.flagsLast (t.beginAttempt p f) :=
  .ite ((h.modPort (by rfl)).enterSending p) ((h.modPort (by rfl)).enterAwaiting p f)

theorem enterBreaking (p : PortId) : s.flagsLast (t.enterBreaking p) := (h.modPort (by rfl)).serveTransmitter p

/-! ### Kinds that end at the head -/

theorem lineTask (p : PortId) (f : TaskFields) : s.flagsLast (t.lineTask p f).1 := by
  have applied : s.flagsLast (t.lineApplied p f) := (h.handItem p _).modPort (by rfl)
  by_cases auto : f.paramA = 0
  · rw [State.lineTask_auto auto]
    exact (applied.seek p 0).handItem p _
  · rw [State.lineTask_rate auto]
    exact State.flagsLast.handItem (applied.modPort (by rfl)) p _

theorem holdTask (p : PortId) (f : TaskFields) : s.flagsLast (t.holdTask p f).1 := by
  unfold State.holdTask
  split
  · exact h
  · exact h.modPort (by rfl)

theorem endHold (p : PortId) : s.flagsLast (t.endHold p) := h.modPort (by rfl)

theorem releaseTask (p : PortId) (f : TaskFields) : s.flagsLast (t.releaseTask p f).1 := by
  unfold State.releaseTask
  split
  · exact h
  · split
    · exact h.endHold p
    · split
      · exact (h.endHold p).notice p _
      · exact h

/-- GUARD adds the named flags to those that are set (R61). -/
theorem guardTask (p : PortId) (f : TaskFields) : s.flagsLast (t.guardTask p f).1 :=
  h.setPort (Port.flagsLast_noting (fun i set => by simp [set]) id)

theorem work (p : PortId) (e : QueueEntry) : s.flagsLast (t.work p e).1 := by
  unfold State.work
  split
  · split
    · exact h.beginAttempt p _
    · exact h
  · exact h.beginAttempt p _
  · exact h.beginAttempt p _
  · exact h.enterBreaking p
  · exact h.lineTask p _
  · exact h.modPort (by rfl)
  · exact h.thaw p
  · exact h.holdTask p _
  · exact h.releaseTask p _
  · exact h.guardTask p _
  all_goals exact h

/-! ### Heads and stops -/

theorem serveQueue (p : PortId) : s.flagsLast (t.serveQueue p) :=
  State.takeHeads_keeps (P := s.flagsLast) (fun _ _ hu => hu.modPort (by rfl)) (fun _ fin hu => hu.finishHead p fin)
    (fun _ _ hu => hu.modPort (by rfl)) (fun _ e hu => hu.work p e) _ h

theorem endTask (p : PortId) (fin : TaskEnd) : s.flagsLast (t.endTask p fin) := (h.finishHead p fin).serveQueue p

theorem leaveRateWait (p : PortId) : s.flagsLast (t.leaveRateWait p) := by
  unfold State.leaveRateWait
  split
  · next e rest _ _ =>
    extract_lets dropped
    have worked : s.flagsLast (dropped.work p e).1 := State.flagsLast.work (h.modPort (by rfl)) p e
    split
    · next u fin eq =>
      rw [eq] at worked
      exact worked.endTask p fin
    · next u eq =>
      rw [eq] at worked
      exact worked
  · exact h

theorem disarm (p : PortId) : s.flagsLast (t.disarm p) := h.modPort (by rfl)

theorem stopSending (p : PortId) : s.flagsLast (t.stopSending p) := (h.stopFetch p).closeTx p

theorem cutBreak (p : PortId) (code : ResultCode) : s.flagsLast (t.cutBreak p code) := by
  unfold State.cutBreak
  dsimp only
  split
  · exact ((h.modPort (by rfl)).handItem p _).endTask p _
  · exact (h.modPort (by rfl)).endTask p _
  all_goals exact h.endTask p _

theorem stopHead (p : PortId) (why : StopCause) : s.flagsLast (t.stopHead p why) := by
  unfold State.stopHead
  split
  · exact h
  · exact h.endTask p _
  · exact h.endTask p _
  · exact (h.disarm p).endTask p _
  · exact h.cutBreak p _
  all_goals exact .ite (.ite ((h.stopFetch p).modPort (by rfl)) h) ((h.stopSending p).endTask p _)

theorem losePresence (p : PortId) : s.flagsLast (t.losePresence p) := by
  unfold State.losePresence
  split
  · exact h
  · exact .ite (h.stopHead p _) h

theorem textFaults (p : PortId) (read : Nat) : s.flagsLast (t.textFaults p read) :=
  .ite (.ite ((h.modPort (by rfl)).stopHead p _) (h.modPort (by rfl))) h

/-! ### Cancels and draining -/

theorem removeUnstarted (p : PortId) (slot : Nat) : s.flagsLast (t.removeUnstarted p slot) := by
  unfold State.removeUnstarted
  split
  · exact h
  · exact .ite (((h.modPort (by rfl)).markCancelled slot).shareEnds p _ _ _ _ _)
      ((h.modPort (by rfl)).handCompletion _)

theorem cancelAt (p : PortId) (slot : Nat) : s.flagsLast (t.cancelAt p slot) := by
  unfold State.cancelAt
  split
  · exact h
  · exact h.removeUnstarted p slot
  · exact .ite h ((h.markCancelled slot).stopHead p _)

theorem drainPort (p : PortId) : s.flagsLast (t.drainPort p) := by
  have emptied : s.flagsLast
      (t.modPort p fun v => { v with queue := if v.started then v.queue.take 1 else [] }) := h.modPort (by rfl)
  intro q
  rw [State.drainPort, State.foldl_drainEntry_port]
  exact emptied q

/-! ### Reception (R85 to R92) -/

theorem awaitMatched (p : PortId) (sequence : Word) : s.flagsLast (t.awaitMatched p sequence) := by
  unfold State.awaitMatched
  split
  · exact (h.disarm p).endTask p _
  · exact h

theorem serveRateWait (p : PortId) : s.flagsLast (t.serveRateWait p) := .ite (h.leaveRateWait p) h

theorem byteStored (p : PortId) (byte : Byte) (framing parity : Bool) :
    s.flagsLast (t.byteStored p byte framing parity) :=
  (State.flagsLast.takeByte (h.modPort (by rfl)) p byte _).modPort (Port.flags_storeByte ..)

theorem deliver (p : PortId) (byte : Byte) (framing parity : Bool) : s.flagsLast (t.deliver p byte framing parity) := by
  have stored := h.byteStored p byte framing parity
  have verified : s.flagsLast (t.byteVerified p byte framing parity) :=
    .ite ((stored.verifyByte p framing).serveRateWait p) stored
  rw [State.deliver_eq]
  exact .ite (verified.awaitMatched p _) verified

theorem completeByte (p : PortId) (byte : Byte) (framing parity mark : Bool) :
    s.flagsLast (t.completeByte p byte framing parity mark) :=
  .ite ((h.modPort (by rfl)).deliver p byte framing parity) (h.modPort (by rfl))

theorem detectBreak (p : PortId) (c : RxCharacter) : s.flagsLast (t.detectBreak p c) :=
  .ite (((h.modPort (by rfl)).modPort (by rfl)).handItem p _) (h.modPort (by rfl))

theorem endReceivedBreak (p : PortId) (edgeTime : Nat) (silent : Bool) :
    s.flagsLast (t.endReceivedBreak p edgeTime silent) :=
  .ite (h.modPort (by rfl)) ((h.modPort (by rfl)).handItem p _)

/-! ### Sense samples (R158 to R162) -/

theorem presenceChanged (p : PortId) (presence : Presence) : s.flagsLast (t.presenceChanged p presence) := by
  unfold State.presenceChanged
  split
  · exact h
  · next mark kind _ =>
    have reported := ((h.handItem p (.close [(mark, 0)])).notice p kind).ratePresence p presence
    exact .ite (reported.losePresence p) reported

theorem takeSample (p : PortId) (code : BitVec 12) : s.flagsLast (t.takeSample p code) :=
  .ite ((h.modPort (by rfl)).presenceChanged p _) (h.modPort (by rfl))

theorem takeSenseSettings (f : TaskFields) : s.flagsLast (t.takeSenseSettings f) := by
  unfold State.takeSenseSettings
  refine State.flagsLast.modPorts ?_ (fun _ => rfl) fun _ => id
  exact h

/-! ### The sweep -/

theorem startSweep (requested : Bool) : s.flagsLast (t.startSweep requested) := by
  obtain ⟨_, _, _, begun⟩ := t.beginSweep_frame requested
  obtain ⟨_, _, _, again⟩ := (t.beginSweep requested).beginSweep_frame true
  have first : s.flagsLast (t.beginSweep requested) := h.of_ports (by rw [begun])
  exact .ite (first.of_ports (by rw [again])) first

theorem requestSweep : s.flagsLast t.requestSweep := .ite (h.startSweep true) h

theorem sweepOn (requested : Bool) (i : Nat) : s.flagsLast (t.sweepOn requested i) :=
  h.of_ports (t.sweepOn_ports requested i)

theorem slotDone (w : Sweep) : s.flagsLast (t.slotDone w) := .ite (h.sweepOn _ _) h

theorem slotLeft (w : Sweep) : s.flagsLast (t.slotLeft w) := h.sweepOn _ _

theorem completeSlot (w : Sweep) (c : Completion) : s.flagsLast (t.completeSlot w c) := by
  rw [State.completeSlot_eq]
  exact h

theorem addEntry (p : PortId) (e : QueueEntry) : s.flagsLast (t.addEntry p e) := h.modPort (by rfl)

theorem admitTask (w : Sweep) (k : TaskKind) (slot : TaskSlot) : s.flagsLast (t.admitTask w k slot) :=
  .ite (((State.flagsLast.addEntry (t := t.admitted w.index) h _ _).serveQueue _).slotDone w) (h.slotLeft w)

theorem admitBroadcast (w : Sweep) (slot : TaskSlot) : s.flagsLast (t.admitBroadcast w slot) := by
  have placed : s.flagsLast
      (t.broadcastPlaced w slot (memberPorts slot.fields t.tsu.geometry.portCount)) := by
    unfold State.broadcastPlaced
    exact List.foldlRecOn _ _ (motive := s.flagsLast) h fun _ hu p _ => hu.addEntry p _
  exact .ite (.slotDone (List.foldlRecOn _ _ placed fun _ hu p _ => State.flagsLast.serveQueue hu p) w) (h.slotLeft w)

/-! ### Slots in hand -/

theorem completePattern (w : Sweep) (slot : TaskSlot) (start : Word) (contents : Option (List Element)) :
    s.flagsLast (t.completePattern w slot start contents) := (h.setPattern _ _).completeSlot w _

theorem patternArrives (w : Sweep) (slot : TaskSlot) (start : Word) (bytes : List Byte) :
    s.flagsLast (t.patternArrives w slot start bytes) := by
  unfold State.patternArrives
  split
  · exact h.completeSlot w _
  · exact h.completePattern w slot start _

theorem runAbort (w : Sweep) (slot : TaskSlot) : s.flagsLast (t.runAbort w slot) :=
  .ite ((h.forPorts fun p _ hu => hu.cancelAt p _).completeSlot w _) (h.completeSlot w _)

theorem carryOut (w : Sweep) (k : TaskKind) (slot : TaskSlot) : s.flagsLast (t.carryOut w k slot) := by
  cases k
  case abort => exact h.runAbort w slot
  case pattern => exact .ite (h.completePattern w slot _ _) h
  case sense => exact (h.takeSenseSettings _).completeSlot w _
  case broadcast => exact h.admitBroadcast w slot
  all_goals exact h.admitTask w _ slot

theorem wholeSlot (w : Sweep) (slot : TaskSlot) : s.flagsLast (t.wholeSlot w slot) := by
  refine .ite (h.slotLeft w) (.ite (h.slotLeft w) ?_)
  unfold State.validateSlot
  split
  · exact h.completeSlot w _
  · split
    · exact h.completeSlot w _
    · exact h.carryOut w _ slot

theorem headerArrives (w : Sweep) (bytes : List Byte) : s.flagsLast (t.headerArrives w bytes) := by
  unfold State.headerArrives
  split
  · exact h
  · exact h.slotLeft w

theorem slotFaults (w : Sweep) : s.flagsLast (t.slotFaults w) := (h.raise .fault).slotLeft w

theorem sweepReadEnds (read : Nat) (bytes : Option (List Byte)) : s.flagsLast (t.sweepReadEnds read bytes) := by
  unfold State.sweepReadEnds
  split
  · exact h
  · next w _ =>
    split
    · exact .ite (h.headerArrives w _) h
    · exact .ite (h.slotFaults w) h
    · exact .ite (h.wholeSlot w _) h
    · exact .ite (h.slotFaults w) h
    · exact .ite (h.patternArrives w _ _ _) h
    · exact .ite (h.completeSlot w _) h
    all_goals exact h

theorem slotWriteIssued : s.flagsLast t.slotWriteIssued := by
  unfold State.slotWriteIssued
  dsimp only
  split
  · exact h
  · split
    · refine State.flagsLast.sweepOn ?_ _ _
      exact h
    · exact h

end

end State.flagsLast

end Sys2Proof.Machine
end

section
/-! SUPPORT. Grants, control and the commands let the flags last, but for the issue of a status record and a soft reset,
which clear changed flags; the statement on guard flags. -/

namespace Sys2Proof.Machine

namespace State.flagsLast

section
variable {s t : State} (h : s.flagsLast t)
include h

/-! ### Grants and leaving (R168 to R172) -/

theorem grantRead (r : Requester) (a : Addr) (n : Nat) : s.flagsLast (t.grantRead r a n) := h

theorem issueSlotWrite (w : SlotWrite) : s.flagsLast (t.issueSlotWrite w) := by
  unfold State.issueSlotWrite
  refine State.flagsLast.slotWriteIssued ?_
  exact h

theorem issueSweepRead (r : Requester) (a : Addr) (n : Nat) : s.flagsLast (t.issueSweepRead r a n) := by
  unfold State.issueSweepRead
  split
  · exact h
  · exact h.grantRead r a n

theorem issueReadMark (p : PortId) : s.flagsLast (t.issueReadMark p) := by
  unfold State.issueReadMark
  refine State.flagsLast.modPort ?_ (by rfl)
  exact h

theorem issueText (p : PortId) (a : Addr) (n : Nat) : s.flagsLast (t.issueText p a n) := by
  unfold State.issueText
  refine State.flagsLast.modPort ?_ (by rfl)
  exact h

theorem issueCapture (p : PortId) : s.flagsLast (t.issueCapture p) := by
  unfold State.issueCapture
  split
  · exact h
  · dsimp only
    split
    · refine State.flagsLast.resumeAgenda (State.flagsLast.modPort ?_ (by rfl)) p
      exact h
    · refine State.flagsLast.modPort ?_ (by rfl)
      exact h

theorem frontLeft (item : LinkItem) (rest : List LinkItem) : s.flagsLast (t.frontLeft item rest) :=
  h.of_ports (t.frontLeft_ports item rest)

theorem withReads (reads : List ReadEntry) : s.flagsLast (t.withReads reads) := h

theorem writeLeaves : s.flagsLast t.writeLeaves := by
  refine .ite ?_ h
  split
  · exact .ite ((h.frontLeft _ _).raise .task) (h.frontLeft _ _)
  all_goals exact h

theorem readLeaves : s.flagsLast t.readLeaves := by
  refine .ite ?_ h
  split
  · exact (h.frontLeft _ _).withReads _
  all_goals exact h

/-! ### Drain and stop (R181, R182) -/

theorem withBus (bus : BusPort) : s.flagsLast { t with bus := bus } := h

theorem handSettle : s.flagsLast t.handSettle := (h.forPorts fun p _ hu => hu.handItem p .settle).withBus _

theorem enterStopped : s.flagsLast t.enterStopped := by
  unfold State.enterStopped
  refine State.flagsLast.raise (State.flagsLast.modPorts ?_ (fun _ => rfl) fun _ => id) .stopped
  exact h

theorem watchDrain : s.flagsLast t.watchDrain := by
  rcases t.watchDrain_cases with eq | eq | eq | eq <;> rw [eq]
  · exact h
  · exact h.handSettle
  · exact h.enterStopped
  · exact h.handSettle.enterStopped

theorem stopCommand : s.flagsLast t.stopCommand := by
  have drained : s.flagsLast (t.draining.forPorts fun p u => u.drainPort p) :=
    State.flagsLast.forPorts (t := t.draining) h fun p _ hu => hu.drainPort p
  exact .ite (drained.forPorts fun p _ hu => hu.handItem p (.close [])).watchDrain h

/-! ### Enable (R178 to R180) -/

theorem failEnable (code : AnchorError) : s.flagsLast (t.failEnable code) := h.of_ports (t.failEnable_ports code)

theorem enableCommand : s.flagsLast t.enableCommand :=
  .ite (.ite (h.of_ports (State.enableAt_ports ..)) (h.failEnable _)) h

theorem startSweeping : s.flagsLast t.startSweeping :=
  .ite (State.flagsLast.startSweep (t := t.sweepIdle) h true) h

/-- A port that comes into use is to be published; one that goes out of use keeps its flags (R146, R180). -/
theorem succeedEnable (anchor : Addr) (header : AnchorHeader) (descriptors : List Byte) :
    s.flagsLast (t.succeedEnable anchor header descriptors) := by
  have taken : s.flagsLast ((t.latchEnable anchor header).modPorts (t.portsAtEnable header descriptors)) := by
    refine State.flagsLast.modPorts (t := t.latchEnable anchor header) h (fun p => ?_) fun p changed => ?_
    · unfold State.portsAtEnable
      split <;> rfl
    · unfold State.portsAtEnable
      split
      · rfl
      · exact changed
  unfold State.succeedEnable
  exact State.flagsLast.startSweeping (taken.forPorts fun p _ hu => .ite (hu.runAgenda p _) hu)

theorem enableReadEnds (read : Nat) (bytes : Option (List Byte)) : s.flagsLast (t.enableReadEnds read bytes) := by
  unfold State.enableReadEnds
  split
  · exact h
  · split
    · refine .ite ?_ h
      unfold State.anchorArrives
      split
      · exact h.failEnable _
      · exact h.of_ports (State.enableAt_ports ..)
    · exact .ite (h.failEnable _) h
    · exact .ite (.ite (h.succeedEnable _ _ _) (h.failEnable _)) h
    · exact .ite (h.failEnable _) h
    all_goals exact h

/-! ### Reads (R170, R171) -/

theorem readMarkEnds (p : PortId) (read : Nat) (bytes : Option (List Byte)) :
    s.flagsLast (t.readMarkEnds p read bytes) := by
  refine .ite ?_ h
  split
  · exact (h.modPort (by rfl)).retestUnit p
  · exact ((h.modPort (by rfl)).raise .fault).retestUnit p

theorem readEnds (requester : Requester) (read : Nat) (bytes : Option (List Byte)) :
    s.flagsLast (t.readEnds requester read bytes) := by
  cases requester
  case readMark p => exact h.readMarkEnds p read bytes
  case text p =>
    cases bytes with
    | some b => exact h.textArrives p read b
    | none => exact h.textFaults p read
  case anchorHeader => exact h.enableReadEnds read bytes
  case descriptors => exact h.enableReadEnds read bytes
  all_goals exact h.sweepReadEnds read bytes

theorem pieceEnds (e : ReadEntry) (answer : Option (List Byte)) : s.flagsLast (t.pieceEnds e answer) := by
  refine .ite (h.withReads _) ?_
  split
  · exact .ite ((h.withReads _).readEnds _ _ _) (h.withReads _)
  · exact (h.withReads _).readEnds _ _ _

theorem answerPiece (tag : Nat) (answer : Option (List Byte)) : s.flagsLast (t.answerPiece tag answer) := by
  unfold State.answerPiece
  split
  · exact h
  · exact .ite (h.pieceEnds _ _) h

theorem timeOutPiece (tag : Nat) : s.flagsLast (t.timeOutPiece tag) := by
  unfold State.timeOutPiece
  split
  · exact h
  · exact .ite (h.pieceEnds _ _) h

/-! ### Time and the task side -/

theorem reachTick (tick : Nat) : s.flagsLast (t.reachTick tick) := h

theorem reachPhase (phase : Nat) : s.flagsLast (t.reachPhase phase) := h

theorem rateWaitExpires (p : PortId) : s.flagsLast (t.rateWaitExpires p) := .ite (h.endTask p _) h

theorem afterDeadline (p : PortId) (f : TaskFields) : s.flagsLast (t.afterDeadline p f) :=
  .ite (.ite (h.modPort (by rfl)) (h.beginAttempt p f)) (h.endTask p _)

theorem deadlineExpires (p : PortId) : s.flagsLast (t.deadlineExpires p) := by
  unfold State.deadlineExpires
  split
  · exact h
  · exact .ite ((h.disarm p).afterDeadline p _) h

theorem pauseExpires (p : PortId) : s.flagsLast (t.pauseExpires p) := by
  unfold State.pauseExpires
  split
  · exact h
  · exact .ite (h.beginAttempt p _) h

theorem holdExpires (p : PortId) : s.flagsLast (t.holdExpires p) := .ite ((h.endHold p).notice p _) h

theorem takeOldest : s.flagsLast t.takeOldest := by
  unfold State.takeOldest
  split <;> exact h

/-! ### The transmit line -/

theorem countCharacter (p : PortId) (c : TxCharacter) : s.flagsLast (t.countCharacter p c) := by
  refine State.flagsLast.modPort ?_ (by rfl)
  split
  · exact h
  · exact .ite (h.logTxByte p _ _ _) h

theorem textSent (p : PortId) : s.flagsLast (t.textSent p) := by
  unfold State.textSent
  dsimp only
  split
  · exact h.closeTx p
  · exact .ite ((h.closeTx p).enterAwaiting p _) ((h.closeTx p).endTask p _)

theorem characterEnded (p : PortId) : s.flagsLast (t.characterEnded p) := by
  unfold State.characterEnded
  split
  · exact (h.closeTx p).endTask p _
  · exact h.textSent p
  all_goals exact h.serveTransmitter p

theorem endCharacter (p : PortId) : s.flagsLast (t.endCharacter p) := by
  unfold State.endCharacter
  split
  · exact .ite (((h.reachTick _).countCharacter p _).characterEnded p) h
  all_goals exact h

theorem transmitterAt (p : PortId) (tx : Transmitter) : s.flagsLast (t.transmitterAt p tx) :=
  (h.modPort (by rfl)).serveTransmitter p

theorem endGap (p : PortId) : s.flagsLast (t.endGap p) := by
  unfold State.endGap
  split
  · exact .ite ((h.reachTick _).transmitterAt p _) h
  all_goals exact h

theorem endPause (p : PortId) : s.flagsLast (t.endPause p) := by
  unfold State.endPause
  split
  · exact .ite ((h.reachTick _).transmitterAt p _) h
  all_goals exact h

theorem breakExpires (p : PortId) : s.flagsLast (t.breakExpires p) := .ite ((h.modPort (by rfl)).handItem p _) h

theorem endGuard (p : PortId) : s.flagsLast (t.endGuard p) := by
  unfold State.endGuard
  split
  · exact .ite (((h.reachTick _).modPort (by rfl)).endTask p _) h
  all_goals exact h

/-! ### The receive line -/

theorem receiverTo (p : PortId) (rx : Receiver) (mark : Bool) : s.flagsLast (t.receiverTo p rx mark) :=
  h.modPort (by rfl)

theorem beginInterval (p : PortId) : s.flagsLast (t.beginInterval p) := h.modPort (by rfl)

theorem startEdge (p : PortId) (phase : Nat) : s.flagsLast (t.startEdge p phase) := by
  unfold State.startEdge
  dsimp only
  split
  · exact (h.reachPhase phase).receiverTo p _ _
  · exact .ite ((h.reachPhase phase).beginInterval p) h
  all_goals exact h

theorem falseStart (p : PortId) : s.flagsLast (t.falseStart p) := by
  unfold State.falseStart
  split
  · exact .ite ((h.reachTick _).receiverTo p _ _) h
  all_goals exact h

theorem armed (p : PortId) (phase : Nat) : s.flagsLast (t.armed p phase) := by
  unfold State.armed
  split
  · exact (h.reachPhase phase).receiverTo p _ _
  all_goals exact h

theorem lastSample (p : PortId) (c : RxCharacter) (r : RxSamples) : s.flagsLast (t.lastSample p c r) :=
  .ite (.ite (h.completeByte p _ _ _ _) (h.receiverTo p _ _)) (h.completeByte p _ _ _ _)

theorem receiveByte (p : PortId) (r : RxSamples) (phase : Nat) : s.flagsLast (t.receiveByte p r phase) := by
  unfold State.receiveByte
  split
  · exact .ite ((h.reachTick _).lastSample p _ r) h
  · exact .ite ((h.reachPhase phase).completeByte p _ _ _ _) h
  all_goals exact h

theorem zeroLimitReached (p : PortId) : s.flagsLast (t.zeroLimitReached p) := by
  unfold State.zeroLimitReached
  split
  · exact .ite ((h.reachTick _).detectBreak p _) h
  · exact .ite ((h.reachTick _).detectBreak p _) h
  all_goals exact h

theorem breakEnds (p : PortId) (phase : Nat) : s.flagsLast (t.breakEnds p phase) := by
  unfold State.breakEnds
  split
  · exact (h.reachPhase phase).endReceivedBreak p _ _
  all_goals exact h

theorem quietExpires (p : PortId) : s.flagsLast (t.quietExpires p) := by
  unfold State.quietExpires
  split
  · exact h
  · exact .ite (((h.reachTick _).modPort (by rfl)).handItem p _) h

theorem intervalEnds (p : PortId) (phase : Nat) : s.flagsLast (t.intervalEnds p phase) := by
  unfold State.intervalEnds
  split
  · refine .ite h ?_
    unfold State.endInterval
    split
    · exact (h.reachPhase phase).judgeInterval p _
    · exact (h.reachPhase phase).modPort (by rfl)
  all_goals exact h

/-! ### The Capture Assembler, the status writer and the scanner -/

theorem meetNext (p : PortId) : s.flagsLast (t.meetNext p) := by
  refine .ite ?_ h
  split
  · exact h
  · exact h.meetInput p _

/-- The request of a status write clears nothing yet (R146). -/
theorem requestStatus (p : PortId) : s.flagsLast (t.requestStatus p) := by
  unfold State.requestStatus
  split
  · exact h.setPort ⟨fun _ => id, id, fun differs => absurd rfl differs⟩
  · exact h

theorem partTimeIncrement : s.flagsLast t.partTimeIncrement := by
  unfold State.partTimeIncrement
  split <;> exact h

theorem senseExpires : s.flagsLast t.senseExpires := by
  unfold State.senseExpires
  split <;> exact h

theorem withScanner (scanner : Scanner) : s.flagsLast { t with scanner := scanner } := h

theorem sampleDone (code : BitVec 12) : s.flagsLast (t.sampleDone code) := by
  unfold State.sampleDone
  split
  · exact h
  · next w _ =>
    refine .ite ?_ h
    unfold State.conversionDone
    exact State.flagsLast.withScanner (.ite ((h.reachTick _).takeSample _ code) (h.reachTick _)) _

/-! ### The register window (R185) -/

/-- A write that makes no soft reset. -/
theorem writeControl {value : Word} (enters : value.getLsbD 3 = false) : s.flagsLast (t.writeControl value) := by
  unfold State.writeControl
  rw [enters, if_neg Bool.false_ne_true]
  extract_lets enabled stopped
  have enabledLasts : s.flagsLast enabled := .ite h.enableCommand h
  have stoppedLasts : s.flagsLast stopped := .ite enabledLasts.stopCommand enabledLasts
  exact .ite stoppedLasts.requestSweep stoppedLasts

end

end State.flagsLast

/-! ### Every command -/

/-- A register write is a soft reset, or lets the flags last (R177, R185). -/
theorem State.writeRegister_flags (s : State) (reg : Register) (bytes : Nat) (value : Word) :
    s.flagsLast (s.writeRegister reg bytes value)
      ∨ (value.getLsbD 3 = true ∧ reg = .control ∧ s.writeRegister reg bytes value = s.softReset) := by
  have refl := State.flagsLast.refl s
  unfold State.writeRegister
  split
  · exact .inl refl
  · cases reg with
    | ident => exact .inl refl
    | status => exact .inl refl
    | control =>
      cases reset : value.getLsbD 3 with
      | false => exact .inl (refl.writeControl reset)
      | true => exact .inr ⟨rfl, rfl, by simp [State.writeControl, reset]⟩
    | anchorLo =>
      dsimp only [State.writeAnchorLo]
      split <;> exact .inl refl
    | anchorHi =>
      dsimp only [State.writeAnchorHi]
      split <;> exact .inl refl
    | attention => exact .inl (refl.of_ports (s.writeAttention_ports value))
    | attnEnable => exact .inl (refl.of_ports (s.writeAttnEnable_ports value))
    | attnForce => exact .inl (refl.raiseBits _)

/-- A grant issues a status record, or lets the flags last (R146, R172). -/
theorem State.grantOne_flags (s : State) : s.flagsLast s.grantOne ∨ ∃ p, s.grantOne = s.issueStatus p := by
  have refl := State.flagsLast.refl s
  unfold State.grantOne
  split
  · split
    · exact .inl refl
    · next g _ =>
      cases g with
      | slotWrite w => exact .inl (refl.issueSlotWrite w)
      | status p => exact .inr ⟨p, rfl⟩
      | sweepRead r a n => exact .inl (refl.issueSweepRead r a n)
      | enableRead r a n => exact .inl (refl.grantRead r a n)
      | readMark p => exact .inl (refl.issueReadMark p)
      | text p a n => exact .inl (refl.issueText p a n)
      | capture p => exact .inl (refl.issueCapture p)
  · exact .inl refl

/-- What a command but a hard reset does to the flags: they last, a status record is issued, or a soft reset is made. -/
theorem exec_flags {c : Instr} {s t : State} (notHard : c ≠ .hardReset) (ht : exec c s = .next t) :
    s.flagsLast t ∨ (∃ p, t = (s.issueStatus p).watchDrain)
      ∨ ((c = .softReset ∨ ∃ n v, v.getLsbD 3 = true ∧ c = .registerWrite .control n v) ∧ t = s.softReset) := by
  have refl := State.flagsLast.refl s
  cases c <;> cases ht
  case hardReset => exact absurd rfl notHard
  case softReset => exact .inr (.inr ⟨.inl rfl, rfl⟩)
  case registerWrite reg bytes value =>
    rcases s.writeRegister_flags reg bytes value with lasts | ⟨set, rfl, eq⟩
    · exact .inl lasts
    · exact .inr (.inr ⟨.inr ⟨bytes, value, set, rfl⟩, eq⟩)
  case hmeGrant =>
    rcases s.grantOne_flags with lasts | ⟨p, eq⟩
    · exact .inl lasts.watchDrain
    · exact .inr (.inl ⟨p, by rw [eq]⟩)
  all_goals left
  case enable => exact refl.enableCommand
  case stop => exact refl.stopCommand
  case sweep => exact refl.requestSweep
  case attentionWrite value => exact refl.of_ports (s.writeAttention_ports value)
  case attnEnableWrite value => exact refl.of_ports (s.writeAttnEnable_ports value)
  case attnForceWrite value => exact refl.raiseBits _
  case busMasterConfigChange busMaster message => exact refl.of_ports (s.configure_ports busMaster message)
  case partTimeIncrement => exact refl.partTimeIncrement
  case sweepTimerExpiry => exact .ite (refl.startSweep false) refl
  case writePieceLeaves => exact refl.writeLeaves.watchDrain
  case readPieceLeaves => exact refl.readLeaves
  case readPieceAnswer tag answer => exact (refl.answerPiece tag answer).watchDrain
  case readPieceTimeout tag => exact (refl.timeOutPiece tag).watchDrain
  case tsuTakeCompletion => exact refl.takeOldest
  case rateWaitLimitExpiry p => exact (refl.rateWaitExpires p).watchDrain
  case responseDeadlineExpiry p => exact (refl.deadlineExpires p).watchDrain
  case retryPauseExpiry p => exact refl.pauseExpires p
  case breakTimerExpiry p => exact refl.breakExpires p
  case breakGuardEnd p => exact (refl.endGuard p).watchDrain
  case txCharacterEnd p => exact (refl.endCharacter p).watchDrain
  case txGapEnd p => exact refl.endGap p
  case txPauseEnd p => exact refl.endPause p
  case holdIdleTimerExpiry p => exact refl.holdExpires p
  case rxByteDelivered p samples phase => exact (refl.receiveByte p samples phase).watchDrain
  case rxBreakDetected p => exact refl.zeroLimitReached p
  case rxBreakEnd p phase => exact refl.breakEnds p phase
  case quietTimerExpiry p => exact refl.quietExpires p
  case rfIntervalEnd p phase => exact refl.intervalEnds p phase
  case caMeetInput p => exact refl.meetNext p
  case statusWriteIssue p => exact refl.requestStatus p
  case senseIntervalExpiry => exact refl.senseExpires
  case senseSampleDone code => exact (refl.sampleDone code).watchDrain
  case startEdge p phase => exact refl.startEdge p phase
  case falseStart p => exact refl.falseStart p
  case armingLineReturnsToMark p phase => exact refl.armed p phase

/-! ### What clears changed flags leaves the guards (R60) -/

/-- The issue of a status record changes the status writer of a port alone. -/
@[simp] theorem State.issueStatus_guard (s : State) (p q : PortId) :
    ((s.issueStatus p).port q).guard = (s.port q).guard := by
  by_cases hq : q = p
  · subst hq
    simp [State.issueStatus]
  · rw [State.issueStatus, State.port_setPort_ne _ _ hq]
    rfl

@[simp] theorem State.softReset_guard (s : State) (p : PortId) : (s.softReset.port p).guard = (s.port p).guard := by
  have port : s.softReset.port p = (s.port p).afterReset (s.freeLevel p) := by simp [State.softReset, State.port]
  rw [port]
  rfl

/-- Settles O59: the flags last through every command but the issue of a status record and a soft reset, and these two
leave the guard flags as they are. -/
theorem guardFlagsLastUntilAHardReset : Obligations.GuardFlagsLastUntilAHardReset := by
  intro c s t p i notHard ht set
  rcases exec_flags notHard ht with lasts | ⟨q, rfl⟩ | ⟨_, rfl⟩
  · exact (lasts p).guard i set
  · exact ((State.flagsLast.refl (s.issueStatus q)).watchDrain p).guard i (by simpa using set)
  · simpa using set

end Sys2Proof.Machine
end

section
/-! SUPPORT. The values of the reset state, and the hold record: its idle timer, the tasks that grant, renew and end a
hold, and what a port's only entry makes of it; the statements on the reset state, on the idle timer and on HOLD,
RELEASE and GUARD. -/

namespace Sys2Proof.Machine

/-! ### The reset state (R184) -/

theorem State.reset_port (p : PortId) : State.reset.port p = Port.reset := by simp [State.port, State.reset]

/-- Settles O12: the shared blocks and every port are at the reset values that are written out for them. -/
theorem resetStateHoldsTheSpecsValues : Obligations.ResetStateHoldsTheSpecsValues := by
  refine ⟨rfl, rfl, rfl, rfl, rfl, by decide, rfl, rfl, rfl, rfl, rfl, rfl, rfl, ⟨rfl, rfl, rfl, rfl, rfl⟩, fun i => ?_,
    fun p => ?_⟩
  · simp [State.reset]
  · rw [State.reset_port]
    decide

/-! ### The end of a hold (R54, R56) -/

section
variable (s : State) (p : PortId)

@[simp] theorem State.endHold_port : (s.endHold p).port p = (s.port p).noting
    { s.port p with hold := { (s.port p).hold with owner := none, timer := none } } := by
  simp [State.endHold]

theorem State.endHold_port_ne {q : PortId} (h : q ≠ p) : (s.endHold p).port q = s.port q := s.port_modPort_ne _ h

/-- A notice always differs from what was published before, so that it sets the changed flag (R146, R176). -/
theorem State.notice_port_same (kind : NoticeKind) : (s.notice p kind).port p = { s.port p with
    status := { (s.port p).status with
      changed := true, noticeCount := (s.port p).status.noticeCount + 1, lastNotice := kind } } := by
  rw [State.port_notice, Port.noting, if_neg]
  intro same
  simpa [Port.published] using congrArg StatusFields.noticeCount same

/-- A hold that ends with a notice: no owner, the notice counted, and nothing else of the port changed (R54, R57). -/
theorem State.holdLost_port : ((s.endHold p).notice p .holdLost).port p = { s.port p with
    hold := { (s.port p).hold with owner := none, timer := none }
    status := { (s.port p).status with
      changed := true, noticeCount := (s.port p).status.noticeCount + 1, lastNotice := .holdLost } } := by
  rw [State.notice_port_same, State.endHold_port]
  unfold Port.noting
  split <;> rfl

end

theorem exec_holdIdleTimerExpiry (p : PortId) (s : State) :
    exec (.holdIdleTimerExpiry p) s = .next (s.holdExpires p) := rfl

/-- Settles O36: an idle timer that is due ends the hold with its notice; one that is not, or none, changes nothing. -/
theorem holdLapsesAtItsIdleTimer : Obligations.HoldLapsesAtItsIdleTimer := by
  refine ⟨fun s p tm timer due => ?_, fun s p early => ?_⟩
  · have lapses : s.holdExpires p = (s.endHold p).notice p .holdLost := by
      simp [State.holdExpires, timer, State.expired_some, due]
    refine ⟨_, by rw [exec_holdIdleTimerExpiry, lapses], ?_⟩
    rw [State.holdLost_port, State.notice_attention _ _ (c := .hold) rfl]
    exact ⟨rfl, rfl, rfl, rfl, rfl, rfl, rfl, rfl, rfl, rfl, rfl, rfl, rfl, rfl, State.notice_tsu ..,
      State.notice_bus .., fun q hq => (State.notice_port_ne _ p _ hq).trans (s.endHold_port_ne p hq)⟩
  · have waits : s.expired (s.port p).hold.timer = false := by
      cases timer : (s.port p).hold.timer with
      | none => rfl
      | some tm => simpa [State.expired_some] using early tm timer
    simp [exec_holdIdleTimerExpiry, State.holdExpires, waits]

/-! ### The hold record and the entries of its port (R55) -/

theorem Hold.restarted_idleSeconds (h : Hold) (originator : BitVec 4) (timer : Option Timer) :
    (h.restarted originator timer).idleSeconds = h.idleSeconds := by
  unfold Hold.restarted
  split <;> rfl

theorem Hold.restarted_of_owner {h : Hold} {originator : BitVec 4} (owner : h.owner = some originator)
    (timer : Option Timer) : h.restarted originator timer = { h with timer := timer } := if_pos owner

theorem Hold.restarted_restarted (h : Hold) (originator : BitVec 4) (first second : Option Timer) :
    (h.restarted originator first).restarted originator second = h.restarted originator second := by
  unfold Hold.restarted
  split <;> simp

section
variable {s : State} {p : PortId} {e : QueueEntry} {rest : List QueueEntry}

theorem State.startEntry_hold (s : State) (p : PortId) (e : QueueEntry) :
    ((s.startEntry p e).port p).hold = (s.port p).hold.restarted e.fields.originator none := by
  simp [Hold.onStart, Hold.restarted]

/-- The head leaves its queue, and the hold record hears of its end. -/
theorem State.finishHead_port (queue : (s.port p).queue = e :: rest) (fin : TaskEnd) :
    ((s.finishHead p fin).port p) = (s.port p).noting { s.port p with
      queue := rest, exc := Exc.idle, hold := (s.port p).hold.onEnd e.fields.originator s.arm } := by
  simp only [State.finishHead, queue]
  split
  · rw [State.shareEnds_port, State.port_modPort_same]
  · rw [State.handCompletion_port, State.port_modPort_same]

theorem State.finishHead_hold (queue : (s.port p).queue = e :: rest) (fin : TaskEnd) :
    ((s.finishHead p fin).port p).hold = (s.port p).hold.restarted e.fields.originator
      (some (s.arm ((s.port p).hold.idleSeconds * 1000))) := by
  simp [State.finishHead_port queue, Hold.onEnd, Hold.restarted]

end

/-! ### HOLD, RELEASE and GUARD (R53, R54, R61) -/

section
variable {s : State} {p : PortId} {f : TaskFields}

theorem Hold.against_false {h : Hold} {originator : BitVec 4} (free : h.owner = none ∨ h.owner = some originator) :
    h.against originator = false := by
  rcases free with owner | owner <;> simp [Hold.against, owner]

/-- The hold is granted to the originator of a HOLD, or renewed (R53). -/
def State.holdGranted (s : State) (p : PortId) (f : TaskFields) : State :=
  s.modPort p fun v =>
    { v with hold := { v.hold with owner := some f.originator, idleSeconds := holdSeconds f.paramA } }

@[simp] theorem State.holdGranted_queue (s : State) (p : PortId) (f : TaskFields) :
    ((s.holdGranted p f).port p).queue = (s.port p).queue := by
  simp [State.holdGranted]

@[simp] theorem State.holdGranted_hold (s : State) (p : PortId) (f : TaskFields) : ((s.holdGranted p f).port p).hold =
    { (s.port p).hold with owner := some f.originator, idleSeconds := holdSeconds f.paramA } := by
  simp [State.holdGranted]

theorem State.holdTask_grants (free : (s.port p).hold.owner = none ∨ (s.port p).hold.owner = some f.originator) :
    s.holdTask p f = (s.holdGranted p f,
      { endWith .ok with outcomeA := BitVec.ofNat 32 (holdSeconds f.paramA) }) := by
  simp [State.holdTask, Hold.against_false free, State.holdGranted]

theorem State.holdTask_refuses {o : BitVec 4} (owner : (s.port p).hold.owner = some o) (other : o ≠ f.originator) :
    s.holdTask p f = (s, endWith .held) := by
  simp [State.holdTask, Hold.against, owner, other]

theorem State.releaseTask_unheld (owner : (s.port p).hold.owner = none) : s.releaseTask p f = (s, endWith .ok) := by
  simp [State.releaseTask, owner]

theorem State.releaseTask_owner (owner : (s.port p).hold.owner = some f.originator) :
    s.releaseTask p f = (s.endHold p, endWith .ok) := by
  simp [State.releaseTask, owner]

theorem State.releaseTask_other {o : BitVec 4} (owner : (s.port p).hold.owner = some o) (other : o ≠ f.originator) :
    s.releaseTask p f =
      if f.force then ((s.endHold p).notice p .holdLost, endWith .ok) else (s, endWith .notHolder) := by
  simp [State.releaseTask, owner, other]

@[simp] theorem State.guardTask_guard (s : State) (p : PortId) (f : TaskFields) :
    ((s.guardTask p f).1.port p).guard = (s.port p).guard ||| f.paramA.setWidth 3 := by
  simp [State.guardTask]

end

/-! ### The only entry of a port (R28, R55) -/

section
variable {s : State} {p : PortId} {e : QueueEntry}

/-- A head that fails a check starts and ends at once, refused (R28). -/
theorem State.serveQueue_refused (queue : (s.port p).queue = [e]) (idle : (s.port p).exc.state = .idle)
    {code : ResultCode} (fails : (s.port p).headCheck e = some code) :
    s.serveQueue p = (s.startEntry p e).finishHead p (endWith code) := by
  have unstarted : (s.port p).started = false := by simp [Port.started, idle]
  have begun := (s.headCheck_startEntry p e).trans fails
  simp only [State.serveQueue, queue, List.length_singleton, State.takeHeads, unstarted, begun, Bool.false_eq_true,
    if_false]

/-- A HOLD that passes its checks is carried out and ends at once. -/
theorem State.serveQueue_hold (queue : (s.port p).queue = [e]) (idle : (s.port p).exc.state = .idle)
    (passes : (s.port p).headCheck e = none) (hold : e.kind = .hold) :
    s.serveQueue p = ((s.startEntry p e).holdTask p e.fields).1.finishHead p
      ((s.startEntry p e).holdTask p e.fields).2 := by
  have unstarted : (s.port p).started = false := by simp [Port.started, idle]
  have begun := (s.headCheck_startEntry p e).trans passes
  simp only [State.serveQueue, queue, List.length_singleton, State.takeHeads, unstarted, begun, hold, State.work,
    TaskKind.rateChecked, Bool.false_and, Bool.false_eq_true, if_false]

/-- A SEND that passes the checks of a port of FIXED mode has no guard, hold or absence against it (R28). -/
theorem Port.sendPasses_of_headCheck {v : Port} (send : e.kind = .send) (passes : v.headCheck e = none)
    (mode : v.slu.line.mode = .fixed) : v.sendPasses e.fields := by
  simp only [Port.headCheck_eq, send] at passes
  split at passes
  · cases passes
  · next unguarded =>
    split at passes
    · cases passes
    · next unheld =>
      split at passes
      · cases passes
      · next present =>
        refine ⟨by simpa using unguarded, ?_, ?_, mode⟩
        · cases owner : v.hold.owner with
          | none => exact .inl rfl
          | some o => simpa [owner] using unheld
        · simpa [imp_iff_not_or] using present

end

/-- Settles O37: the tasks by the owner of the hold, the two hearings of the hold record, and the only entry of a port
by its checks and its kind. -/
theorem holdReleaseAndGuardFollowTheirRecords : Obligations.HoldReleaseAndGuardFollowTheirRecords := by
  refine ⟨fun s p f => ⟨fun free => ?_, fun o owner other => ⟨?_, fun plain => ?_, fun forced => ?_⟩, fun owner => ?_,
      fun owner => ?_, ?_⟩,
    State.startEntry_hold, fun s p e rest fin queue => State.finishHead_hold queue fin,
    fun s p e seconds queue idle hseconds => ⟨fun fails => ?_, fun passes hold free => ?_,
      fun passes send text mode => ?_⟩⟩
  · rw [State.holdTask_grants free]
    exact ⟨rfl, by simp, by simp [holdSeconds], rfl⟩
  · exact State.holdTask_refuses owner other
  · rw [State.releaseTask_other owner other, TaskFields.force, plain]
    rfl
  · rw [State.releaseTask_other owner other, TaskFields.force, forced, if_pos rfl]
    refine ⟨rfl, by simp [State.holdLost_port], by simp [State.holdLost_port], ?_⟩
    exact State.notice_attention _ _ (c := .hold) rfl
  · rw [State.releaseTask_owner owner]
    exact ⟨rfl, by simp, by simp, by simp⟩
  · exact State.releaseTask_unheld owner
  · refine ⟨rfl, fun i hi => by simp [hi], ?_⟩
    rw [State.guardTask_guard]
    rfl
  · obtain ⟨code, failing⟩ := Option.ne_none_iff_exists'.1 fails
    have begun : ((s.startEntry p e).port p).queue = [e] := by simpa using queue
    rw [State.serveQueue_refused queue idle failing, State.finishHead_hold begun, State.startEntry_hold,
      Hold.restarted_restarted, Hold.restarted_idleSeconds]
    exact ⟨by simp [State.finishHead_port begun], rfl⟩
  · have begun : ((s.startEntry p e).port p).hold.owner = none
        ∨ ((s.startEntry p e).port p).hold.owner = some e.fields.originator := by simpa using free
    have queued : (((s.startEntry p e).holdGranted p e.fields).port p).queue = [e] := by simpa using queue
    rw [State.serveQueue_hold queue idle passes hold, State.holdTask_grants begun, State.finishHead_hold queued,
      State.holdGranted_hold, Hold.restarted_of_owner rfl, hseconds]
    exact ⟨by simp [State.finishHead_port queued], rfl⟩
  · rw [State.serveQueue_send queue idle send text (Port.sendPasses_of_headCheck send passes mode)]
    exact ⟨(s.sendStarted_queue p e).trans queue, s.sendStarted_hold p e⟩

end Sys2Proof.Machine
end

section
/-! SUPPORT. Time and the arithmetic of the lines: what a step and an increment make of the clock, the deadline rule,
the rounding of periods, the nearest standard period, and the bits of a character; the statements on them. -/

namespace Sys2Proof.Machine

/-! ### The queue of commands and the clock (R64) -/

theorem step_command (c : Instr) (rest : List Instr) (s : State) :
    step { s with pending := c :: rest } = exec c { s with pending := rest } := rfl

theorem step_idle {s : State} (empty : s.pending = []) : step s = .next s.idleTick := by
  simp only [step, empty]

theorem exec_partTimeIncrement (s : State) : exec .partTimeIncrement s = .next s.partTimeIncrement := rfl

theorem State.idleTick_within {s : State} (within : s.time.ticks + 1 < (s.time.increments + 1) * 36864) :
    s.idleTick = { s with time := { s.time with ticks := s.time.ticks + 1 } } := by
  rw [State.idleTick, if_neg (show ¬ s.nextIncrement ≤ s.time.ticks + 1 from Nat.not_le.2 within), State.reachTick,
    Nat.max_eq_right (Nat.le_succ _)]

theorem State.idleTick_passes {s : State} (passes : (s.time.increments + 1) * 36864 ≤ s.time.ticks + 1) :
    s.idleTick = s.partTimeIncrement :=
  if_pos passes

/-- Settles O2: the front command is carried out as it stands, and an idle tick goes by the phase. -/
theorem stepTakesTheFrontCommand : Obligations.StepTakesTheFrontCommand := by
  refine ⟨step_command, fun s empty => ⟨fun within => ?_, fun passes => ?_⟩⟩
  · rw [step_idle empty, State.idleTick_within within]
  · rw [step_idle empty, State.idleTick_passes passes, exec_partTimeIncrement]

/-! ### The part-time increment (R64, R157) -/

theorem State.partTimeIncrement_plain {s : State} (begun : s.scanner.firstDue = false) :
    s.partTimeIncrement = s.increment := by
  simp [State.partTimeIncrement, begun]

theorem State.partTimeIncrement_first {s : State} (due : s.scanner.firstDue = true) :
    s.partTimeIncrement = s.increment.startSenseSweep := by
  simp [State.partTimeIncrement, due]

@[simp] theorem State.increment_partTime (s : State) : s.increment.partTime = s.partTime + 1 :=
  BitVec.ofNat_add ..

@[simp] theorem State.increment_phase (s : State) : s.increment.phase = 0 := by
  simp [State.phase, State.increment, State.nextIncrement]

/-- A sense sweep that begins at an increment starts on its tick, with the interval timer armed at phase 0. -/
theorem State.increment_startSenseSweep_scanner (s : State) : s.increment.startSenseSweep.scanner = { s.scanner with
    sweep := some { startTick := (s.time.increments + 1) * 36864, port := 0 }
    timer := some { armedAt := s.time.increments + 1, phase := 0, span := s.scanner.interval }
    firstDue := false } := by
  simp only [State.startSenseSweep, State.arm, State.increment_phase]
  rfl

/-- Settles O3: by whether the first sense sweep is due. -/
theorem partTimeIncrementAdvancesPartTime : Obligations.PartTimeIncrementAdvancesPartTime := by
  intro s
  refine ⟨_, exec_partTimeIncrement s, ?_⟩
  cases first : s.scanner.firstDue with
  | false =>
    rw [State.partTimeIncrement_plain first]
    exact ⟨s.increment_partTime, s.increment_phase, rfl, fun _ => rfl, nofun, rfl, rfl, rfl, rfl, rfl, rfl, rfl, rfl,
      rfl⟩
  | true =>
    rw [State.partTimeIncrement_first first]
    exact ⟨s.increment_partTime, s.increment_phase, rfl, nofun, fun _ => s.increment_startSenseSweep_scanner, rfl, rfl,
      rfl, rfl, rfl, rfl, rfl, rfl, rfl⟩

/-! ### The deadline rule (R66) -/

theorem State.arm_dueAt (s : State) (span n : Nat) :
    (s.arm span).dueAt (s.time.increments + n) = true ↔ span ≤ n := by
  simp [State.arm, Timer.dueAt]

theorem State.arm_expiryTime (s : State) (span : Nat) :
    (s.arm span).expiryTime = s.partTime + BitVec.ofNat 32 span :=
  BitVec.ofNat_add ..

theorem State.arm_realWait (s : State) (span : Nat) : (s.arm span).realWait = span * 36864 - s.phase := rfl

/-- Within a part-time value the phase is what the ticks have gone on since its increment. -/
theorem State.phase_within {s : State} (within : s.time.ticks < (s.time.increments + 1) * 36864) :
    s.phase = s.time.ticks - s.time.increments * 36864 := by
  simp only [State.phase, Config.ticksPerMs]
  omega

/-- On the tick of an increment that is still to be taken the phase is the last one. -/
theorem State.phase_atIncrement {s : State} (tick : s.time.ticks = (s.time.increments + 1) * 36864) :
    s.phase = 36863 := by
  simp only [State.phase, Config.ticksPerMs]
  omega

/-- Settles O4: the wait is T part-time values less the phase at the arming. -/
theorem timerFollowsTheDeadlineRule : Obligations.TimerFollowsTheDeadlineRule := by
  intro s span positive behind
  refine ⟨s.arm_dueAt span, s.arm_expiryTime span, fun within => ?_, fun tick => ?_⟩
  · rw [s.arm_realWait, State.phase_within within]
    omega
  · rw [s.arm_realWait, State.phase_atIncrement tick]
    exact ⟨State.phase_atIncrement tick, by omega⟩

/-! ### Rates and periods (R68 to R70) -/

/-- Division to the nearest, a half up: the quotient is off by at most a half. -/
theorem nearest_div_bounds (n : Nat) {d : Nat} (positive : 0 < d) :
    2 * n < (2 * ((n + d / 2) / d) + 1) * d ∧ (2 * ((n + d / 2) / d) - 1) * d ≤ 2 * n := by
  have parts := Nat.div_add_mod (n + d / 2) d
  have rest := Nat.mod_lt (n + d / 2) positive
  rw [Nat.add_mul, Nat.sub_mul, Nat.mul_assoc, Nat.mul_comm _ d]
  omega

theorem clampRate_within {rate : Nat} (low : 600 ≤ rate) (high : rate ≤ 1152000) : clampRate rate = rate := by
  unfold clampRate
  omega

theorem clampRate_low {rate : Nat} (low : rate < 600) : clampRate rate = 600 := by
  unfold clampRate
  omega

theorem clampRate_high {rate : Nat} (high : 1152000 < rate) : clampRate rate = 1152000 := by
  unfold clampRate
  omega

/-! ### The nearest standard period (R98) -/

theorem periodDistance_eq (a b : Nat) : periodDistance a b = if a ≤ b then b - a else a - b := by
  unfold periodDistance
  split <;> omega

/-- The smallest choice folded over candidates is as small as each of them, and as the first. -/
theorem foldl_least_le {α : Type} (f : α → Nat) (candidates : List α) (first : α) :
    ∀ q ∈ first :: candidates,
      f (candidates.foldl (fun best q => if f q < f best then q else best) first) ≤ f q := by
  induction candidates generalizing first with
  | nil => simp
  | cons c rest ih =>
    have least := ih (if f c < f first then c else first)
    have chosen : f (if f c < f first then c else first) ≤ f c ∧ f (if f c < f first then c else first) ≤ f first := by
      split <;> omega
    have below := least _ List.mem_cons_self
    intro q mem
    rcases List.mem_cons.1 mem with rfl | mem
    · exact below.trans chosen.2
    · rcases List.mem_cons.1 mem with rfl | mem
      · exact below.trans chosen.1
      · exact least q (List.mem_cons_of_mem _ mem)

theorem nearestStandard_least (estimate : Nat) {q : Nat} (mem : q ∈ standardPeriods) :
    periodDistance estimate (nearestStandard estimate) ≤ periodDistance estimate q :=
  foldl_least_le (periodDistance estimate) standardPeriods 61440 q (List.mem_cons_of_mem _ mem)

/-- Two standard periods lie further apart than the tolerances of both together. -/
theorem standardPeriods_apart :
    ∀ q ∈ standardPeriods, ∀ r ∈ standardPeriods, q ≠ r → 12 * q < 100 * periodDistance q r := by decide

theorem periodDistance_triangle (estimate q r : Nat) :
    periodDistance q r ≤ periodDistance estimate q + periodDistance estimate r := by
  unfold periodDistance
  omega

/-- Within the tolerance of a standard period no other is as near. -/
theorem nearestStandard_within {estimate q : Nat} (mem : q ∈ standardPeriods)
    (within : 100 * periodDistance estimate q ≤ 6 * q) : nearestStandard estimate = q := by
  by_contra other
  have least := nearestStandard_least estimate mem
  have apart := standardPeriods_apart q mem _ (nearestStandard_mem estimate) (Ne.symm other)
  have triangle := periodDistance_triangle estimate q (nearestStandard estimate)
  omega

theorem periodOfEstimate_within {estimate q : Nat} (mem : q ∈ standardPeriods)
    (within : 100 * periodDistance estimate q ≤ 6 * q) : periodOfEstimate estimate = q := by
  rw [periodOfEstimate, nearestStandard_within mem within]
  exact if_pos within

theorem periodOfEstimate_outside {estimate : Nat}
    (outside : ∀ q ∈ standardPeriods, 6 * q < 100 * periodDistance estimate q) :
    periodOfEstimate estimate = max 32 (min estimate 61440) :=
  if_neg (Nat.not_le.2 (outside _ (nearestStandard_mem estimate)))

/-- Settles O48: the clamp and the rounding of a rate, and the windows of the standard periods, which lie apart. -/
theorem periodsFollowRatesAndEstimates : Obligations.PeriodsFollowRatesAndEstimates := by
  refine ⟨fun rate => ?_, fun q _ => rfl, periodOfEstimate_bounds, fun estimate q mem within => ?_,
    fun estimate outside => ?_⟩
  · obtain ⟨low, high⟩ := periodOfRate_bounds rate
    refine ⟨low, high, fun low high => ?_, fun low => ?_, fun high => ?_⟩
    · rw [periodOfRate, clampRate_within low high]
      exact nearest_div_bounds Config.referenceHz (by omega)
    · rw [periodOfRate, clampRate_low low, Config.referenceHz]
    · rw [periodOfRate, clampRate_high high, Config.referenceHz]
  · exact periodOfEstimate_within mem (by rwa [periodDistance_eq])
  · refine periodOfEstimate_outside fun q mem => ?_
    rw [periodDistance_eq]
    exact outside q mem

/-! ### The bits of a character (R71, R81) -/

/-- The parity of the bits is that of the number of MARKs among them. -/
theorem oddOnes_eq (bits : List Bool) : oddOnes bits = decide (bits.count true % 2 = 1) := by
  have folded (start : Bool) : bits.foldl xor start = (start ^^ decide (bits.count true % 2 = 1)) := by
    induction bits generalizing start with
    | nil => simp
    | cons bit rest ih =>
      rw [List.foldl_cons, ih, Bool.xor_assoc]
      rcases Nat.mod_two_eq_zero_or_one (rest.count true) with even | odd <;> cases bit <;>
        simp [Nat.add_mod, *]
  exact (folded false).trans (Bool.false_xor _)

@[simp] theorem LineFormat.dataOf_length (f : LineFormat) (b : Byte) : (f.dataOf b).length = f.dataBits := by
  simp [LineFormat.dataOf]

@[simp] theorem Parity.bitFor_length (parity : Parity) (data : List Bool) :
    (parity.bitFor data).length = parity.bits := by
  cases parity <;> rfl

theorem LineFormat.frame_length (f : LineFormat) (b : Byte) : (f.frame b).length = f.charBits := by
  simp [LineFormat.frame, LineFormat.charBits]
  omega

theorem LineFormat.frame_data (f : LineFormat) (b : Byte) {i : Nat} (h : i < f.dataBits) :
    (f.frame b)[1 + i]? = some (b.getLsbD i) := by
  rw [LineFormat.frame, Nat.add_comm, List.getElem?_cons_succ, List.append_assoc,
    List.getElem?_append_left (by simpa using h)]
  simp [LineFormat.dataOf, h]

theorem LineFormat.frame_stop (f : LineFormat) (b : Byte) {i : Nat} (h : i < f.stopBits) :
    (f.frame b)[f.charBits - 1 - i]? = some true := by
  have place : f.charBits - 1 - i = f.dataBits + f.parity.bits + (f.stopBits - 1 - i) + 1 := by
    unfold LineFormat.charBits
    omega
  rw [LineFormat.frame, place, List.getElem?_cons_succ, List.getElem?_append_right (by simp),
    List.getElem?_replicate, if_pos]
  rw [List.length_append, f.dataOf_length, f.parity.bitFor_length]
  omega

/-- Behind the start bit the data bits and the parity bit follow. -/
theorem LineFormat.frame_parity (f : LineFormat) (b : Byte) {bit : Bool}
    (parity : f.parity.bitFor (f.dataOf b) = [bit]) :
    ((f.frame b).drop 1).take (f.dataBits + 1) = f.dataOf b ++ [bit] := by
  rw [LineFormat.frame, parity]
  exact List.take_left' (by simp)

theorem even_count_append_oddOnes (data : List Bool) : (data ++ [oddOnes data]).count true % 2 = 0 := by
  rw [oddOnes_eq, List.count_append]
  rcases Nat.mod_two_eq_zero_or_one (data.count true) with even | odd <;> simp [Nat.add_mod, *]

theorem odd_count_append_oddOnes (data : List Bool) : (data ++ [!oddOnes data]).count true % 2 = 1 := by
  rw [oddOnes_eq, List.count_append]
  rcases Nat.mod_two_eq_zero_or_one (data.count true) with even | odd <;> simp [Nat.add_mod, *]

/-- Settles O38: the parts of a frame, each at its place. -/
theorem charactersAreFramedByTheFormat : Obligations.CharactersAreFramedByTheFormat := by
  intro f b _
  refine ⟨f.frame_length b, rfl, fun i => f.frame_data b, fun even => ?_, fun odd => ?_, fun i => f.frame_stop b⟩
  · rw [f.frame_parity b (bit := oddOnes (f.dataOf b)) (by rw [even]; rfl)]
    exact even_count_append_oddOnes _
  · rw [f.frame_parity b (bit := !oddOnes (f.dataOf b)) (by rw [odd]; rfl)]
    exact odd_count_append_oddOnes _

end Sys2Proof.Machine
end

section
/-! SUPPORT. The end of a gap and of a pause, and what a transmitter that is freed takes; the statement on them. -/

namespace Sys2Proof.Machine

/-! ### The clock that goes on within its part-time value (log 4) -/

theorem State.onlyPort_reachTick (s : State) (p : PortId) (tick : Nat) : s.onlyPort p (s.reachTick tick) :=
  ⟨⟨rfl, rfl, rfl, rfl, rfl, rfl, rfl, rfl, rfl⟩, fun _ _ => rfl, rfl⟩

theorem State.endsNow_of {s : State} {tick : Nat} (inTime : tick ≤ (s.time.increments + 1) * 36864) :
    s.endsNow tick = true := decide_eq_true inTime

/-! ### The transmitter that is freed (R74, R82, R84) -/

theorem State.transmitterAt_busy {s : State} {p : PortId} {tx : Transmitter} (busy : tx ≠ .free) :
    s.transmitterAt p tx = s.modPort p fun v => { v with slu := { v.slu with tx := tx } } :=
  State.serveTransmitter_busy (by simpa using busy)

theorem State.transmitterAt_free (s : State) (p : PortId) :
    s.transmitterAt p .free = (s.lineFreed p).serveTransmitter p := rfl

section
variable {s : State} {p : PortId}

theorem State.serveTransmitter_idle (state : (s.port p).exc.state = .idle) : s.serveTransmitter p = s := by
  simp [State.serveTransmitter, state]

theorem State.serveTransmitter_sending (free : (s.port p).slu.tx = .free) (state : (s.port p).exc.state = .sending)
    (going : (s.port p).exc.stopping = none) : s.serveTransmitter p = s.handByte p := by
  simp [State.serveTransmitter, free, state, going]

theorem State.serveTransmitter_breaking (free : (s.port p).slu.tx = .free)
    (state : (s.port p).exc.state = .breaking) (unarmed : (s.port p).exc.timer = none) :
    s.serveTransmitter p = s.startSpace p := by
  simp [State.serveTransmitter, free, state, unarmed]

theorem State.onlyPort_lineFreed (s : State) (p : PortId) : s.onlyPort p (s.lineFreed p) := s.onlyPort_modPort p _

theorem State.onlyPort_handByte (s : State) (p : PortId) : s.onlyPort p (s.handByte p) := by
  unfold State.handByte
  split
  · exact ⟨⟨rfl, rfl, rfl, rfl, rfl, rfl, rfl, rfl, rfl⟩, fun _ _ => rfl, rfl⟩
  · exact s.onlyPort_modPort p _

theorem State.onlyPort_startSpace (s : State) (p : PortId) : s.onlyPort p (s.startSpace p) := s.onlyPort_modPort p _

@[simp] theorem State.startSpace_port (s : State) (p : PortId) : (s.startSpace p).port p =
    (s.port p).noting { s.port p with
      slu := { (s.port p).slu with tx := .breakSpace }
      exc := { (s.port p).exc with timer := some (s.arm (s.port p).headBreakMs) } } := by
  simp [State.startSpace]

/-! ### The tick at which an interval leaves its transmitter FREE -/

/-- The clock has reached the end of an interval, and the transmitter is FREE and takes what waits (R74). -/
def State.freedAt (s : State) (p : PortId) (d : Nat) : State := (s.reachTick d).transmitterAt p .free

theorem State.freedAt_idle {d : Nat} (state : (s.port p).exc.state = .idle) :
    s.freedAt p d = (s.reachTick d).lineFreed p := by
  rw [State.freedAt, State.transmitterAt_free]
  exact State.serveTransmitter_idle (by simpa using state)

/-- An idle controller has nothing for the transmitter. -/
theorem State.freedAt_stays {d : Nat} (state : (s.port p).exc.state = .idle) :
    ((s.freedAt p d).port p).slu = { (s.port p).slu with tx := .free }
      ∧ ((s.freedAt p d).port p).exc = (s.port p).exc ∧ ((s.freedAt p d).port p).queue = (s.port p).queue
      ∧ s.onlyPort p (s.freedAt p d) := by
  rw [State.freedAt_idle state]
  exact ⟨by simp, by simp, by simp, (s.onlyPort_reachTick p d).trans (State.onlyPort_lineFreed _ p)⟩

/-- A sending hands its oldest staged byte (R74, R82). -/
theorem State.freedAt_byteTaken {d : Nat} {b : Byte} {rest : List Byte} (state : (s.port p).exc.state = .sending)
    (going : (s.port p).exc.stopping = none) (staged : (s.port p).slu.staging = b :: rest) :
    s.byteTaken p d b rest (s.freedAt p d) := by
  have hands : s.freedAt p d = ((s.reachTick d).lineFreed p).handByte p := by
    rw [State.freedAt, State.transmitterAt_free]
    exact State.serveTransmitter_sending (by simp) (by simpa using state) (by simpa using going)
  have port := ((s.reachTick d).lineFreed p).handByte_port p (b := b) (rest := rest) (by simpa using staged)
  rw [hands]
  refine ⟨⟨(s.reachTick d).characterOf (s.port p).slu.line b, ?_, rfl, rfl, rfl, rfl, rfl⟩, ?_, ?_,
    ((s.onlyPort_reachTick p d).trans (State.onlyPort_lineFreed _ p)).trans (State.onlyPort_handByte _ p)⟩
  · rw [port]
    simp [State.characterOf, State.lineFreed]
  · simp [port]
  · simp [port]

/-- A break that waits begins its SPACE (R40, R84). -/
theorem State.freedAt_spaceTaken {d : Nat} (state : (s.port p).exc.state = .breaking)
    (unarmed : (s.port p).exc.timer = none) : s.spaceTaken p (s.freedAt p d) := by
  have begins : s.freedAt p d = ((s.reachTick d).lineFreed p).startSpace p := by
    rw [State.freedAt, State.transmitterAt_free]
    exact State.serveTransmitter_breaking (by simp) (by simpa using state) (by simpa using unarmed)
  rw [begins]
  refine ⟨by simp, ⟨((s.reachTick d).lineFreed p).arm (((s.reachTick d).lineFreed p).port p).headBreakMs, by simp, rfl,
    ?_⟩, by simp, ((s.onlyPort_reachTick p d).trans (State.onlyPort_lineFreed _ p)).trans
      (State.onlyPort_startSpace _ p)⟩
  simp [State.arm, Port.headBreakMs]

/-! ### The ends of a gap and of a pause (R72, R73) -/

theorem exec_txGapEnd (p : PortId) (s : State) : exec (.txGapEnd p) s = .next (s.endGap p) := rfl

theorem exec_txPauseEnd (p : PortId) (s : State) : exec (.txPauseEnd p) s = .next (s.endPause p) := rfl

theorem State.afterGap_pause {l : LineSettings} (paused : 0 < l.pauseMs) :
    s.afterGap l true = .pause (s.time.ticks + l.pauseMs * 36864) := by
  simp [State.afterGap, LineSettings.pauseTicks, paused]

theorem State.afterGap_free {l : LineSettings} {pauseFollows : Bool}
    (none : pauseFollows = false ∨ l.pauseMs = 0) : s.afterGap l pauseFollows = .free := by
  rcases none with h | h <;> simp [State.afterGap, LineSettings.pauseTicks, h]

theorem State.endGap_now {d : Nat} {pauseFollows : Bool} (gap : (s.port p).slu.tx = .gap d pauseFollows)
    (inTime : d ≤ (s.time.increments + 1) * 36864) :
    s.endGap p = (s.reachTick d).transmitterAt p ((s.reachTick d).afterGap (s.port p).slu.line pauseFollows) := by
  simp only [State.endGap, gap, State.endsNow_of inTime, if_true]

theorem State.endGap_paused {d : Nat} (gap : (s.port p).slu.tx = .gap d true)
    (inTime : d ≤ (s.time.increments + 1) * 36864) (paused : 0 < (s.port p).slu.line.pauseMs) :
    s.endGap p = (s.reachTick d).modPort p fun v => { v with slu := { v.slu with
      tx := .pause (max s.time.ticks d + (s.port p).slu.line.pauseMs * 36864) } } := by
  rw [State.endGap_now gap inTime, State.afterGap_pause paused]
  exact State.transmitterAt_busy nofun

theorem State.endGap_freed {d : Nat} {pauseFollows : Bool} (gap : (s.port p).slu.tx = .gap d pauseFollows)
    (inTime : d ≤ (s.time.increments + 1) * 36864)
    (none : pauseFollows = false ∨ (s.port p).slu.line.pauseMs = 0) : s.endGap p = s.freedAt p d := by
  rw [State.endGap_now gap inTime, State.afterGap_free none, State.freedAt]

theorem State.endPause_freed {d : Nat} (pause : (s.port p).slu.tx = .pause d)
    (inTime : d ≤ (s.time.increments + 1) * 36864) : s.endPause p = s.freedAt p d := by
  simp only [State.endPause, pause, State.endsNow_of inTime, if_true, State.freedAt]

theorem exec_txGapEnd_freed {d : Nat} {pauseFollows : Bool} (gap : (s.port p).slu.tx = .gap d pauseFollows)
    (inTime : d ≤ (s.time.increments + 1) * 36864)
    (none : pauseFollows = false ∨ (s.port p).slu.line.pauseMs = 0) :
    exec (.txGapEnd p) s = .next (s.freedAt p d) :=
  (exec_txGapEnd p s).trans (congrArg _ (State.endGap_freed gap inTime none))

theorem exec_txPauseEnd_freed {d : Nat} (pause : (s.port p).slu.tx = .pause d)
    (inTime : d ≤ (s.time.increments + 1) * 36864) : exec (.txPauseEnd p) s = .next (s.freedAt p d) :=
  (exec_txPauseEnd p s).trans (congrArg _ (State.endPause_freed pause inTime))

end

/-- Settles O40: a gap goes to its pause or frees the transmitter as a pause does, and the freed one takes what its
controller's state has for it. -/
theorem gapAndPauseEndInTurn : Obligations.GapAndPauseEndInTurn := by
  refine ⟨fun s p d gap inTime paused => ?_, fun s p d pf gap inTime none idle => ?_,
    fun s p d pause inTime idle => ?_, fun s p d pf b rest inTime sending going staged => ⟨fun pause => ?_,
      fun gap none => ?_⟩, fun s p d pf inTime breaking unarmed => ⟨fun pause => ?_, fun gap none => ?_⟩⟩
  · refine ⟨_, (exec_txGapEnd p s).trans (congrArg _ (State.endGap_paused gap inTime paused)), by simp, by simp,
      by simp, (s.onlyPort_reachTick p d).trans (State.onlyPort_modPort _ p _)⟩
  · exact ⟨_, exec_txGapEnd_freed gap inTime none, State.freedAt_stays idle⟩
  · exact ⟨_, exec_txPauseEnd_freed pause inTime, State.freedAt_stays idle⟩
  · exact ⟨_, exec_txPauseEnd_freed pause inTime, State.freedAt_byteTaken sending going staged⟩
  · exact ⟨_, exec_txGapEnd_freed gap inTime none, State.freedAt_byteTaken sending going staged⟩
  · exact ⟨_, exec_txPauseEnd_freed pause inTime, State.freedAt_spaceTaken breaking unarmed⟩
  · exact ⟨_, exec_txGapEnd_freed gap inTime none, State.freedAt_spaceTaken breaking unarmed⟩

end Sys2Proof.Machine
end

section
/-! SUPPORT. The quiet timer, and the delivery of a decoded byte at its last stop sample where no pattern is armed and
none is verified; the statements on both. -/

namespace Sys2Proof.Machine

/-! ### The quiet timer (R77, R130) -/

theorem exec_quietTimerExpiry (p : PortId) (s : State) :
    exec (.quietTimerExpiry p) s = .next (s.quietExpires p) := rfl

/-- The quiet timer of a port does not run. -/
def State.quietStopped (s : State) (p : PortId) : State :=
  s.modPort p fun v => { v with slu := { v.slu with quietEnd := none } }

@[simp] theorem State.quietStopped_port (s : State) (p : PortId) : (s.quietStopped p).port p =
    (s.port p).noting { s.port p with slu := { (s.port p).slu with quietEnd := none } } := by
  simp [State.quietStopped]

theorem State.onlyPort_quietStopped (s : State) (p : PortId) : s.onlyPort p (s.quietStopped p) :=
  s.onlyPort_modPort p _

section
variable {s : State} {p : PortId}

theorem State.quietExpires_now {d : Nat} (runs : (s.port p).slu.quietEnd = some d)
    (inTime : d ≤ (s.time.increments + 1) * 36864) :
    s.quietExpires p = ((s.reachTick d).quietStopped p).handItem p .quiet := by
  simp only [State.quietExpires, runs, State.endsNow_of inTime, if_true]
  rfl

theorem State.quietExpires_not
    (notDue : ∀ d, (s.port p).slu.quietEnd = some d → (s.time.increments + 1) * 36864 < d) :
    s.quietExpires p = s := by
  unfold State.quietExpires
  split
  · rfl
  · next tick runs =>
    have late : s.endsNow tick = false := decide_eq_false (Nat.not_le.2 (notDue tick runs))
    rw [late, if_neg Bool.false_ne_true]

/-- An ordinary item joins the event list of a listening port where fewer than 16 ordinary ones wait (R130). -/
theorem State.handItem_events_room {action : ItemAction} (listening : s.listening p = true)
    (ordinary : action.always = false) (room : (s.port p).ca.ordinaryItems < 16) :
    ((s.handItem p action).port p).ca.events = (s.port p).ca.events ++
      [{ position := (s.port p).slu.receiveCount, time := s.partTime, action := action }] := by
  rw [State.handItem_listening listening, State.port_modPort_same, Port.noting_ca]
  simp only [Capture.placeItem, ordinary, if_pos (show (s.port p).ca.ordinaryItems < Config.eventCapacity from room)]
  rfl

/-- An item leaves the data record that is open. -/
theorem State.handItem_openData (s : State) (p : PortId) (action : ItemAction) :
    ((s.handItem p action).port p).ca.openData = (s.port p).ca.openData := by
  unfold State.handItem
  split
  · simp [Capture.placeItem]
  · rfl

end

/-- Settles O46: the timer stops and its item joins the event list; one that is not due changes nothing. -/
theorem quietTimerHandsAQuietItem : Obligations.QuietTimerHandsAQuietItem := by
  refine ⟨fun s p d runs inTime on inUse room => ?_, fun s p notDue => ?_⟩
  · have listening : ((s.reachTick d).quietStopped p).listening p = true := State.listening_of on inUse
    have fits : (((s.reachTick d).quietStopped p).port p).ca.ordinaryItems < 16 := by
      simpa [Capture.ordinaryItems] using room
    refine ⟨_, (exec_quietTimerExpiry p s).trans (congrArg _ (State.quietExpires_now runs inTime)), ?_, by simp, ?_, ?_,
      by simp, by simp, ((s.onlyPort_reachTick p d).trans (State.onlyPort_quietStopped _ p)).trans
        (State.onlyCapture_handItem _ p _).onlyPort⟩
    · rw [State.handItem_time]
      rfl
    · rw [State.handItem_events_room listening rfl fits]
      simp [State.quietStopped]
    · rw [State.handItem_openData]
      simp
  · rw [exec_quietTimerExpiry, State.quietExpires_not notDue]

/-! ### The samples of a character (R81, R85) -/

theorem exec_rxByteDelivered (p : PortId) (r : RxSamples) (phase : Nat) (s : State) :
    exec (.rxByteDelivered p r phase) s = .next (s.receiveByte p r phase).watchDrain := rfl

section
variable {f : LineFormat} (r : RxSamples)

theorem LineFormat.parityError_none (parity : f.parity = .noParity) : f.parityError r = false := by
  simp [LineFormat.parityError, parity, Parity.bitFor]

/-- Under even parity an odd number of MARKs in data and parity is the error (R81). -/
theorem LineFormat.parityError_even (parity : f.parity = .even) :
    f.parityError r = decide ((f.dataOf r.data ++ [r.parity]).count true % 2 = 1) := by
  simp only [LineFormat.parityError, parity, Parity.bitFor, oddOnes_eq, List.count_append]
  rcases Nat.mod_two_eq_zero_or_one ((f.dataOf r.data).count true) with even | odd <;> cases r.parity <;>
    simp [Nat.add_mod, *]

/-- Under odd parity an even number of MARKs in data and parity is the error (R81). -/
theorem LineFormat.parityError_odd (parity : f.parity = .odd) :
    f.parityError r = decide ((f.dataOf r.data ++ [r.parity]).count true % 2 = 0) := by
  simp only [LineFormat.parityError, parity, Parity.bitFor, oddOnes_eq, List.count_append]
  rcases Nat.mod_two_eq_zero_or_one ((f.dataOf r.data).count true) with even | odd <;> cases r.parity <;>
    simp [Nat.add_mod, *]

variable {r}

theorem Parity.bits_ne_zero {parity : Parity} (checked : parity ≠ .noParity) : parity.bits ≠ 0 := by
  cases parity with
  | noParity => exact absurd rfl checked
  | even => exact Nat.one_ne_zero
  | odd => exact Nat.one_ne_zero

/-- A character whose data, parity and stop samples are not all SPACE is no zero character (R86). -/
theorem LineFormat.not_zero_of (marked : f.byteOf r.data ≠ 0 ∨ f.framingError r = false
      ∨ (f.parity ≠ .noParity ∧ r.parity = true)) : ¬ (f.allSpace r && f.framingError r) = true := by
  rcases marked with byte | framing | ⟨parity, mark⟩
  · rw [LineFormat.allSpace, decide_eq_false byte]
    simp
  · simp [framing]
  · simp [LineFormat.allSpace, Parity.bits_ne_zero parity, mark]

end

/-! ### The delivery of a byte that nothing matches (R85, R89 to R91) -/

/-- With no pattern armed none completes. -/
theorem PortMatch.completedBy_unarmed {m : PortMatch} (watch : m.watch = 0) (await : m.await = none)
    (table : Vector (Option (List Element)) 32) (b : Byte) : m.completedBy table b = [] := by
  simp [PortMatch.completedBy, PortMatch.armed, watch, await]

section
variable (v : Port) (e : FifoEntry)

theorem Port.storeByte_slu : (v.storeByte e).slu = { v.slu with fifo := (v.storeByte e).slu.fifo } := by
  unfold Port.storeByte
  split <;> rfl

@[simp] theorem Port.storeByte_rf : (v.storeByte e).rf = v.rf := by
  unfold Port.storeByte
  split <;> rfl

@[simp] theorem Port.storeByte_guard : (v.storeByte e).guard = v.guard := by
  unfold Port.storeByte
  split <;> rfl

end

/-- A lost byte ends the last loss run (R129). -/
theorem Capture.loseByte_last (ca : Capture) (sequence : Word) (trigger : Option PatternId) :
    ∃ run, (ca.loseByte sequence trigger).lossRuns.getLast? = some run
      ∧ run.sequence + BitVec.ofNat 32 run.count = sequence + 1 := by
  unfold Capture.loseByte
  dsimp only
  split
  · next last _ =>
    split
    · next grows =>
      refine ⟨_, List.getLast?_concat .., ?_⟩
      have follows := of_decide_eq_true (Bool.and_eq_true_iff.1 grows).2
      rw [BitVec.ofNat_add, ← BitVec.add_assoc, follows]
      rfl
    · exact ⟨_, List.getLast?_concat .., rfl⟩
  · exact ⟨_, rfl, rfl⟩

section
variable (s : State) (p : PortId) (b : Byte) (framing parity : Bool)

/-- The counters, the quiet timer and the FIFO are all that a stored byte changes of its line. -/
theorem State.byteStored_slu : ((s.byteStored p b framing parity).port p).slu = { (s.port p).slu with
    receiveCount := (s.port p).slu.receiveCount + 1
    fifo := ((s.byteStored p b framing parity).port p).slu.fifo
    quietEnd := some (s.time.ticks + (s.port p).slu.line.quietTicks)
    errors := (s.port p).slu.errors.countByte framing parity (64 ≤ (s.port p).slu.fifo.length) } := by
  simp only [State.byteStored, State.port_modPort_same, Port.noting_slu]
  rw [Port.storeByte_slu, State.byteMatched_port]

@[simp] theorem State.byteStored_quietEnd : ((s.byteStored p b framing parity).port p).slu.quietEnd =
    some (s.time.ticks + (s.port p).slu.line.quietTicks) := by rw [State.byteStored_slu]

@[simp] theorem State.byteStored_errors : ((s.byteStored p b framing parity).port p).slu.errors =
    (s.port p).slu.errors.countByte framing parity (64 ≤ (s.port p).slu.fifo.length) := by rw [State.byteStored_slu]

@[simp] theorem State.byteStored_rx : ((s.byteStored p b framing parity).port p).slu.rx = (s.port p).slu.rx := by
  rw [State.byteStored_slu]

@[simp] theorem State.byteStored_tx : ((s.byteStored p b framing parity).port p).slu.tx = (s.port p).slu.tx := by
  rw [State.byteStored_slu]

@[simp] theorem State.byteStored_line :
    ((s.byteStored p b framing parity).port p).slu.line = (s.port p).slu.line := by rw [State.byteStored_slu]

@[simp] theorem State.byteStored_rf : ((s.byteStored p b framing parity).port p).rf = (s.port p).rf := by
  simp only [State.byteStored, State.port_modPort_same, Port.noting_rf, Port.storeByte_rf]
  rw [State.byteMatched_port]

@[simp] theorem State.byteStored_guard :
    ((s.byteStored p b framing parity).port p).guard = (s.port p).guard := by
  simp only [State.byteStored, State.port_modPort_same, Port.noting_guard, Port.storeByte_guard]
  rw [State.byteMatched_port]

end

section
variable {s : State} {p : PortId}

/-- A byte that no pattern completes at reaches nothing beyond its port. -/
theorem State.onlyPort_byteStored {b : Byte} (framing parity : Bool) (unmatched : s.byteCompleted p b = []) :
    s.onlyPort p (s.byteStored p b framing parity) := by
  have matched : (s.byteMatched p b).1 = s.byteJoined p b := by
    rw [(s.byteMatched_eq p b).1, unmatched]
    rfl
  rw [State.byteStored, matched, State.byteJoined]
  exact ((s.onlyPort_modPort p _).trans (State.onlyPort_modPort _ p _)).trans (State.onlyPort_modPort _ p _)

/-- Its entry in the FIFO has an empty note (R120). -/
theorem State.byteEntry_unmatched {b : Byte} (framing parity : Bool) (unmatched : s.byteCompleted p b = []) :
    s.byteEntry p b framing parity =
      { byte := b, sequence := (s.port p).slu.receiveCount, framing := framing, parity := parity, time := s.partTime,
        note := { count := 0, lowest := none, trigger := none } } := by
  rw [State.byteEntry_eq, unmatched]
  rfl

/-! ### The last stop sample (R85) -/

/-- The clock has reached the last stop sample of a character, and the receiver goes on by its level (R85). -/
def State.characterSampled (s : State) (p : PortId) (c : RxCharacter) (mark : Bool) : State :=
  (s.reachTick c.lastSample).receiverTo p (receiverAt mark) mark

@[simp] theorem State.characterSampled_port (s : State) (p : PortId) (c : RxCharacter) (mark : Bool) :
    (s.characterSampled p c mark).port p = (s.port p).noting { s.port p with
      slu := { (s.port p).slu with rx := receiverAt mark, lineMark := mark } } := by
  simp [State.characterSampled, State.receiverTo]

theorem State.onlyPort_characterSampled (s : State) (p : PortId) (c : RxCharacter) (mark : Bool) :
    s.onlyPort p (s.characterSampled p c mark) :=
  (s.onlyPort_reachTick p _).trans (State.onlyPort_modPort _ p _)

@[simp] theorem State.characterSampled_partTime (s : State) (p : PortId) (c : RxCharacter) (mark : Bool) :
    (s.characterSampled p c mark).partTime = s.partTime := rfl

theorem State.characterSampled_ticks {c : RxCharacter} (onTime : s.time.ticks ≤ c.lastSample) (mark : Bool) :
    (s.characterSampled p c mark).time.ticks = c.lastSample := Nat.max_eq_right onTime

/-- The last stop sample of a character that is no zero character makes a byte; where none is awaited and none
verified the byte is stored, and that is all. -/
theorem State.receiveByte_stored {c : RxCharacter} {r : RxSamples} {phase : Nat}
    (sampling : (s.port p).slu.rx = .sampling c) (inTime : c.lastSample ≤ (s.time.increments + 1) * 36864)
    (byte : ¬ (c.format.allSpace r && c.format.framingError r) = true) (listening : s.listening p = true)
    (settled : (s.port p).rf.state ≠ .verifying) (await : (s.port p).pm.await = none) :
    s.receiveByte p r phase = (s.characterSampled p c (c.format.endsAtMark r)).byteStored p
      (c.format.byteOf r.data) (c.format.framingError r) (c.format.parityError r) := by
  have hears : (s.reachTick c.lastSample).listening p = true := listening
  simp only [State.receiveByte, sampling, State.endsNow_of inTime, if_true]
  rw [State.lastSample, if_neg byte, State.completeByte, if_pos hears]
  exact State.deliver_stored (s := s.characterSampled p c _) (by simpa using settled) (by simp [await])

end

/-- Settles O44: the samples make a byte, and with no pattern armed the byte is stored or lost, and counted. -/
theorem decodedBytesAreDelivered : Obligations.DecodedBytesAreDelivered := by
  intro s p c r phase b framing parity sampling inTime onTime control inUse settled watch await byteIs framingIs
    parityIs someMark
  obtain rfl : b = c.format.byteOf r.data := byteIs
  obtain rfl : framing = c.format.framingError r := framingIs
  obtain rfl : parity = c.format.parityError r := by
    rw [parityIs]
    cases h : c.format.parity with
    | noParity => exact (LineFormat.parityError_none r h).symm
    | even => exact (LineFormat.parityError_even r h).symm
    | odd => exact (LineFormat.parityError_odd r h).symm
  have listening : s.listening p = true := State.listening_of (by rcases control with h | h <;> simp [h]) inUse
  have stored := State.receiveByte_stored (phase := phase) sampling inTime (LineFormat.not_zero_of someMark) listening
    settled await
  have ticks := State.characterSampled_ticks (p := p) onTime (c.format.endsAtMark r)
  have fifo : ((s.characterSampled p c (c.format.endsAtMark r)).port p).slu.fifo = (s.port p).slu.fifo := by simp
  have unmatched : (s.characterSampled p c (c.format.endsAtMark r)).byteCompleted p (c.format.byteOf r.data) = [] :=
    PortMatch.completedBy_unarmed (by simpa using watch) (by simpa using await) _ _
  obtain ⟨⟨_, bus, attention, _, hme, tsu, _⟩, elsewhere, _⟩ :=
    (s.onlyPort_characterSampled p c (c.format.endsAtMark r)).trans
      (State.onlyPort_byteStored (c.format.framingError r) (c.format.parityError r) unmatched)
  refine ⟨_, (exec_rxByteDelivered p r phase s).trans (congrArg _ ((congrArg _ stored).trans
    (State.watchDrain_same ?_))), ?_, by simp, ?_, ?_, fun room => ?_, fun full => ?_,
    by simp [ErrorCounters.countByte, countUp], by simp [ErrorCounters.countByte, countUp],
    by simp [ErrorCounters.countByte], by simp, by simp, by simp, by simp, by simp, by simp, attention, elsewhere, tsu,
    hme⟩
  · rw [bus]
    rcases control with h | h <;> simp [h]
  · rw [State.byteStored_time, ticks]
    rfl
  · rw [State.byteStored_quietEnd, ticks]
    simp [RxCharacter.lastSample, LineSettings.quietTicks, LineSettings.charTime, charTicks]
  · rw [State.byteStored_rx, State.characterSampled_port, Port.noting_slu]
    rfl
  · obtain ⟨queued, kept⟩ := State.byteStored_fits _ p _ _ _ (by rwa [fifo])
    rw [queued, kept, State.byteEntry_unmatched _ _ unmatched]
    exact ⟨by simp, by simp, by simp [ErrorCounters.countByte, countUp, room]⟩
  · obtain ⟨kept, lost⟩ := State.byteStored_lost _ p _ _ _ (by rwa [fifo])
    rw [kept, lost]
    refine ⟨fifo, by simp [ErrorCounters.countByte, countUp, full], ?_⟩
    simpa using Capture.loseByte_last _ (s.port p).slu.receiveCount _

end Sys2Proof.Machine
end

section
/-! SUPPORT. The receiver's edges, and zero characters: the wait on one, the byte or the BREAK that it becomes, and the
end of a BREAK; the statements on both. -/

namespace Sys2Proof.Machine

/-! ### The clock and the receiver (R85) -/

theorem State.onlyPort_reachPhase (s : State) (p : PortId) (phase : Nat) : s.onlyPort p (s.reachPhase phase) :=
  s.onlyPort_reachTick p _

theorem State.reachPhase_ticks (s : State) (phase : Nat) : (s.reachPhase phase).time.ticks =
    max s.time.ticks (s.time.increments * 36864 + min phase 36864) := rfl

/-- The receiver's state and the level of its line are not published, so that nothing else of the port changes. -/
@[simp] theorem State.receiverTo_port (s : State) (p : PortId) (rx : Receiver) (mark : Bool) :
    (s.receiverTo p rx mark).port p =
      { s.port p with slu := { (s.port p).slu with rx := rx, lineMark := mark } } := by
  rw [State.receiverTo, State.port_modPort_same]
  exact Port.noting_same rfl

theorem State.onlyPort_receiverTo (s : State) (p : PortId) (rx : Receiver) (mark : Bool) :
    s.onlyPort p (s.receiverTo p rx mark) := s.onlyPort_modPort p _

/-- A receiver that goes on once the clock has reached a tick, or a phase, changes its port alone. -/
theorem State.onlyPort_reachTick_receiverTo (s : State) (p : PortId) (tick : Nat) (rx : Receiver) (mark : Bool) :
    s.onlyPort p ((s.reachTick tick).receiverTo p rx mark) :=
  (s.onlyPort_reachTick p tick).trans (State.onlyPort_receiverTo _ p rx mark)

theorem State.onlyPort_reachPhase_receiverTo (s : State) (p : PortId) (phase : Nat) (rx : Receiver) (mark : Bool) :
    s.onlyPort p ((s.reachPhase phase).receiverTo p rx mark) := s.onlyPort_reachTick_receiverTo p _ rx mark

/-! ### Edges (R85, R97) -/

theorem exec_startEdge (p : PortId) (phase : Nat) (s : State) :
    exec (.startEdge p phase) s = .next (s.startEdge p phase) := rfl

theorem exec_falseStart (p : PortId) (s : State) : exec (.falseStart p) s = .next (s.falseStart p) := rfl

theorem exec_armingLineReturnsToMark (p : PortId) (phase : Nat) (s : State) :
    exec (.armingLineReturnsToMark p phase) s = .next (s.armed p phase) := rfl

section
variable {s : State} {p : PortId} {phase : Nat}

/-- A start edge in HUNTING begins a character of the port's settings. -/
theorem State.startEdge_hunting (hunting : (s.port p).slu.rx = .hunting) : s.startEdge p phase =
    (s.reachPhase phase).receiverTo p (.sampling ((s.reachPhase phase).characterAt (s.port p).slu.line)) false := by
  simp only [State.startEdge, hunting]

/-- A start edge on a line that is not decoded begins an interval. -/
theorem State.startEdge_undecoded (undecoded : (s.port p).slu.rx = .notDecoding)
    (mark : (s.port p).slu.lineMark = true) : s.startEdge p phase = (s.reachPhase phase).beginInterval p := by
  simp only [State.startEdge, undecoded, mark, if_true]

theorem State.falseStart_inTime {c : RxCharacter} (sampling : (s.port p).slu.rx = .sampling c)
    (inTime : c.startSample ≤ (s.time.increments + 1) * 36864) :
    s.falseStart p = (s.reachTick c.startSample).receiverTo p .hunting true := by
  simp only [State.falseStart, sampling, State.endsNow_of inTime, if_true]

theorem State.armed_arming (arming : (s.port p).slu.rx = .arming) :
    s.armed p phase = (s.reachPhase phase).receiverTo p .hunting true := by
  simp only [State.armed, arming]

/-- In SEEKING a listening port measures the interval from the present tick on (R97). -/
theorem State.beginInterval_port (listening : s.listening p = true) (seeking : (s.port p).rf.state = .seeking) :
    (s.beginInterval p).port p = { s.port p with
      rf := { (s.port p).rf with interval := some s.time.ticks }
      slu := { (s.port p).slu with lineMark := false } } := by
  have measures : (s.listening p && (s.port p).rf.state = .seeking) = true := by simp [listening, seeking]
  rw [State.beginInterval, State.port_modPort_same, if_pos measures]
  exact Port.noting_same rfl

end

/-- Settles O43: each edge is met by the receiver's state, and the port's receiver, or its interval, is all that goes
on. -/
theorem receiverEdgesFollowTheLine : Obligations.ReceiverEdgesFollowTheLine := by
  refine ⟨fun s p phase hunting => ?_, fun s p c sampling inTime => ?_, fun s p phase arming => ?_,
    fun s p phase undecoded mark seeking on inUse => ?_⟩
  · exact ⟨_, (exec_startEdge p phase s).trans (congrArg _ (State.startEdge_hunting hunting)), s.reachPhase_ticks phase,
      State.receiverTo_port _ p _ false, s.onlyPort_reachPhase_receiverTo p phase _ false⟩
  · exact ⟨_, (exec_falseStart p s).trans (congrArg _ (State.falseStart_inTime sampling inTime)), rfl,
      State.receiverTo_port _ p .hunting true, s.onlyPort_reachTick_receiverTo p _ .hunting true⟩
  · exact ⟨_, (exec_armingLineReturnsToMark p phase s).trans (congrArg _ (State.armed_arming arming)),
      s.reachPhase_ticks phase, State.receiverTo_port _ p .hunting true,
      s.onlyPort_reachPhase_receiverTo p phase .hunting true⟩
  · have listening : (s.reachPhase phase).listening p = true := State.listening_of on inUse
    exact ⟨_, (exec_startEdge p phase s).trans (congrArg _ (State.startEdge_undecoded undecoded mark)),
      s.reachPhase_ticks phase, State.beginInterval_port listening seeking,
      (s.onlyPort_reachPhase p phase).trans (State.onlyPort_modPort _ p _)⟩

/-! ### The zero character that waits (R86) -/

section
variable {s : State} {p : PortId}

/-- The samples of a zero character are all SPACE in every format, its stop samples with them. -/
theorem LineFormat.zeroSamples_space (f : LineFormat) :
    (f.allSpace zeroSamples && f.framingError zeroSamples) = true ∧ f.endsAtMark zeroSamples = false := by
  simp [LineFormat.allSpace, LineFormat.framingError, LineFormat.endsAtMark, LineFormat.byteOf, zeroSamples]

/-- A character that is SPACE to its end is neither a byte nor a BREAK yet (log 24). -/
theorem State.receiveByte_zeroSamples {c : RxCharacter} {phase : Nat} (sampling : (s.port p).slu.rx = .sampling c)
    (inTime : c.lastSample ≤ (s.time.increments + 1) * 36864) :
    s.receiveByte p zeroSamples phase = (s.reachTick c.lastSample).receiverTo p (.zeroWait c) false := by
  obtain ⟨space, noMark⟩ := c.format.zeroSamples_space
  simp only [State.receiveByte, sampling, State.endsNow_of inTime, if_true]
  rw [State.lastSample, if_pos space, if_neg (Bool.eq_false_iff.1 noMark)]

/-- A return to MARK by the limit makes it the byte 0 with a framing error; where none is awaited and none verified
the byte is stored, and that is all. -/
theorem State.receiveByte_zeroWait {c : RxCharacter} {r : RxSamples} {phase : Nat}
    (waits : (s.port p).slu.rx = .zeroWait c) (byLimit : (s.reachPhase phase).time.ticks ≤ c.zeroLimit)
    (listening : s.listening p = true) (settled : (s.port p).rf.state ≠ .verifying)
    (await : (s.port p).pm.await = none) :
    s.receiveByte p r phase = ((s.reachPhase phase).receiverTo p .hunting true).byteStored p 0 true
      (c.format.parityError zeroSamples) := by
  have hears : (s.reachPhase phase).listening p = true := listening
  simp only [State.receiveByte, waits, if_pos byLimit]
  rw [State.zeroByte, State.completeByte, if_pos hears]
  exact State.deliver_stored (s := (s.reachPhase phase).receiverTo p .hunting true) (by simpa using settled)
    (by simp [await])

end

/-! ### The BREAK (R87, R91, R92) -/

theorem exec_rxBreakDetected (p : PortId) (s : State) :
    exec (.rxBreakDetected p) s = .next (s.zeroLimitReached p) := rfl

theorem exec_rxBreakEnd (p : PortId) (phase : Nat) (s : State) :
    exec (.rxBreakEnd p phase) s = .next (s.breakEnds p phase) := rfl

/-- A BREAK has been counted, and the progress of the port's patterns reset (R87, R91). -/
def State.breakCounted (s : State) (p : PortId) : State :=
  s.modPort p fun v => { v with
    slu := { v.slu with errors := v.slu.errors.countBreak }, pm := v.pm.resetProgress }

@[simp] theorem State.breakCounted_port (s : State) (p : PortId) : (s.breakCounted p).port p =
    (s.port p).noting { s.port p with
      slu := { (s.port p).slu with errors := (s.port p).slu.errors.countBreak }
      pm := (s.port p).pm.resetProgress } := by
  simp [State.breakCounted]

theorem State.onlyPort_breakCounted (s : State) (p : PortId) : s.onlyPort p (s.breakCounted p) :=
  s.onlyPort_modPort p _

section
variable {s : State} {p : PortId}

theorem State.zeroLimitReached_inTime {c : RxCharacter} (waits : (s.port p).slu.rx = .zeroWait c)
    (inTime : c.zeroLimit ≤ (s.time.increments + 1) * 36864) :
    s.zeroLimitReached p = (s.reachTick c.zeroLimit).detectBreak p c := by
  simp only [State.zeroLimitReached, waits, State.endsNow_of inTime, if_true]

theorem State.detectBreak_listening (listening : s.listening p = true) (c : RxCharacter) : s.detectBreak p c =
    ((s.receiverTo p (.brk c.edgeTime false) false).breakCounted p).handItem p (.close []) := by
  simp only [State.detectBreak, listening, if_true, Bool.not_true]
  rfl

theorem State.detectBreak_deaf (deaf : s.listening p = false) (c : RxCharacter) :
    s.detectBreak p c = s.receiverTo p (.brk c.edgeTime true) false := by
  simp only [State.detectBreak, deaf, Bool.false_eq_true, if_false, Bool.not_false]
  rfl

/-- Outside SEEKING a BREAK that had its effects ends in HUNTING, with the mark of its length. -/
theorem State.endReceivedBreak_heard (decoding : (s.port p).rf.state ≠ .seeking) (edge : Nat) :
    s.endReceivedBreak p edge false =
      (s.receiverTo p .hunting true).handItem p (.close [(.breakRx, s.measured edge)]) := by
  simp only [State.endReceivedBreak, State.receiverTo, State.modPort, decoding, Bool.false_eq_true, if_false]

theorem State.breakEnds_heard {edge phase : Nat} (brk : (s.port p).slu.rx = .brk edge false)
    (decoding : (s.port p).rf.state ≠ .seeking) : s.breakEnds p phase =
      ((s.reachPhase phase).receiverTo p .hunting true).handItem p (.close [(.breakRx, s.measured edge)]) := by
  simp only [State.breakEnds, brk]
  exact State.endReceivedBreak_heard (s := s.reachPhase phase) decoding edge

end

/-- Settles O45: what each command finds of the zero character says what it becomes, and with no pattern armed the byte
is stored as any other. -/
theorem zeroCharactersBecomeBytesOrBreaks : Obligations.ZeroCharactersBecomeBytesOrBreaks := by
  refine ⟨fun s p c phase sampling notDraining inTime => ?_,
    fun s p c r phase waits byLimit control inUse settled watch await room => ?_,
    fun s p c waits inTime on inUse none => ?_, fun s p c waits inTime off => ?_,
    fun s p edge phase brk on inUse none decoding => ?_⟩
  · have port := (s.reachTick c.lastSample).receiverTo_port p (.zeroWait c) false
    refine ⟨_, (exec_rxByteDelivered p zeroSamples phase s).trans (congrArg _ ((congrArg _
      (State.receiveByte_zeroSamples sampling inTime)).trans (State.watchDrain_same ?_))), ?_, ?_, ?_,
      s.onlyPort_reachTick_receiverTo p _ _ false⟩
    · exact notDraining
    all_goals simp [port]
  · have listening : s.listening p = true := State.listening_of (by rcases control with h | h <;> simp [h]) inUse
    have unmatched : ((s.reachPhase phase).receiverTo p .hunting true).byteCompleted p 0 = [] :=
      PortMatch.completedBy_unarmed (by simpa using watch) (by simpa using await) _ _
    obtain ⟨⟨_, bus, attention, _⟩, elsewhere, _⟩ := (s.onlyPort_reachPhase_receiverTo p phase .hunting true).trans
      (State.onlyPort_byteStored true (c.format.parityError zeroSamples) unmatched)
    obtain ⟨queued, _⟩ := State.byteStored_fits ((s.reachPhase phase).receiverTo p .hunting true) p 0 true
      (c.format.parityError zeroSamples) (by simpa using room)
    rw [State.byteEntry_unmatched _ _ unmatched, State.receiverTo_port] at queued
    refine ⟨_, _, (exec_rxByteDelivered p r phase s).trans (congrArg _ ((congrArg _
      (State.receiveByte_zeroWait waits byLimit listening settled await)).trans (State.watchDrain_same ?_))),
      queued, rfl, rfl, rfl, rfl, by simp, by simp, by simp [ErrorCounters.countByte], by simp,
      elsewhere, attention⟩
    rw [bus]
    rcases control with h | h <;> simp [h]
  · have listening : (s.reachTick c.zeroLimit).listening p = true := State.listening_of on inUse
    have events := State.handItem_events_only (action := .close [])
      (s := ((s.reachTick c.zeroLimit).receiverTo p (.brk c.edgeTime false) false).breakCounted p) listening
      (by simpa using none) rfl
    refine ⟨_, (exec_rxBreakDetected p s).trans (congrArg _ ((State.zeroLimitReached_inTime waits inTime).trans
      (State.detectBreak_listening listening c))), ?_, ?_, ?_, ?_, ?_, ?_, ?_,
      ((s.onlyPort_reachTick_receiverTo p _ _ false).trans (State.onlyPort_breakCounted _ p)).trans
        (State.onlyCapture_handItem _ p _).onlyPort⟩
    · rw [State.handItem_time]
      rfl
    · simp [ErrorCounters.countBreak, countUp]
    · simp [PortMatch.resetProgress]
    · simp [PortMatch.resetProgress]
    · simp [PortMatch.resetProgress]
    · simp [PortMatch.resetProgress]
    · rw [events]
      simp [State.breakCounted, State.receiverTo]
  · have deaf : (s.reachTick c.zeroLimit).listening p = false := by simp [State.listening, off]
    have port := (s.reachTick c.zeroLimit).receiverTo_port p (.brk c.edgeTime true) false
    refine ⟨_, (exec_rxBreakDetected p s).trans (congrArg _ ((State.zeroLimitReached_inTime waits inTime).trans
      (State.detectBreak_deaf deaf c))), ?_, ?_, ?_, s.onlyPort_reachTick_receiverTo p _ _ false⟩
    all_goals simp [port]
  · have listening : ((s.reachPhase phase).receiverTo p .hunting true).listening p = true := State.listening_of on inUse
    have events := State.handItem_events_only (action := .close [(.breakRx, s.measured edge)]) listening
      (by simpa using none) rfl
    refine ⟨_, (exec_rxBreakEnd p phase s).trans (congrArg _ (State.breakEnds_heard brk decoding)), by simp, ?_,
      by simp, (s.onlyPort_reachPhase_receiverTo p phase _ true).trans (State.onlyCapture_handItem _ p _).onlyPort⟩
    rw [events]
    simp [State.receiverTo, State.measured, Config.countMax]

end Sys2Proof.Machine
end

section
/-! SUPPORT. What a grant is asked for and what it issues: the read of a sweep, of an enable, of a read mark or of a
text, a slot write, a status record and a capture record; the statement on them. -/

namespace Sys2Proof.Machine

/-! ### The grant that is carried out (R172, R173) -/

theorem exec_hmeGrant (s : State) : exec .hmeGrant s = .next s.grantOne.watchDrain := rfl

section
variable {s : State} {g : Grant}

theorem State.grantOne_none (h : s.hme.busMaster = false ∨ s.chosenGrant = none) : s.grantOne = s := by
  unfold State.grantOne
  rcases h with off | none
  · rw [off, if_neg Bool.false_ne_true]
  · rw [none]
    exact ite_self s

theorem State.grantOne_chosen (on : s.hme.busMaster = true) (chosen : s.chosenGrant = some g) :
    s.grantOne = s.carryGrant g := by
  rw [State.grantOne, if_pos on, chosen]

theorem exec_hmeGrant_chosen (on : s.hme.busMaster = true) (chosen : s.chosenGrant = some g) :
    exec .hmeGrant s = .next (s.carryGrant g).watchDrain :=
  (exec_hmeGrant s).trans (by rw [State.grantOne_chosen on chosen])

/-! ### The read that a grant is chosen for (R167) -/

/-- A granted read of a sweep, of an enable or of a text is the one that its block asks for. -/
def State.grantRequested (s : State) : Grant → Prop
  | .sweepRead r a n => s.sweepRequest = some (r, a, n)
  | .enableRead r a n => s.enableRequest = some (r, a, n)
  | .text p a n => (s.port p).textRequest = some (a, n)
  | .slotWrite _ | .status _ | .readMark _ | .capture _ => True

theorem State.slotWriteGrant_requested (h : s.slotWriteGrant = some g) : s.grantRequested g := by
  unfold State.slotWriteGrant at h
  split at h
  · cases h
  · split at h
    · cases h
      trivial
    · cases h

theorem State.statusGrant_requested (h : s.statusGrant = some g) : s.grantRequested g := by
  obtain ⟨p, _, rfl⟩ := Option.map_eq_some_iff.1 h
  trivial

theorem State.classOne_requested (h : s.classOne = some g) : s.grantRequested g := by
  unfold State.classOne at h
  split at h <;> rcases (Option.orElse_eq_some ..).1 h with first | ⟨_, second⟩
  · exact State.slotWriteGrant_requested first
  · exact State.statusGrant_requested second
  · exact State.statusGrant_requested first
  · exact State.slotWriteGrant_requested second

theorem State.readGrant_requested {make : Requester → Addr → Nat → Grant} {request : Option (Requester × Addr × Nat)}
    (h : s.readGrant make request = some g) : ∃ r a n, g = make r a n ∧ request = some (r, a, n) := by
  unfold State.readGrant at h
  split at h
  · cases h
  · next r a n =>
    split at h
    · exact ⟨r, a, n, (Option.some.inj h).symm, rfl⟩
    · cases h

theorem State.classTwo_requested (h : s.classTwo = some g) : s.grantRequested g := by
  rcases (Option.orElse_eq_some ..).1 h with first | ⟨_, second⟩
  · obtain ⟨r, a, n, rfl, request⟩ := State.readGrant_requested first
    exact request
  · obtain ⟨r, a, n, rfl, request⟩ := State.readGrant_requested second
    exact request

theorem State.classFour_requested (h : s.classFour = some g) : s.grantRequested g := by
  obtain ⟨p, _, granted⟩ := Option.bind_eq_some_iff.1 h
  obtain ⟨⟨a, n⟩, request, rfl⟩ := Option.map_eq_some_iff.1 granted
  exact request

theorem State.chosenGrant_requested (h : s.chosenGrant = some g) : s.grantRequested g := by
  rcases State.chosenGrant_class h with h | h | h | h | h
  · exact State.classOne_requested h
  · exact State.classTwo_requested h
  · obtain ⟨p, _, rfl⟩ := Option.map_eq_some_iff.1 h
    trivial
  · exact State.classFour_requested h
  · obtain ⟨p, _, rfl⟩ := Option.map_eq_some_iff.1 h
    trivial

end

/-! ### Slot writes (R23, R172) -/

/-- The TSU's oldest write has joined the back of the link's order, and the turn goes to the status writer. -/
def State.slotWriteGranted (s : State) (w : SlotWrite) (rest : List SlotWrite) : State :=
  { s with
    hme := { s.hme with
      outgoing := s.hme.outgoing ++ writePieces w.address w.bytes w.raisesTask (piecesOf w.address w.bytes.length)
      tsuTurn := false }
    tsu := { s.tsu with writes := rest } }

section
variable {s : State} {w : SlotWrite} {rest : List SlotWrite}

/-- Unless the sweep waits for this write as the last of its slot, nothing follows it. -/
theorem State.issueSlotWrite_stays (writes : s.tsu.writes = w :: rest)
    (more : ∀ x, s.tsu.sweep = some x → x.stage = .writing → rest ≠ []) :
    s.issueSlotWrite w = s.slotWriteGranted w rest := by
  simp only [State.issueSlotWrite, State.slotWriteIssued, State.grantWrite, writes, List.tail_cons]
  split
  · rfl
  · next x sweep =>
    refine if_neg fun last => ?_
    obtain ⟨stage, none⟩ := Bool.and_eq_true_iff.1 last
    exact more x sweep (of_decide_eq_true stage) (List.isEmpty_iff.1 none)

/-- With the last write of the slot in hand the sweep goes on (R6). -/
theorem State.issueSlotWrite_goesOn {x : Sweep} (writes : s.tsu.writes = [w]) (sweep : s.tsu.sweep = some x)
    (stage : x.stage = .writing) :
    s.issueSlotWrite w = (s.slotWriteGranted w []).sweepOn x.requested (x.index + 1) := by
  simp only [State.issueSlotWrite, State.slotWriteIssued, State.grantWrite, writes, List.tail_cons]
  split
  · next none => exact absurd (none.symm.trans sweep) nofun
  · next y same =>
    obtain rfl : x = y := Option.some.inj (sweep.symm.trans same)
    exact if_pos (by simp [stage])

end

/-! ### Reads (R170) -/

/-- A granted read has its entries and its place in the order. -/
theorem State.readTaken_grantRead (s : State) (r : Requester) (a : Addr) (n : Nat) :
    s.readTaken r a n (s.grantRead r a n) :=
  ⟨rfl, rfl, rfl, congrArg (s.hme.nextTag + ·) (readEntries_length ..), rfl⟩

section
variable {s : State} {w : Sweep}

/-- The read that a sweep asks for, by its stage (R7, R8, R15). -/
theorem State.sweepRequest_header (sweep : s.tsu.sweep = some w) (stage : w.stage = .headerWanted) :
    s.sweepRequest = some (.slotHeader, addrPlus s.tsu.geometry.tableAddress (64 * w.index), 8) := by
  simp only [State.sweepRequest, sweep, stage, Geometry.slotAddress]

theorem State.sweepRequest_whole (sweep : s.tsu.sweep = some w) (stage : w.stage = .wholeWanted) :
    s.sweepRequest = some (.wholeSlot, addrPlus s.tsu.geometry.tableAddress (64 * w.index), 64) := by
  simp only [State.sweepRequest, sweep, stage, Geometry.slotAddress]

theorem State.sweepRequest_pattern {t : TaskSlot} {start : Word} (sweep : s.tsu.sweep = some w)
    (stage : w.stage = .patternWanted t start) :
    s.sweepRequest = some (.patternText, t.fields.textAddress, t.fields.textLength) := by
  simp only [State.sweepRequest, sweep, stage]

theorem State.issueSweepRead_eq (sweep : s.tsu.sweep = some w) (r : Requester) (a : Addr) (n : Nat) :
    s.issueSweepRead r a n = (s.grantRead r a n).sweepStage w (w.stage.granted s.hme.nextRead) := by
  simp only [State.issueSweepRead, sweep]

/-- The stage of a sweep that waits for a read goes on under the read's number. -/
theorem State.issueSweepRead_tsu {stage : SweepStage} (sweep : s.tsu.sweep = some w)
    (granted : w.stage.granted s.hme.nextRead = stage) (r : Requester) (a : Addr) (n : Nat) :
    (s.issueSweepRead r a n).tsu = { s.tsu with sweep := some { w with stage := stage } } := by
  rw [State.issueSweepRead_eq sweep, granted]
  rfl

end

section
variable {s : State} {e : Enabling}

/-- The read that an enable asks for, by its stage (R178). -/
theorem State.enableRequest_header (enabling : s.bus.enabling = some e) (stage : e.stage = .headerWanted) :
    s.enableRequest = some (.anchorHeader, e.anchor, 64) := by
  simp only [State.enableRequest, enabling, stage]

theorem State.enableRequest_descriptors {h : AnchorHeader} (enabling : s.bus.enabling = some e)
    (stage : e.stage = .descriptorsWanted h) :
    s.enableRequest = some (.descriptors, addrPlus e.anchor 64, 16 * h.portCount) := by
  simp only [State.enableRequest, enabling, stage]

theorem State.issueEnableRead_bus {stage : EnableStage} (enabling : s.bus.enabling = some e)
    (granted : e.stage.granted s.hme.nextRead = stage) (r : Requester) (a : Addr) (n : Nat) :
    (s.issueEnableRead r a n).bus = { s.bus with enabling := some { e with stage := stage } } := by
  simp only [State.issueEnableRead, enabling, Option.map_some, granted]
  rfl

end

section
variable (s : State) (p : PortId)

/-- A read mark's fetch and a text's are not published, so that nothing else of the port changes. -/
theorem State.issueReadMark_port : (s.issueReadMark p).port p = { s.port p with ca := { (s.port p).ca with
    fetch := .outstanding s.hme.nextRead, lastFetch := some s.partTime } } :=
  (State.port_modPort_same _ p _).trans (Port.noting_same rfl)

theorem State.issueText_port (a : Addr) (n : Nat) : (s.issueText p a n).port p = { s.port p with
    slu := { (s.port p).slu with
      fetchOffset := (s.port p).slu.fetchOffset + n, textRead := some s.hme.nextRead } } :=
  (State.port_modPort_same _ p _).trans (Port.noting_same rfl)

theorem State.sameElsewhere_issueReadMark : s.sameElsewhere p (s.issueReadMark p) :=
  fun _ hq => State.port_modPort_ne _ _ hq

theorem State.sameElsewhere_issueText (a : Addr) (n : Nat) : s.sameElsewhere p (s.issueText p a n) :=
  fun _ hq => State.port_modPort_ne _ _ hq

end

/-! ### The text that a sending asks for (R83, log 10) -/

section
variable {v : Port} {e : QueueEntry} {rest : List QueueEntry}

/-- A port that does not send, or stops, or awaits a read, or has asked for all of its text, or lacks the room, asks for
none. -/
theorem Port.textRequest_none (queue : v.queue = e :: rest)
    (h : v.exc.state ≠ .sending ∨ v.exc.stopping ≠ none ∨ v.slu.textRead ≠ none
      ∨ e.fields.textLength ≤ v.slu.fetchOffset
      ∨ (64 - v.slu.staging.length < 32
        ∧ 64 - v.slu.staging.length < e.fields.textLength - v.slu.fetchOffset)) : v.textRequest = none := by
  simp only [Port.textRequest, queue]
  refine if_neg ?_
  rcases h with state | stopping | read | asked | ⟨small, part⟩
  · simp [state]
  · simp [stopping]
  · simp [read]
  · simp [Nat.sub_eq_zero_of_le asked]
  · simp [Config.stagingCapacity, Nat.not_le.2 small, Nat.not_le.2 part]

/-- For as much as there is room for, from the first byte not yet asked for. -/
theorem Port.textRequest_some (queue : v.queue = e :: rest) (state : v.exc.state = .sending)
    (going : v.exc.stopping = none) (free : v.slu.textRead = none)
    (remains : v.slu.fetchOffset < e.fields.textLength)
    (room : 32 ≤ 64 - v.slu.staging.length
      ∨ e.fields.textLength - v.slu.fetchOffset ≤ 64 - v.slu.staging.length) :
    v.textRequest = some (e.fields.textAddress + BitVec.ofNat 64 v.slu.fetchOffset,
      min (64 - v.slu.staging.length) (e.fields.textLength - v.slu.fetchOffset)) := by
  simp only [Port.textRequest, queue]
  refine if_pos ?_
  simpa [state, going, free, Nat.sub_pos_of_lt remains, Config.stagingCapacity] using room

/-- What is asked for is the head's text. -/
theorem Port.textRequest_head {a : Addr} {n : Nat} (request : v.textRequest = some (a, n)) :
    ∃ e rest, v.queue = e :: rest ∧ a = e.fields.textAddress + BitVec.ofNat 64 v.slu.fetchOffset
      ∧ n = min (64 - v.slu.staging.length) (e.fields.textLength - v.slu.fetchOffset) := by
  unfold Port.textRequest at request
  split at request
  · cases request
  · next e rest queue =>
    dsimp only at request
    split at request
    · cases request
      exact ⟨e, rest, queue, rfl, rfl⟩
    · cases request

end

/-! ### Capture records (R127, R131) -/

@[simp] theorem Hme.flush_capturePointer (h : Hme) : h.flush.capturePointer = h.capturePointer := by
  unfold Hme.flush
  split <;> rfl

@[simp] theorem State.sendMessage_capturePointer (s : State) :
    s.sendMessage.hme.capturePointer = s.hme.capturePointer := by
  unfold State.sendMessage
  split
  · exact Hme.flush_capturePointer _
  · rfl

@[simp] theorem State.raiseBits_capturePointer (s : State) (bits : BitVec 10) :
    (s.raiseBits bits).hme.capturePointer = s.hme.capturePointer := by
  rcases s.raiseBits_cases bits with h | h <;> simp [h]

@[simp] theorem State.notice_capturePointer (s : State) (p : PortId) (kind : NoticeKind) :
    (s.notice p kind).hme.capturePointer = s.hme.capturePointer := by
  unfold State.notice
  cases kind.cause with
  | none => rfl
  | some c => exact State.raiseBits_capturePointer _ _

@[simp] theorem Capture.addGap_writePosition (ca : Capture) (cause : GapCause) (sequence time : Word) (n : Nat) :
    (ca.addGap cause sequence time n).writePosition = ca.writePosition := by
  unfold Capture.addGap
  split
  · rfl
  · split <;> rfl

@[simp] theorem Capture.gapOfDiscarded_writePosition (ca : Capture) (records : List UnitRecord) :
    (ca.gapOfDiscarded records).writePosition = ca.writePosition := by
  induction records generalizing ca with
  | nil => rfl
  | cons r rest ih =>
    unfold Capture.gapOfDiscarded
    split
    · next eq => cases eq
    · next eq =>
      cases eq
      rw [ih, Capture.addGap_writePosition]
    · next eq =>
      cases eq
      exact ih ca

@[simp] theorem Port.loseRun_writePosition (v : Port) (run : LossRun) (now : Word) :
    (v.loseRun run now).ca.writePosition = v.ca.writePosition := by
  unfold Port.loseRun
  split
  · rfl
  · split
    · simp
    · dsimp only
      split <;> simp [Port.handFreeze, Capture.placeItem]

/-- What an agenda leaves: the write position, which only an issue moves (R131), the turn of the ports, and all beyond
the port but what a notice does. -/
structure State.agendaFrame (s : State) (p : PortId) (t : State) : Prop where
  writePosition : (t.port p).ca.writePosition = (s.port p).ca.writePosition
  capturePointer : t.hme.capturePointer = s.hme.capturePointer
  elsewhere : s.sameElsewhere p t
  tsu : t.tsu = s.tsu
  bus : t.bus = s.bus

section
variable {s t u : State} {p : PortId}

theorem State.agendaFrame.refl (s : State) (p : PortId) : s.agendaFrame p s := ⟨rfl, rfl, fun _ _ => rfl, rfl, rfl⟩

theorem State.agendaFrame.trans (st : s.agendaFrame p t) (tu : t.agendaFrame p u) : s.agendaFrame p u :=
  ⟨tu.writePosition.trans st.writePosition, tu.capturePointer.trans st.capturePointer,
    st.elsewhere.trans tu.elsewhere, tu.tsu.trans st.tsu, tu.bus.trans st.bus⟩

theorem State.agendaFrame_modPort (s : State) (p : PortId) {f : Port → Port}
    (keeps : (f (s.port p)).ca.writePosition = (s.port p).ca.writePosition) : s.agendaFrame p (s.modPort p f) :=
  ⟨by simpa using keeps, rfl, fun _ hq => s.port_modPort_ne f hq, rfl, rfl⟩

theorem State.agendaFrame_notice (s : State) (p : PortId) (kind : NoticeKind) : s.agendaFrame p (s.notice p kind) :=
  ⟨by rw [State.port_notice, Port.noting_ca], by simp, fun _ hq => State.notice_port_ne s p kind hq, by simp, by simp⟩

theorem State.agendaFrame_discardUnit (s : State) (p : PortId) (unit : WriteUnit) :
    s.agendaFrame p (s.discardUnit p unit) := by
  unfold State.discardUnit
  extract_lets dropped
  have frame : s.agendaFrame p dropped := s.agendaFrame_modPort p (by simp)
  split
  · exact frame.trans ((dropped.agendaFrame_modPort p rfl).trans (State.agendaFrame_notice _ p .full))
  · exact frame

theorem State.agendaFrame_testUnit (s : State) (p : PortId) (unit : WriteUnit) :
    s.agendaFrame p (s.testUnit p unit) := by
  unfold State.testUnit
  dsimp only
  split
  · exact s.agendaFrame_modPort p rfl
  · split
    · exact s.agendaFrame_discardUnit p unit
    · exact s.agendaFrame_modPort p rfl

theorem State.agendaFrame_takeInHand (s : State) (p : PortId) (record : Option CaptureRecord) (joinGap : Bool) :
    s.agendaFrame p (s.takeInHand p record joinGap) := by
  unfold State.takeInHand
  extract_lets ca gap records
  split
  · exact .refl s p
  · split
    · exact .refl s p
    · exact s.agendaFrame_modPort p rfl
    · exact s.agendaFrame_testUnit p _

theorem State.agendaFrame_captureStep (s : State) (p : PortId) (step : CaptureStep) :
    s.agendaFrame p (s.captureStep p step) := by
  cases step with
  | write record joinGap => exact s.agendaFrame_takeInHand p _ _
  | writeGap => exact s.agendaFrame_takeInHand p _ _
  | loseRun run met => exact s.agendaFrame_modPort p (f := fun v => v.loseRun run met) (Port.loseRun_writePosition ..)

theorem State.agendaFrame_resumeAgenda (s : State) (p : PortId) : s.agendaFrame p (s.resumeAgenda p) :=
  State.runAgenda_keeps (P := s.agendaFrame p) (fun t c ht => ht.trans (t.agendaFrame_captureStep p c))
    (fun t _ ht => ht.trans (t.agendaFrame_modPort p rfl)) _ (.refl s p)

theorem State.resumeAgenda_nil (none : (s.port p).ca.agenda = []) :
    s.resumeAgenda p = s.modPort p fun v => { v with ca := { v.ca with agenda := [] } } := by
  rw [State.resumeAgenda, none, State.runAgenda]

end

/-- A record of a port's unit has joined the back of the link's order, and the turn goes to the port after. -/
def State.recordIssued (s : State) (p : PortId) (r : UnitRecord) : State :=
  ({ s with hme := { s.hme with
      outgoing := s.hme.outgoing ++ writePieces (s.port p).ca.recordAddress (s.recordBytes p r) false
        (piecesOf (s.port p).ca.recordAddress (s.recordBytes p r).length)
      capturePointer := p + 1 } } : State).modPort p fun v => { v with ca := v.ca.issued r }

section
variable {s : State} {p : PortId} {r : UnitRecord} {rest : List UnitRecord}

@[simp] theorem State.recordIssued_ca : ((s.recordIssued p r).port p).ca = (s.port p).ca.issued r := by
  rw [State.recordIssued, State.port_modPort_same, Port.noting_ca]
  rfl

/-- The rest of a unit stays in hand (R131). -/
theorem Capture.issued_inHand {ca : Capture} (inHand : ca.inHand = some { records := r :: rest, passed := true }) :
    (ca.issued r).inHand = if rest = [] then none else some { records := rest, passed := true } := by
  simp [Capture.issued, inHand]

theorem State.issueCapture_eq (inHand : (s.port p).ca.inHand = some { records := r :: rest, passed := true }) :
    s.issueCapture p = if rest = [] then (s.recordIssued p r).resumeAgenda p else s.recordIssued p r := by
  have issuable : (s.port p).ca.issuable = some r := by simp [Capture.issuable, inHand]
  have last : ((s.recordIssued p r).port p).ca.inHand.isNone = true ↔ rest = [] := by
    rw [State.recordIssued_ca, Capture.issued_inHand inHand]
    split <;> simp [*]
  unfold State.issueCapture
  rw [issuable]
  exact if_congr last rfl rfl

theorem State.agendaFrame_issueCapture
    (inHand : (s.port p).ca.inHand = some { records := r :: rest, passed := true }) :
    (s.recordIssued p r).agendaFrame p (s.issueCapture p) := by
  rw [State.issueCapture_eq inHand]
  split
  · exact State.agendaFrame_resumeAgenda _ p
  · exact .refl _ p

/-- With more of the unit in hand, or with nothing left to do for the input, the issue is all (R131). -/
theorem State.issueCapture_hme (inHand : (s.port p).ca.inHand = some { records := r :: rest, passed := true })
    (done : (s.port p).ca.agenda = [] ∨ rest ≠ []) : (s.issueCapture p).hme = (s.recordIssued p r).hme := by
  rw [State.issueCapture_eq inHand]
  split
  · next last =>
    have none : ((s.recordIssued p r).port p).ca.agenda = [] := by
      rw [State.recordIssued_ca]
      exact done.resolve_right (not_not_intro last)
    rw [State.resumeAgenda_nil none]
    rfl
  · rfl

theorem State.issueCapture_inHand_more
    (inHand : (s.port p).ca.inHand = some { records := r :: rest, passed := true }) (more : rest ≠ []) :
    ((s.issueCapture p).port p).ca.inHand = some { records := rest, passed := true } := by
  rw [State.issueCapture_eq inHand, if_neg more, State.recordIssued_ca, Capture.issued_inHand inHand, if_neg more]

theorem State.issueCapture_inHand_last (inHand : (s.port p).ca.inHand = some { records := [r], passed := true })
    (none : (s.port p).ca.agenda = []) : ((s.issueCapture p).port p).ca.inHand = Option.none := by
  have idle : ((s.recordIssued p r).port p).ca.agenda = [] := by
    rw [State.recordIssued_ca]
    exact none
  rw [State.issueCapture_eq inHand, if_pos rfl, State.resumeAgenda_nil idle, State.port_modPort_same, Port.noting_ca]
  exact (congrArg Capture.inHand State.recordIssued_ca).trans (Capture.issued_inHand inHand)

end

/-- Settles O27: the chosen request is the one that its block asks for, and its issue is the grant. -/
theorem grantIssuesTheChosenRequest : Obligations.GrantIssuesTheChosenRequest := by
  refine ⟨fun s none => ?_, fun s => State.watchDrain_same, fun s u w rest on chosen writes hu => ?_,
    fun s p on chosen => ?_, fun s r a n w on chosen sweep => ?_, fun s r a n e on chosen enabling => ?_,
    fun s p on chosen => ?_, fun s p a n on chosen => ?_, fun v e rest left room queue hleft hroom => ?_,
    fun s p r rest on chosen inHand => ?_⟩
  · exact (exec_hmeGrant s).trans (by rw [State.grantOne_none none])
  · obtain rfl : u = s.slotWriteGranted w rest := hu
    have grant := exec_hmeGrant_chosen on chosen
    rw [grant, State.carryGrant]
    refine ⟨fun done => ?_, fun x sweep stage => ?_, fun x sweep stage last => ?_⟩
    · rw [State.issueSlotWrite_stays writes fun x sweep _ => done.resolve_left (by simp [sweep])]
    · rw [State.issueSlotWrite_stays writes fun y same writing =>
        absurd writing (Option.some.inj (sweep.symm.trans same) ▸ stage)]
    · subst last
      rw [State.issueSlotWrite_goesOn writes sweep stage]
  · refine ⟨s.issueStatus p, exec_hmeGrant_chosen on chosen, ?_, State.port_setPort_same _ p _,
      fun _ hq => State.port_setPort_ne _ _ hq, rfl, rfl, rfl⟩
    have length := StatusFields.bytes_length (s.port p).published
    rw [State.issueStatus, State.setPort_hme, State.grantWrite, length]
  · have request : s.sweepRequest = some (r, a, n) := State.chosenGrant_requested chosen
    have issue := State.issueSweepRead_eq sweep r a n
    refine ⟨s.issueSweepRead r a n, exec_hmeGrant_chosen on chosen, ?_, fun stage => ⟨?_, ?_⟩, fun stage => ⟨?_, ?_⟩,
      fun t start stage => ⟨?_, ?_⟩, ?_, ?_, ?_⟩
    · rw [issue]
      exact s.readTaken_grantRead r a n
    · exact Option.some.inj (request.symm.trans (State.sweepRequest_header sweep stage))
    · exact State.issueSweepRead_tsu sweep (by rw [stage]; rfl) r a n
    · exact Option.some.inj (request.symm.trans (State.sweepRequest_whole sweep stage))
    · exact State.issueSweepRead_tsu sweep (by rw [stage]; rfl) r a n
    · exact Option.some.inj (request.symm.trans (State.sweepRequest_pattern sweep stage))
    · exact State.issueSweepRead_tsu sweep (by rw [stage]; rfl) r a n
    all_goals rw [issue]; rfl
  · have request : s.enableRequest = some (r, a, n) := State.chosenGrant_requested chosen
    refine ⟨s.issueEnableRead r a n, exec_hmeGrant_chosen on chosen, s.readTaken_grantRead r a n,
      fun stage => ⟨?_, ?_⟩, fun h stage => ⟨?_, ?_⟩, rfl, rfl, rfl⟩
    · exact Option.some.inj (request.symm.trans (State.enableRequest_header enabling stage))
    · exact State.issueEnableRead_bus enabling (by rw [stage]; rfl) r a n
    · exact Option.some.inj (request.symm.trans (State.enableRequest_descriptors enabling stage))
    · exact State.issueEnableRead_bus enabling (by rw [stage]; rfl) r a n
  · exact ⟨s.issueReadMark p, exec_hmeGrant_chosen on chosen, s.readTaken_grantRead _ _ 4, rfl, s.issueReadMark_port p,
      s.sameElsewhere_issueReadMark p, rfl, rfl, rfl⟩
  · have request : (s.port p).textRequest = some (a, n) := State.chosenGrant_requested chosen
    exact ⟨s.issueText p a n, exec_hmeGrant_chosen on chosen, s.readTaken_grantRead _ a n, rfl,
      Port.textRequest_head request, s.issueText_port p a n, s.sameElsewhere_issueText p a n, rfl, rfl, rfl⟩
  · subst hleft hroom
    refine ⟨Port.textRequest_some queue, Port.textRequest_none queue, fun state going free start empty text => ?_⟩
    have whole := Port.textRequest_some queue state going free (start ▸ text) (.inl (by simp [empty]))
    simpa [start, empty] using whole
  · have frame := State.agendaFrame_issueCapture inHand
    refine ⟨s.issueCapture p, exec_hmeGrant_chosen on chosen, fun done => State.issueCapture_hme inHand done,
      frame.capturePointer, ?_, State.issueCapture_inHand_more inHand, fun last none => ?_,
      fun q hq => (frame.elsewhere q hq).trans (State.port_modPort_ne _ _ hq), frame.tsu, frame.bus⟩
    · rw [frame.writePosition, State.recordIssued_ca]
      rfl
    · subst last
      exact State.issueCapture_inHand_last inHand none

end Sys2Proof.Machine
end

section
/-! SUPPORT. The judgement of an interval of SPACE, the decision of a verification and what follows it, and the entry
into SEEKING; the statement on the Rate Finder. -/

namespace Sys2Proof.Machine

/-! ### The accepted intervals (R97, R98) -/

theorem smallest_cons (n : Nat) {rest : List Nat} (more : rest ≠ []) :
    smallest (n :: rest) = min n (smallest rest) := by
  cases rest with
  | nil => exact absurd rfl more
  | cons m rest => rfl

theorem smallest_mem {l : List Nat} (nonempty : l ≠ []) : smallest l ∈ l := by
  induction l using smallest.induct with
  | case1 => exact absurd rfl nonempty
  | case2 n => exact List.mem_singleton_self n
  | case3 n rest more ih =>
    rw [smallest_cons n more]
    rcases min_choice n (smallest rest) with h | h <;> rw [h]
    · exact List.mem_cons_self
    · exact List.mem_cons_of_mem n (ih more)

theorem smallest_le {l : List Nat} {x : Nat} (mem : x ∈ l) : smallest l ≤ x := by
  induction l using smallest.induct with
  | case1 => simp at mem
  | case2 n => exact Nat.le_of_eq (List.mem_singleton.1 mem).symm
  | case3 n rest more ih =>
    rw [smallest_cons n more]
    rcases List.mem_cons.1 mem with rfl | behind
    · exact Nat.min_le_left ..
    · exact Nat.le_trans (Nat.min_le_right ..) (ih behind)

theorem intervalAccepted_iff (length : Nat) : intervalAccepted length = true ↔ 32 ≤ length ∧ length ≤ 122880 := by
  simp [intervalAccepted]

/-! ### The judgement of an interval (R97 to R99) -/

theorem exec_rfIntervalEnd (p : PortId) (phase : Nat) (s : State) :
    exec (.rfIntervalEnd p phase) s = .next (s.intervalEnds p phase) := rfl

section
variable (s : State) (p : PortId) (length : Nat)

/-- The line has returned to MARK, and no interval is measured (R97). -/
def State.intervalClosed : State :=
  s.modPort p fun v => { v with rf := { v.rf with interval := none }, slu := { v.slu with lineMark := true } }

/-- The interval has joined the samples (R97). -/
def State.intervalSampled : State :=
  (s.intervalClosed p).modPort p fun v => { v with rf := { v.rf with samples := (s.port p).rf.samples ++ [length] } }

@[simp] theorem State.intervalClosed_port : (s.intervalClosed p).port p = { s.port p with
    rf := { (s.port p).rf with interval := none }, slu := { (s.port p).slu with lineMark := true } } := by
  rw [State.intervalClosed, State.port_modPort_same]
  exact Port.noting_same rfl

@[simp] theorem State.intervalSampled_port : (s.intervalSampled p length).port p = { s.port p with
    rf := { (s.port p).rf with interval := none, samples := (s.port p).rf.samples ++ [length] }
    slu := { (s.port p).slu with lineMark := true } } := by
  rw [State.intervalSampled, State.port_modPort_same, State.intervalClosed_port]
  exact Port.noting_same rfl

/-- An estimate: VERIFYING with an empty tally, at its period, and the receiver decodes again (R98, R99). -/
theorem State.enterVerifying_port (period : Nat) : (s.enterVerifying p period).port p = { s.port p with
    rf := { (s.port p).rf with state := .verifying, verifySeen := 0, verifyFraming := 0 }
    slu := ({ (s.port p).slu with line := { (s.port p).slu.line with period := period } } : Slu).listen
    ca := ((s.enterVerifying p period).port p).ca, status := ((s.enterVerifying p period).port p).status } := by
  unfold State.enterVerifying
  rw [(State.onlyCapture_handItem _ p _).own, State.port_modPort_same]
  unfold Port.noting
  split <;> rfl

end

section
variable {s : State} {p : PortId} {length : Nat}

/-- The three outcomes of a judgement: ignored, sampled, and the eighth sample, which makes the estimate. -/
theorem State.judgeInterval_ignored (ignored : length < 32 ∨ 122880 < length) :
    s.judgeInterval p length = s.intervalClosed p := by
  refine if_neg fun accepted => ?_
  have bounds := (intervalAccepted_iff length).1 accepted
  omega

theorem State.judgeInterval_sampled (low : 32 ≤ length) (high : length ≤ 122880)
    (few : (s.port p).rf.samples.length < 7) : s.judgeInterval p length = s.intervalSampled p length := by
  refine (if_pos ((intervalAccepted_iff length).2 ⟨low, high⟩)).trans (if_neg ?_)
  rw [List.length_append, List.length_singleton]
  omega

theorem State.judgeInterval_estimated (low : 32 ≤ length) (high : length ≤ 122880)
    (seven : (s.port p).rf.samples.length = 7) : s.judgeInterval p length =
      (s.intervalSampled p length).enterVerifying p
        (periodOfEstimate (smallest ((s.port p).rf.samples ++ [length]))) := by
  refine (if_pos ((intervalAccepted_iff length).2 ⟨low, high⟩)).trans (if_pos ?_)
  rw [List.length_append, seven, List.length_singleton]

/-- The estimate is made of the smallest sample, and the receiver, the line at MARK, hunts (R98, R99). -/
theorem State.judgeInterval_period (low : 32 ≤ length) (high : length ≤ 122880)
    (seven : (s.port p).rf.samples.length = 7) (undecoded : (s.port p).slu.rx = .notDecoding) :
    ∃ E, E ∈ (s.port p).rf.samples ++ [length] ∧ (∀ x ∈ (s.port p).rf.samples ++ [length], E ≤ x)
      ∧ ((s.judgeInterval p length).port p).rf.state = .verifying
      ∧ ((s.judgeInterval p length).port p).rf.verifySeen = 0
      ∧ ((s.judgeInterval p length).port p).rf.verifyFraming = 0
      ∧ ((s.judgeInterval p length).port p).slu = { (s.port p).slu with
          line := { (s.port p).slu.line with period := periodOfEstimate E }, rx := .hunting, lineMark := true } := by
  have port := (s.intervalSampled p length).enterVerifying_port p
    (periodOfEstimate (smallest ((s.port p).rf.samples ++ [length])))
  rw [State.judgeInterval_estimated low high seven]
  refine ⟨_, smallest_mem (List.concat_ne_nil _ _), fun x => smallest_le, ?_, ?_, ?_, ?_⟩
  · rw [port]
  · rw [port]
  · rw [port]
  · rw [port]
    simp [Slu.listen, undecoded, Receiver.inBreak, receiverAt]

/-- A judgement leaves the clock, and of the part all but the port's Rate Finder, line, capture and status. -/
structure State.judgeFrame (s : State) (p : PortId) (t : State) : Prop where
  port : t.port p = { s.port p with
    rf := (t.port p).rf, slu := (t.port p).slu, ca := (t.port p).ca, status := (t.port p).status }
  time : t.time = s.time
  only : s.onlyPort p t

theorem State.judgeFrame.trans {t u : State} (st : s.judgeFrame p t) (tu : t.judgeFrame p u) : s.judgeFrame p u :=
  ⟨by rw [tu.port, st.port], tu.time.trans st.time, st.only.trans tu.only⟩

theorem State.judgeFrame_intervalSampled (s : State) (p : PortId) (length : Nat) :
    s.judgeFrame p (s.intervalSampled p length) := by
  refine ⟨?_, rfl, (s.onlyPort_modPort p _).trans (State.onlyPort_modPort _ p _)⟩
  rw [State.intervalSampled_port]

theorem State.judgeFrame_enterVerifying (s : State) (p : PortId) (period : Nat) :
    s.judgeFrame p (s.enterVerifying p period) := by
  refine ⟨?_, State.handItem_time _ p _, (s.onlyPort_modPort p _).trans (State.onlyCapture_handItem _ p _).onlyPort⟩
  rw [State.enterVerifying_port]

theorem State.judgeFrame_judgeInterval (s : State) (p : PortId) (length : Nat) :
    s.judgeFrame p (s.judgeInterval p length) := by
  have closed : s.judgeFrame p (s.intervalClosed p) := ⟨by rw [State.intervalClosed_port], rfl, s.onlyPort_modPort p _⟩
  unfold State.judgeInterval
  dsimp only
  split
  · split
    · exact (s.judgeFrame_intervalSampled p length).trans (State.judgeFrame_enterVerifying _ p _)
    · exact s.judgeFrame_intervalSampled p length
  · exact closed

/-- A measured interval is judged by its length at the tick that the clock has reached (log 6). -/
theorem State.intervalEnds_measured {start phase : Nat} (undecoded : (s.port p).slu.rx = .notDecoding)
    (space : (s.port p).slu.lineMark = false) (measured : (s.port p).rf.interval = some start) :
    s.intervalEnds p phase =
      (s.reachPhase phase).judgeInterval p ((s.reachPhase phase).time.ticks - start) := by
  simp only [State.intervalEnds, undecoded, space, Bool.false_eq_true, if_false]
  simp only [State.endInterval, State.reachPhase_port, measured]

end

/-! ### The entry into SEEKING (R88, R96, R103) -/

section
variable (s : State) (p : PortId) (attempts : Nat)

/-- The start of a search reaches the ports and the counter of free values alone. -/
theorem State.seek_beside : s.seek p attempts =
    { s with ports := (s.seek p attempts).ports, freeCount := (s.seek p attempts).freeCount } := by
  unfold State.seek
  dsimp only
  split <;> rfl

@[simp] theorem State.seek_attention : (s.seek p attempts).attention = s.attention := by
  rw [State.seek_beside]

@[simp] theorem State.seek_partTime : (s.seek p attempts).partTime = s.partTime := by
  rw [State.seek_beside]
  rfl

@[simp] theorem State.seek_listening : (s.seek p attempts).listening p = s.listening p := by
  rw [State.seek_beside]
  rfl

variable (marks : List (MarkKind × Word))

/-- An entry into SEEKING: the search starts, the line is silenced, and the progress of the patterns is reset. -/
theorem State.enterSeeking_port : (s.enterSeeking p attempts marks).port p = { s.port p with
    rf := (s.port p).rf.seek attempts, slu := (s.port p).slu.silence (s.freeLevel p)
    pm := (s.port p).pm.resetProgress
    ca := ((s.enterSeeking p attempts marks).port p).ca
    status := ((s.enterSeeking p attempts marks).port p).status } := by
  unfold State.enterSeeking
  rw [(State.onlyCapture_handItem _ p _).own, State.port_modPort_same, State.seek_port_same]
  unfold Port.noting
  split <;> split <;> rfl

theorem State.enterSeeking_noticeCount :
    ((s.enterSeeking p attempts marks).port p).status.noticeCount = (s.port p).status.noticeCount := by
  rw [State.enterSeeking, (State.handItem_notices _ p _ p).1]
  simp [State.seek_port_same]

@[simp] theorem State.enterSeeking_attention : (s.enterSeeking p attempts marks).attention = s.attention := by
  simp [State.enterSeeking]

variable {s p}

theorem State.enterSeeking_events (listening : s.listening p = true) (none : (s.port p).ca.events = []) :
    ((s.enterSeeking p attempts marks).port p).ca.events =
      [EventItem.mk (s.port p).slu.receiveCount s.partTime (.close marks)] := by
  have hears : ((s.seek p attempts).modPort p fun v => { v with pm := v.pm.resetProgress }).listening p = true :=
    (s.seek_listening p attempts).trans listening
  rw [State.enterSeeking, State.handItem_events_only hears (by simp [State.seek_port_same, none]) rfl]
  simp [State.seek_port_same, Slu.silence]

end

/-! ### The tally of a verification (R100, R101) -/

section
variable (s : State) (p : PortId) (framing : Bool)

/-- A delivered byte has been counted by the Rate Finder (R100). -/
def State.verifyCounted : State :=
  s.modPort p fun v => { v with rf := { v.rf with
    verifySeen := v.rf.verifySeen + 1, verifyFraming := v.rf.verifyFraming + (if framing then 1 else 0) } }

@[simp] theorem State.verifyCounted_port : (s.verifyCounted p framing).port p = { s.port p with
    rf := { (s.port p).rf with
      verifySeen := (s.port p).rf.verifySeen + 1
      verifyFraming := (s.port p).rf.verifyFraming + (if framing then 1 else 0) } } := by
  rw [State.verifyCounted, State.port_modPort_same]
  exact Port.noting_same rfl

variable {s p framing}

/-- In VERIFYING the tally decides at the fourth byte: by its framing errors, and then by the attempts. -/
theorem State.verifyByte_eq (verifying : (s.port p).rf.state = .verifying) : s.verifyByte p framing =
    if (s.port p).rf.verifySeen < 3 then s.verifyCounted p framing
    else if (s.port p).rf.verifyFraming + (if framing then 1 else 0) < 2 then (s.verifyCounted p framing).lockRate p
    else if (s.port p).rf.attempts < 2 then
      (s.verifyCounted p framing).enterSeeking p ((s.port p).rf.attempts + 1) [(.rateRejected, 0)]
    else (s.verifyCounted p framing).failRate p := by
  have seen : (s.port p).rf.verifySeen + 1 < 4 ↔ (s.port p).rf.verifySeen < 3 := Nat.add_lt_add_iff_right
  unfold State.verifyByte
  rw [if_pos verifying, ← State.verifyCounted]
  simp only [State.rejectRate, State.verifyCounted_port, seen]

end

/-! ### What a decision hands (R102, R105) -/

section
variable (s : State) (p : PortId) (rf : RateFinder) (period : Nat) (marks : List (MarkKind × Word)) (kind : NoticeKind)

/-- The Rate Finder and the period stand as decided (R100, R101). -/
def State.rateSet : State :=
  s.modPort p fun v => { v with rf := rf, slu := { v.slu with line := { v.slu.line with period := period } } }

@[simp] theorem State.rateSet_port : (s.rateSet p rf period).port p = (s.port p).noting { s.port p with
    rf := rf, slu := { (s.port p).slu with line := { (s.port p).slu.line with period := period } } } := by
  simp [State.rateSet]

/-- The decision stands, and its marks and its notice have been handed (R105). -/
def State.rateReported : State := ((s.rateSet p rf period).handItem p (.close marks)).notice p kind

theorem State.lockRate_eq : s.lockRate p = s.rateReported p { (s.port p).rf with state := .locked, attempts := 0 }
    (s.port p).slu.line.period
    [(.rateLocked, BitVec.ofNat 32 (achievedRate (s.port p).slu.line.period))] .rateLocked := rfl

theorem State.failRate_eq : s.failRate p = s.rateReported p { (s.port p).rf with state := .failed }
    (periodOfRate (s.port p).slu.line.fallbackRate)
    [(.rateRejected, 0),
      (.rateFailed, BitVec.ofNat 32 (achievedRate (periodOfRate (s.port p).slu.line.fallbackRate)))] .rateFailed := rfl

theorem State.rateReported_port : (s.rateReported p rf period marks kind).port p = { s.port p with
    rf := rf, slu := { (s.port p).slu with line := { (s.port p).slu.line with period := period } }
    ca := ((s.rateReported p rf period marks kind).port p).ca
    status := ((s.rateReported p rf period marks kind).port p).status } := by
  rw [State.rateReported, State.notice_port_same, (State.onlyCapture_handItem _ p _).own, State.rateSet_port]
  unfold Port.noting
  split <;> rfl

theorem State.rateReported_status :
    ((s.rateReported p rf period marks kind).port p).status.noticeCount = (s.port p).status.noticeCount + 1
      ∧ ((s.rateReported p rf period marks kind).port p).status.lastNotice = kind := by
  rw [State.rateReported, State.notice_port_same]
  dsimp only
  rw [(State.handItem_notices _ p _ p).1]
  simp

variable {s p kind}

theorem State.rateReported_attention (cause : kind.cause = some .rate) :
    (s.rateReported p rf period marks kind).attention = s.attention ||| 1#10 <<< 3 := by
  rw [State.rateReported, State.notice_attention _ _ cause, State.handItem_attention]
  rfl

theorem State.rateReported_events (listening : s.listening p = true) (none : (s.port p).ca.events = []) :
    ((s.rateReported p rf period marks kind).port p).ca.events =
      [EventItem.mk (s.port p).slu.receiveCount s.partTime (.close marks)] := by
  rw [State.rateReported, State.notice_port_same]
  refine (State.handItem_events_only (s := s.rateSet p rf period) listening (by simpa using none) rfl).trans ?_
  simp [State.rateSet]

end

/-! ### The wait for a rate ends (R29) -/

/-- Nothing waits for a rate, or the head is a SEND with text. -/
def Port.resumesSend (v : Port) : Prop :=
  v.exc.state ≠ .rateWait ∨ ∃ e rest, v.queue = e :: rest ∧ e.kind = .send ∧ 0 < e.fields.textLength

/-- Besides the controller and the fetch of a SEND that goes on, the end of a wait for a rate changes nothing. -/
structure State.rateWaitServed (s : State) (p : PortId) (t : State) : Prop where
  rf : (t.port p).rf = (s.port p).rf
  line : (t.port p).slu.line = (s.port p).slu.line
  ca : (t.port p).ca = (s.port p).ca
  noticeCount : (t.port p).status.noticeCount = (s.port p).status.noticeCount
  lastNotice : (t.port p).status.lastNotice = (s.port p).status.lastNotice
  attention : t.attention = s.attention
  resumed : (s.port p).exc.state = .rateWait → (t.port p).exc.state = .sending
  idle : (s.port p).exc.state ≠ .rateWait → (t.port p).exc = (s.port p).exc

section
variable {s : State} {p : PortId}

theorem State.serveRateWait_unfound (unlocked : (s.port p).rf.state ≠ .locked)
    (going : (s.port p).rf.state ≠ .failed) : s.serveRateWait p = s := by
  simp [State.serveRateWait, unlocked, going]

theorem State.serveRateWait_idle (idle : (s.port p).exc.state ≠ .rateWait) : s.serveRateWait p = s := by
  have stays : s.leaveRateWait p = s := by
    unfold State.leaveRateWait
    split
    · next waiting => exact absurd waiting idle
    · rfl
  simp [State.serveRateWait, stays]

/-- An attempt with a text leaves all of its port but the controller, the fetch and the changed flag. -/
theorem State.beginAttempt_text_port {f : TaskFields} (text : 0 < f.textLength) : (s.beginAttempt p f).port p =
    { s.port p with
      exc := ((s.beginAttempt p f).port p).exc, slu := ((s.beginAttempt p f).port p).slu
      status := ((s.beginAttempt p f).port p).status } := by
  rw [State.beginAttempt_text text, State.enterSending, State.port_modPort_same, State.stopFetch_port_same,
    State.attemptCounted_port]
  unfold Port.noting
  split <;> split <;> split <;> rfl

theorem State.beginAttempt_text_notices {f : TaskFields} (text : 0 < f.textLength) :
    ((s.beginAttempt p f).port p).status.noticeCount = (s.port p).status.noticeCount
      ∧ ((s.beginAttempt p f).port p).status.lastNotice = (s.port p).status.lastNotice := by
  rw [State.beginAttempt_text text, State.enterSending]
  simp

theorem State.rateWaitServed_serveRateWait (found : (s.port p).rf.state = .locked ∨ (s.port p).rf.state = .failed)
    (resumes : (s.port p).resumesSend) : s.rateWaitServed p (s.serveRateWait p) := by
  by_cases waiting : (s.port p).exc.state = .rateWait
  · obtain ⟨e, rest, queue, send, text⟩ := resumes.resolve_left (not_not_intro waiting)
    rw [State.serveRateWait_attempts queue waiting found (.inl ⟨send, text⟩)]
    have port := State.beginAttempt_text_port (s := s.rateWaitLeft p) (p := p) text
    obtain ⟨noticeCount, lastNotice⟩ := State.beginAttempt_text_notices (s := s.rateWaitLeft p) (p := p) text
    obtain ⟨exc, slu, _⟩ := State.beginAttempt_sends (s := s.rateWaitLeft p) (p := p) text
    refine ⟨?_, ?_, ?_, ?_, ?_, ?_, fun _ => ?_, fun idle => absurd waiting idle⟩
    · rw [port]
      simp
    · rw [slu]
      simp
    · rw [port]
      simp
    · rw [noticeCount]
      simp
    · rw [lastNotice]
      simp
    · exact (State.attemptFrame_beginAttempt _ p e.fields).attention
    · rw [exc]
  · rw [State.serveRateWait_idle waiting]
    exact ⟨rfl, rfl, rfl, rfl, rfl, rfl, fun h => absurd h waiting, fun _ => rfl⟩

end

/-! ### A delivered byte in VERIFYING (R100) -/

/-- A lost byte joins the loss runs, not the event list (R129). -/
theorem Capture.loseByte_events (ca : Capture) (sequence : Word) (trigger : Option PatternId) :
    (ca.loseByte sequence trigger).events = ca.events := by
  unfold Capture.loseByte
  dsimp only
  split
  · split <;> rfl
  · rfl

theorem State.byteStored_events (s : State) (p : PortId) (b : Byte) (framing parity : Bool) :
    ((s.byteStored p b framing parity).port p).ca.events = (s.port p).ca.events := by
  rcases Nat.lt_or_ge (s.port p).slu.fifo.length 64 with room | full
  · rw [(s.byteStored_fits p b framing parity room).2]
  · rw [(s.byteStored_lost p b framing parity full).2, Capture.loseByte_events]

/-- A byte has been stored and tallied, and no block but the Rate Finder has yet heard of it (R100). -/
structure State.tallied (s : State) (p : PortId) (framing : Bool) (t : State) : Prop where
  rf : (t.port p).rf = { (s.port p).rf with
    verifySeen := (s.port p).rf.verifySeen + 1
    verifyFraming := (s.port p).rf.verifyFraming + (if framing then 1 else 0) }
  exc : (t.port p).exc = (s.port p).exc
  queue : (t.port p).queue = (s.port p).queue
  line : (t.port p).slu.line = (s.port p).slu.line
  rx : (t.port p).slu.rx = (s.port p).slu.rx
  receiveCount : (t.port p).slu.receiveCount = (s.port p).slu.receiveCount + 1
  events : (t.port p).ca.events = (s.port p).ca.events
  noticeCount : (t.port p).status.noticeCount = (s.port p).status.noticeCount
  attention : t.attention = s.attention
  partTime : t.partTime = s.partTime
  listening : t.listening p = s.listening p

section
variable {s t : State} {p : PortId} {b : Byte} {framing parity : Bool}

theorem State.tallied_byteStored (unmatched : s.byteCompleted p b = []) :
    s.tallied p framing ((s.byteStored p b framing parity).verifyCounted p framing) := by
  obtain ⟨⟨_, bus, attention, _, _, tsu, _⟩, _, increments⟩ := State.onlyPort_byteStored framing parity unmatched
  obtain ⟨_, noticeCount, _⟩ := s.byteMatched_unwatched p b (by rw [unmatched]; rfl)
  refine ⟨by simp, by simp, by simp, by simp, by simp, by simp, ?_, ?_, attention, ?_, ?_⟩
  · rw [State.verifyCounted_port]
    exact s.byteStored_events p b framing parity
  · rw [State.verifyCounted_port]
    exact (s.byteStored_noticeCount p b framing parity).trans noticeCount
  · exact congrArg (BitVec.ofNat 32) increments
  · unfold State.listening State.inUse
    rw [← bus, ← tsu]
    rfl

/-- With no pattern armed a byte in VERIFYING is tallied, the tally decides, and a decision is served (R29, R100). -/
theorem State.deliver_verifying (verifying : (s.port p).rf.state = .verifying) (await : (s.port p).pm.await = none) :
    s.deliver p b framing parity = ((s.byteStored p b framing parity).verifyByte p framing).serveRateWait p := by
  have unawaited : ¬ (s.byteMatched p b).2.2 = true := by
    rw [s.byteMatched_awaited p b]
    simp [await]
  rw [State.deliver_eq, if_neg unawaited, State.byteVerified, if_pos verifying]

/-- What a decision that leaves the port LOCKED or FAILED makes of it (R29, R102, R105). -/
structure State.rateDecided (s : State) (p : PortId) (state : RateState) (attempts period : Nat)
    (marks : List (MarkKind × Word)) (kind : NoticeKind) (t : State) : Prop where
  state : (t.port p).rf.state = state
  attempts : (t.port p).rf.attempts = attempts
  line : (t.port p).slu.line = { (s.port p).slu.line with period := period }
  events : (t.port p).ca.events = [EventItem.mk ((s.port p).slu.receiveCount + 1) s.partTime (.close marks)]
  noticeCount : (t.port p).status.noticeCount = (s.port p).status.noticeCount + 1
  lastNotice : (t.port p).status.lastNotice = kind
  attention : t.attention = s.attention ||| 1#10 <<< 3
  resumed : (s.port p).exc.state = .rateWait → (t.port p).exc.state = .sending
  idle : (s.port p).exc.state ≠ .rateWait → (t.port p).exc = (s.port p).exc

variable (tallied : s.tallied p framing t) (listening : s.listening p = true) (none : (s.port p).ca.events = [])
include tallied listening none

theorem State.tallied.rateDecided (resumes : (s.port p).resumesSend) (rf : RateFinder) (period : Nat)
    (marks : List (MarkKind × Word)) {kind : NoticeKind} (cause : kind.cause = some .rate)
    (found : rf.state = .locked ∨ rf.state = .failed) :
    s.rateDecided p rf.state rf.attempts period marks kind
      ((t.rateReported p rf period marks kind).serveRateWait p) := by
  have port := t.rateReported_port p rf period marks kind
  obtain ⟨noticeCount, lastNotice⟩ := t.rateReported_status p rf period marks kind
  have events := State.rateReported_events rf period marks (kind := kind) (tallied.listening.trans listening)
    (tallied.events.trans none)
  have exc : ((t.rateReported p rf period marks kind).port p).exc = (s.port p).exc :=
    (congrArg Port.exc port).trans tallied.exc
  have queue : ((t.rateReported p rf period marks kind).port p).queue = (s.port p).queue :=
    (congrArg Port.queue port).trans tallied.queue
  have served := State.rateWaitServed_serveRateWait (s := t.rateReported p rf period marks kind) (p := p)
    (by rw [port]; exact found) (by rw [Port.resumesSend, exc, queue]; exact resumes)
  refine ⟨?_, ?_, ?_, ?_, ?_, served.lastNotice.trans lastNotice, ?_, fun h => served.resumed (by rw [exc, h]),
    fun h => (served.idle (by rwa [exc])).trans exc⟩
  · rw [served.rf, port]
  · rw [served.rf, port]
  · rw [served.line, port, tallied.line]
  · rw [served.ca, events, tallied.receiveCount, tallied.partTime]
  · rw [served.noticeCount, noticeCount, tallied.noticeCount]
  · rw [served.attention, State.rateReported_attention _ _ _ cause, tallied.attention]

/-- At most one framing error: LOCKED at the period of the estimate (R100). -/
theorem State.tallied.locked (resumes : (s.port p).resumesSend) :
    s.rateDecided p .locked 0 (s.port p).slu.line.period
      [(.rateLocked, BitVec.ofNat 32 (achievedRate (s.port p).slu.line.period))] .rateLocked
      ((t.lockRate p).serveRateWait p) := by
  rw [State.lockRate_eq, tallied.line]
  exact tallied.rateDecided listening none resumes { (t.port p).rf with state := .locked, attempts := 0 } _ _ rfl
    (.inl rfl)

/-- The third rejection: FAILED at the fallback rate (R101). -/
theorem State.tallied.failed (resumes : (s.port p).resumesSend) :
    s.rateDecided p .failed (s.port p).rf.attempts (periodOfRate (s.port p).slu.line.fallbackRate)
      [(.rateRejected, 0),
        (.rateFailed, BitVec.ofNat 32 (achievedRate (periodOfRate (s.port p).slu.line.fallbackRate)))] .rateFailed
      ((t.failRate p).serveRateWait p) := by
  have attempts : (s.port p).rf.attempts = (t.port p).rf.attempts := by rw [tallied.rf]
  rw [State.failRate_eq, tallied.line, attempts]
  exact tallied.rateDecided listening none resumes { (t.port p).rf with state := .failed } _ _ rfl (.inr rfl)

/-- A rejection before the third: SEEKING again, with its mark and no notice (R101, R105). -/
theorem State.tallied.rejected (attempts : Nat) :
    let u := (t.enterSeeking p attempts [(.rateRejected, 0)]).serveRateWait p
    (u.port p).rf = RateFinder.reset.seek attempts
      ∧ (u.port p).slu.line = (s.port p).slu.line ∧ (u.port p).exc = (s.port p).exc
      ∧ (u.port p).ca.events =
          [EventItem.mk ((s.port p).slu.receiveCount + 1) s.partTime (.close [(.rateRejected, 0)])]
      ∧ ((∀ edge silent, (s.port p).slu.rx ≠ .brk edge silent) → (u.port p).slu.rx = .notDecoding)
      ∧ (u.port p).pm.tail = [] ∧ (∀ i : PatternId, (u.port p).pm.eligible[i] = 0)
      ∧ (u.port p).status.noticeCount = (s.port p).status.noticeCount ∧ u.attention = s.attention := by
  have port := t.enterSeeking_port p attempts [(.rateRejected, 0)]
  have events := State.enterSeeking_events attempts [(.rateRejected, 0)] (tallied.listening.trans listening)
    (tallied.events.trans none)
  have state : ((t.enterSeeking p attempts [(.rateRejected, 0)]).port p).rf.state = .seeking := by
    rw [port]
    rfl
  dsimp only
  rw [State.serveRateWait_unfound (by rw [state]; decide) (by rw [state]; decide)]
  refine ⟨?_, ?_, ?_, ?_, fun unbroken => ?_, ?_, fun i => ?_, ?_, ?_⟩
  · rw [port]
    rfl
  · rw [port]
    exact tallied.line
  · rw [port]
    exact tallied.exc
  · rw [events, tallied.receiveCount, tallied.partTime]
  · rw [port]
    exact Slu.silence_rx _ (by rwa [tallied.rx])
  · rw [port]
    rfl
  · rw [port]
    simp [PortMatch.resetProgress]
  · rw [State.enterSeeking_noticeCount, tallied.noticeCount]
  · rw [State.enterSeeking_attention, tallied.attention]

end

/-! ### A change of presence (R103) -/

section
variable {s : State} {p : PortId}

/-- The search has lost its samples and its attempts (R103). -/
def State.searchCleared (s : State) (p : PortId) : State :=
  s.modPort p fun v => { v with rf := { v.rf with samples := [], interval := none, attempts := 0 } }

theorem State.searchCleared_port (s : State) (p : PortId) : (s.searchCleared p).port p = { s.port p with
    rf := { (s.port p).rf with samples := [], interval := none, attempts := 0 } } := by
  rw [State.searchCleared, State.port_modPort_same]
  exact Port.noting_same rfl

/-- In SEEKING the search that goes on loses its samples and its attempts, and a presence changes nothing. -/
theorem State.ratePresence_seeking (seeking : (s.port p).rf.state = .seeking) :
    s.ratePresence p .absent = s.searchCleared p ∧ s.ratePresence p .present = s := by
  simp only [State.ratePresence, seeking, State.searchCleared, and_self]

/-- A rate that is verified or found is lost with the device; a presence changes nothing. -/
theorem State.ratePresence_found (found : (s.port p).rf.state = .verifying ∨ (s.port p).rf.state = .locked) :
    s.ratePresence p .absent = s.enterSeeking p 0 [] ∧ s.ratePresence p .present = s := by
  rcases found with h | h <;> simp only [State.ratePresence, h, and_self]

/-- A search that failed starts again with a device, and not without one. -/
theorem State.ratePresence_failed (failed : (s.port p).rf.state = .failed) :
    s.ratePresence p .present = s.enterSeeking p 0 [] ∧ s.ratePresence p .absent = s := by
  simp only [State.ratePresence, failed, and_self]

/-- A search that starts on a change of presence keeps nothing of the one before, nor of the patterns' progress. -/
theorem State.enterSeeking_anew (s : State) (p : PortId) : ((s.enterSeeking p 0 []).port p).rf = RateFinder.reset.seek 0
    ∧ ((s.enterSeeking p 0 []).port p).slu.line = (s.port p).slu.line
    ∧ ((s.enterSeeking p 0 []).port p).pm.tail = [] := by
  rw [State.enterSeeking_port]
  exact ⟨rfl, rfl, rfl⟩

end

/-! ### The statement -/

/-- Settles O47: the outcomes of a judgement, of a verification by its tally and attempts, and of a change of
presence by the rate state. -/
theorem rateFinderJudgesIntervals : Obligations.RateFinderJudgesIntervals := by
  refine ⟨fun s p start phase undecoded space _ measured => ?_, ?_, fun s p => ⟨?_, ?_, ?_, ?_⟩⟩
  · have frame := (s.reachPhase phase).judgeFrame_judgeInterval p ((s.reachPhase phase).time.ticks - start)
    have ticks : ((s.reachPhase phase).judgeInterval p ((s.reachPhase phase).time.ticks - start)).time.ticks =
      (s.reachPhase phase).time.ticks := by rw [frame.time]
    refine ⟨_, (exec_rfIntervalEnd p phase s).trans
      (congrArg _ (State.intervalEnds_measured undecoded space measured)), ticks.trans (s.reachPhase_ticks phase), ?_⟩
    rw [ticks]
    refine ⟨fun ignored => ?_, fun low high few => ?_, fun low high seven => ?_, ?_, ?_, ?_,
      (s.onlyPort_reachPhase p phase).trans frame.only⟩
    · rw [State.judgeInterval_ignored ignored, State.intervalClosed_port]
      exact ⟨rfl, rfl⟩
    · rw [State.judgeInterval_sampled (s := s.reachPhase phase) low high few, State.intervalSampled_port]
      exact ⟨rfl, rfl⟩
    · exact State.judgeInterval_period (s := s.reachPhase phase) low high seven undecoded
    all_goals rw [frame.port]; rfl
  · rintro s t p b framing parity errors rfl on inUse verifying watch await none resumes rfl
    have listening := State.listening_of on inUse
    have tallied := State.tallied_byteStored (framing := framing) (parity := parity)
      (PortMatch.completedBy_unarmed watch await s.patterns b)
    have verified := State.verifyByte_eq (s := s.byteStored p b framing parity) (p := p) (framing := framing)
      (by simpa using verifying)
    rw [State.byteStored_rf] at verified
    rw [State.deliver_verifying verifying await, verified]
    refine ⟨fun few => ?_, fun four good => ?_, fun four bad again => ?_, fun four bad last => ?_⟩
    · rw [if_pos few, State.serveRateWait_unfound (by simp [verifying]) (by simp [verifying])]
      exact ⟨tallied.rf, tallied.events.trans none, tallied.exc, tallied.noticeCount, tallied.attention⟩
    · rw [if_neg (Nat.not_lt.2 four), if_pos good]
      have decided := tallied.locked listening none resumes
      exact ⟨decided.state, decided.attempts, decided.line, decided.events, decided.noticeCount, decided.lastNotice,
        decided.attention, decided.resumed, decided.idle⟩
    · rw [if_neg (Nat.not_lt.2 four), if_neg (Nat.not_lt.2 bad), if_pos again]
      exact tallied.rejected listening none _
    · rw [if_neg (Nat.not_lt.2 four), if_neg (Nat.not_lt.2 bad), if_neg (Nat.not_lt.2 last)]
      have decided := tallied.failed listening none resumes
      exact ⟨decided.state, decided.attempts, decided.line, decided.events, decided.noticeCount, decided.lastNotice,
        decided.attention, decided.resumed, decided.idle⟩
  · intro seeking
    obtain ⟨absent, present⟩ := State.ratePresence_seeking seeking
    rw [absent, State.searchCleared_port]
    exact ⟨rfl, rfl, rfl, present⟩
  · intro found
    obtain ⟨absent, present⟩ := State.ratePresence_found found
    obtain ⟨rf, line, tail⟩ := s.enterSeeking_anew p
    rw [absent]
    exact ⟨rf, line, tail, present⟩
  · intro failed
    obtain ⟨present, absent⟩ := State.ratePresence_failed failed
    obtain ⟨rf, line, tail⟩ := s.enterSeeking_anew p
    rw [present]
    exact ⟨rf, line, tail, absent⟩
  · exact fun fixed => ⟨State.ratePresence_fixed fixed .absent, State.ratePresence_fixed fixed .present⟩

end Sys2Proof.Machine
end

section
/-! SUPPORT. The Capture Assembler's inputs and its steps: the choice of the next input, the records that come into
hand, and what the steps of a met input leave unchanged. -/

namespace Sys2Proof.Machine

/-! ### The next input (R128, R150) -/

theorem exec_caMeetInput (p : PortId) (s : State) : exec (.caMeetInput p) s = .next (s.meetNext p) := rfl

/-- How far behind the front of a queue lies, counted from 1, is bounded where the front is. -/
theorem frontBehind_le {α : Type} {front : Option α} {behind : α → Nat} {n : Nat}
    (h : ∀ a, front = some a → behind a < n) : (front.map fun a => behind a + 1).getD 0 ≤ n := by
  cases front with
  | none => exact Nat.zero_le n
  | some a => exact h a rfl

section
variable {v : Port}

/-- A freeze item is met before everything (R150). -/
theorem Port.nextInput_freeze (waits : ∃ it ∈ v.ca.events, it.action = .freeze) :
    ∃ it, it.action = .freeze ∧ v.nextInput = some (.item it) := by
  cases found : v.ca.events.find? EventItem.isFreeze with
  | none =>
    obtain ⟨it, mem, freeze⟩ := waits
    exact absurd (List.find?_eq_none.1 found it mem) (by simp [EventItem.isFreeze, freeze])
  | some it =>
    have freeze : it.isFreeze = true := List.find?_some found
    exact ⟨it, of_decide_eq_true freeze, by simp only [Port.nextInput, found]⟩

theorem Port.find_freeze_none (ordinary : ∀ x ∈ v.ca.events, x.action ≠ .freeze) :
    v.ca.events.find? EventItem.isFreeze = none :=
  List.find?_eq_none.2 fun x mem => by simpa [EventItem.isFreeze] using ordinary x mem

/-- An event item is met where neither a byte nor a loss run lies farther behind (R128). -/
theorem Port.nextInput_item {it : EventItem} {rest : List EventItem} (events : v.ca.events = it :: rest)
    (ordinary : ∀ x ∈ v.ca.events, x.action ≠ .freeze)
    (byte : ∀ e, v.slu.fifo.head? = some e → v.distance e.sequence ≤ v.distance it.position)
    (run : ∀ r, v.ca.lossRuns.head? = some r → v.distance r.sequence ≤ v.distance it.position) :
    v.nextInput = some (.item it) := by
  have farthest : max _ _ ≤ v.distance it.position + 1 := Nat.max_le.2
    ⟨frontBehind_le fun e h => Nat.lt_succ_of_le (byte e h), frontBehind_le fun r h => Nat.lt_succ_of_le (run r h)⟩
  simp only [Port.nextInput, Port.find_freeze_none ordinary]
  simp only [events, List.head?_cons, farthest]
  rfl

/-- A byte is met where everything else lies less far behind (R128). -/
theorem Port.nextInput_byte {e : FifoEntry} {rest : List FifoEntry} (fifo : v.slu.fifo = e :: rest)
    (ordinary : ∀ x ∈ v.ca.events, x.action ≠ .freeze)
    (item : ∀ it, v.ca.events.head? = some it → v.distance it.position < v.distance e.sequence)
    (run : ∀ r, v.ca.lossRuns.head? = some r → v.distance r.sequence < v.distance e.sequence) :
    v.nextInput = some (.byte e) := by
  have nearer := Nat.le_succ_of_le (frontBehind_le run)
  simp only [Port.nextInput, Port.find_freeze_none ordinary, fifo, List.head?_cons, Option.map_some, Option.getD_some]
  rw [if_neg, if_pos nearer]
  split
  · next it front => simpa using fun h => absurd h (Nat.not_le.2 (item it front))
  · exact Bool.false_ne_true

/-- A loss run is met where everything else lies less far behind (R128). -/
theorem Port.nextInput_run {r : LossRun} {rest : List LossRun} (runs : v.ca.lossRuns = r :: rest)
    (ordinary : ∀ x ∈ v.ca.events, x.action ≠ .freeze)
    (item : ∀ it, v.ca.events.head? = some it → v.distance it.position < v.distance r.sequence)
    (byte : ∀ e, v.slu.fifo.head? = some e → v.distance e.sequence < v.distance r.sequence) :
    v.nextInput = some (.run r) := by
  have nearer := frontBehind_le byte
  simp only [Port.nextInput, Port.find_freeze_none ordinary, runs, List.head?_cons, Option.map_some, Option.getD_some]
  rw [if_neg, if_neg (Nat.not_le.2 (Nat.lt_succ_of_le nearer))]
  split
  · next it front => simpa using fun _ => item it front
  · exact Bool.false_ne_true

theorem Port.nextInput_none (fifo : v.slu.fifo = []) (runs : v.ca.lossRuns = []) (events : v.ca.events = []) :
    v.nextInput = none := by
  simp [Port.nextInput, fifo, runs, events]

end

section
variable {s : State} {p : PortId}

/-- A port in use meets its next input where nothing of an earlier one is left (R128). -/
theorem State.meetNext_some {input : CaptureInput} (on : s.bus.control ≠ .off)
    (inUse : p.val < s.tsu.geometry.portCount) (inHand : (s.port p).ca.inHand = none)
    (agenda : (s.port p).ca.agenda = []) (next : (s.port p).nextInput = some input) :
    s.meetNext p = s.meetInput p input := by
  simp [State.meetNext, State.listening_of on inUse, Capture.ready, inHand, agenda, next]

theorem exec_caMeetInput_met {input : CaptureInput} (on : s.bus.control ≠ .off)
    (inUse : p.val < s.tsu.geometry.portCount) (inHand : (s.port p).ca.inHand = none)
    (agenda : (s.port p).ca.agenda = []) (next : (s.port p).nextInput = some input) :
    exec (.caMeetInput p) s = .next (s.meetInput p input) :=
  (exec_caMeetInput p s).trans (congrArg _ (State.meetNext_some on inUse inHand agenda next))

/-- In OFF, on a port not in use, with a record in hand or with nothing waiting no input is met (R128, R145, R180). -/
theorem State.meetNext_none (h : s.bus.control = .off ∨ s.tsu.geometry.portCount ≤ p.val
      ∨ (s.port p).ca.inHand ≠ none ∨ (s.port p).ca.agenda ≠ []
      ∨ ((s.port p).slu.fifo = [] ∧ (s.port p).ca.lossRuns = [] ∧ (s.port p).ca.events = [])) :
    s.meetNext p = s := by
  rcases h with off | unused | inHand | agenda | ⟨fifo, runs, events⟩
  · simp [State.meetNext, State.listening, off]
  · simp [State.meetNext, State.listening, State.inUse, Nat.not_lt.2 unused]
  · simp [State.meetNext, Capture.ready, inHand]
  · simp [State.meetNext, Capture.ready, agenda]
  · simp [State.meetNext, Port.nextInput_none fifo runs events]

end

/-! ### Records that come into hand (R127, R131) -/

theorem placeRecords_isEmpty (areaSize w : Nat) (records : List UnitRecord) :
    (placeRecords areaSize w records).isEmpty = records.isEmpty := by
  cases records with
  | nil => rfl
  | cons r rest =>
    simp only [placeRecords]
    split <;> rfl

/-- The pending gap's GAP and the records behind it, placed in the area as one unit that needs no room test. -/
def Capture.unitWith (ca : Capture) (records : List UnitRecord) : WriteUnit :=
  { records := placeRecords ca.areaSize ca.writePosition.toNat (ca.gap.toList.map UnitRecord.gap ++ records)
    passed := true }

section
variable {s : State} {p : PortId}

/-- Outside KEEP a record comes into hand, or nothing changes. -/
theorem State.takeInHand_unkept (unkept : (s.port p).ca.mode ≠ .keep) (record : Option CaptureRecord)
    (joinGap : Bool) : s.takeInHand p record joinGap = s
      ∨ ∃ u, s.takeInHand p record joinGap =
        s.modPort p fun v => { v with ca := { v.ca with inHand := some u } } := by
  unfold State.takeInHand
  extract_lets ca gap records
  split
  · exact .inl rfl
  · split
    · exact .inl rfl
    · exact .inr ⟨_, rfl⟩
    · next keep => exact absurd keep unkept

/-- In HISTORY a record comes into hand behind the pending gap's GAP (R131, R138). -/
theorem State.takeInHand_record (history : (s.port p).ca.mode = .history) (record : CaptureRecord) :
    s.takeInHand p (some record) true = s.modPort p fun v =>
      { v with ca := { v.ca with inHand := some ((s.port p).ca.unitWith [.record record]) } } := by
  have nonempty : ((s.port p).ca.gap.toList.map UnitRecord.gap ++ [UnitRecord.record record]).isEmpty = false := by
    simp
  simp [State.takeInHand, placeRecords_isEmpty, nonempty, history, Capture.unitWith]

/-- With no pending gap there is no GAP to write. -/
theorem State.takeInHand_noGap (none : (s.port p).ca.gap = none) : s.takeInHand p .none true = s := by
  simp [State.takeInHand, none, placeRecords]

/-- In HISTORY the pending gap's GAP comes into hand alone (R138). -/
theorem State.takeInHand_gap {g : PendingGap} (history : (s.port p).ca.mode = .history)
    (gap : (s.port p).ca.gap = some g) : s.takeInHand p none true = s.modPort p fun v =>
      { v with ca := { v.ca with inHand := some {
        records := placeRecords (s.port p).ca.areaSize (s.port p).ca.writePosition.toNat [.gap g]
        passed := true } } } := by
  simp [State.takeInHand, placeRecords_isEmpty, gap, history]

end

/-! ### What records leave of their port (R131, R141) -/

theorem Capture.addGap_own (ca : Capture) (cause : GapCause) (sequence time : Word) (n : Nat) :
    ca.addGap cause sequence time n = { ca with gap := (ca.addGap cause sequence time n).gap } := by
  unfold Capture.addGap
  split
  · rfl
  · split <;> rfl

/-- What joins the pending gap depends on nothing else of the capture (R137). -/
theorem Capture.addGap_gap {ca ca' : Capture} (same : ca.gap = ca'.gap) (cause : GapCause) (sequence time : Word)
    (n : Nat) : (ca.addGap cause sequence time n).gap = (ca'.addGap cause sequence time n).gap := by
  unfold Capture.addGap
  rw [same]
  split
  · exact same
  · split <;> rfl

theorem Capture.gapOfDiscarded_own (ca : Capture) (records : List UnitRecord) :
    ca.gapOfDiscarded records = { ca with gap := (ca.gapOfDiscarded records).gap } := by
  induction records generalizing ca with
  | nil => rfl
  | cons r rest ih =>
    match r with
    | .record (.data d cause) =>
      rw [Capture.gapOfDiscarded, ih, Capture.addGap_own]
    | .record (.tx _ _) | .record (.mark _ _ _ _) | .pad _ | .gap _ => exact ih ca

/-- A changed port is what the change makes of it, but for the status writer's flag (R146). -/
theorem State.modPort_own (s : State) (p : PortId) (f : Port → Port) :
    (s.modPort p f).port p = { f (s.port p) with status := ((s.modPort p f).port p).status } := by
  rw [State.port_modPort_same]
  rcases Port.noting_eq (s.port p) (f (s.port p)) with h | h <;> rw [h]

/-- Of the port only what its records in hand bear on may differ, and of the other ports nothing. -/
structure State.recordFrame (s : State) (p : PortId) (t : State) : Prop where
  own : t.port p = { s.port p with
    ca := { (s.port p).ca with
      state := (t.port p).ca.state
      agenda := (t.port p).ca.agenda
      inHand := (t.port p).ca.inHand
      gap := (t.port p).ca.gap
      fetch := (t.port p).ca.fetch }
    status := (t.port p).status }
  elsewhere : s.sameElsewhere p t

section
variable {s t u : State} {p : PortId}

theorem State.recordFrame.refl (s : State) (p : PortId) : s.recordFrame p s := ⟨rfl, fun _ _ => rfl⟩

theorem State.recordFrame.trans (st : s.recordFrame p t) (tu : t.recordFrame p u) : s.recordFrame p u :=
  ⟨by rw [tu.own, st.own], State.sameElsewhere.trans st.elsewhere tu.elsewhere⟩

theorem State.recordFrame_modPort (s : State) (p : PortId) {f : Port → Port}
    (own : f (s.port p) = { s.port p with
      ca := { (s.port p).ca with
        state := (f (s.port p)).ca.state
        agenda := (f (s.port p)).ca.agenda
        inHand := (f (s.port p)).ca.inHand
        gap := (f (s.port p)).ca.gap
        fetch := (f (s.port p)).ca.fetch }
      status := (f (s.port p)).status } := by rfl) : s.recordFrame p (s.modPort p f) := by
  refine ⟨?_, fun _ hq => s.port_modPort_ne f hq⟩
  rw [State.modPort_own, own]

theorem State.recordFrame_notice (s : State) (p : PortId) (kind : NoticeKind) :
    s.recordFrame p (s.notice p kind) :=
  ⟨by rw [State.notice_port_same], fun _ hq => State.notice_port_ne s p kind hq⟩

theorem State.recordFrame_discardUnit (s : State) (p : PortId) (unit : WriteUnit) :
    s.recordFrame p (s.discardUnit p unit) := by
  unfold State.discardUnit
  extract_lets dropped
  have frame : s.recordFrame p dropped := s.recordFrame_modPort p (by rw [Capture.gapOfDiscarded_own])
  split
  · exact frame.trans ((dropped.recordFrame_modPort p).trans (State.recordFrame_notice _ p .full))
  · exact frame

theorem State.recordFrame_takeInHand (s : State) (p : PortId) (record : Option CaptureRecord) (joinGap : Bool) :
    s.recordFrame p (s.takeInHand p record joinGap) := by
  unfold State.takeInHand
  extract_lets ca gap records
  split
  · exact .refl s p
  · split
    · exact .refl s p
    · exact s.recordFrame_modPort p
    · unfold State.testUnit
      dsimp only
      split
      · exact s.recordFrame_modPort p
      · split
        · exact s.recordFrame_discardUnit p _
        · exact s.recordFrame_modPort p

end

/-! ### The steps of a met input (R131, R134) -/

section
variable (s : State) (p : PortId)

/-- The last step of an agenda leaves none behind it, with a record in hand or without. -/
theorem State.runAgenda_last (step : CaptureStep) : s.runAgenda p [step] =
    (s.captureStep p step).modPort p fun v => { v with ca := { v.ca with agenda := [] } } := by
  simp only [State.runAgenda, ite_self]

variable {s p}

theorem State.runAgenda_held {step : CaptureStep} {rest : List CaptureStep}
    (held : ((s.captureStep p step).port p).ca.inHand.isSome = true) : s.runAgenda p (step :: rest) =
      (s.captureStep p step).modPort p fun v => { v with ca := { v.ca with agenda := rest } } := by
  rw [State.runAgenda, if_pos held]

/-- In HISTORY the first record of an agenda comes into hand, and the rest waits (R131). -/
theorem State.runAgenda_record (history : (s.port p).ca.mode = .history) (record : CaptureRecord)
    (rest : List CaptureStep) : ((s.runAgenda p (.write record true :: rest)).port p).ca =
      { (s.port p).ca with inHand := some ((s.port p).ca.unitWith [.record record]), agenda := rest } := by
  have taken : s.captureStep p (.write record true) = _ := State.takeInHand_record history record
  rw [State.runAgenda_held (by rw [taken]; simp), taken]
  simp

/-- In HISTORY the GAP of the pending gap, if there is one, comes into hand (R138). -/
theorem State.runAgenda_gap (history : (s.port p).ca.mode = .history) (inHand : (s.port p).ca.inHand = none) :
    ((s.runAgenda p [.writeGap]).port p).ca = { (s.port p).ca with
      inHand := (s.port p).ca.gap.map fun g => {
        records := placeRecords (s.port p).ca.areaSize (s.port p).ca.writePosition.toNat [.gap g]
        passed := true }
      agenda := [] } := by
  rw [State.runAgenda_last]
  cases gap : (s.port p).ca.gap with
  | none =>
    rw [show s.captureStep p .writeGap = s from State.takeInHand_noGap gap]
    simp [inHand]
  | some g =>
    rw [show s.captureStep p .writeGap = _ from State.takeInHand_gap history gap]
    simp

end

/-- A step that only brings a record or a GAP into hand. -/
def CaptureStep.brings : CaptureStep → Bool
  | .write _ _ | .writeGap => true
  | .loseRun _ _ => false

section
variable {s : State} {p : PortId}

theorem State.recordFrame_captureStep {step : CaptureStep} (brings : step.brings = true) :
    s.recordFrame p (s.captureStep p step) := by
  cases step with
  | write record joinGap => exact s.recordFrame_takeInHand p _ _
  | writeGap => exact s.recordFrame_takeInHand p _ _
  | loseRun run met => exact absurd brings Bool.false_ne_true

/-- Steps that bring records leave everything else of the port. -/
theorem State.recordFrame_runAgenda {steps : List CaptureStep} (brings : ∀ c ∈ steps, c.brings = true) :
    s.recordFrame p (s.runAgenda p steps) := by
  induction steps generalizing s with
  | nil => exact s.recordFrame_modPort p
  | cons c rest ih =>
    have step := State.recordFrame_captureStep (s := s) (p := p) (brings c List.mem_cons_self)
    unfold State.runAgenda
    dsimp only
    split
    · exact step.trans (State.recordFrame_modPort _ p)
    · exact step.trans (ih fun c mem => brings c (List.mem_cons_of_mem _ mem))

end

/-- Outside KEEP no record is discarded, so that the pending gap stands until it is issued (R138, R141). -/
theorem State.runAgenda_gapKept {s : State} {p : PortId} {steps : List CaptureStep}
    (brings : ∀ c ∈ steps, c.brings = true) (unkept : (s.port p).ca.mode ≠ .keep) :
    ((s.runAgenda p steps).port p).ca.gap = (s.port p).ca.gap := by
  have take : ∀ (record : Option CaptureRecord) (joinGap : Bool) (u : State), (u.port p).ca.mode ≠ .keep →
      ((u.takeInHand p record joinGap).port p).ca.gap = (u.port p).ca.gap := fun record joinGap u unkept => by
    rcases State.takeInHand_unkept unkept record joinGap with same | ⟨unit, taken⟩
    · rw [same]
    · rw [taken, State.port_modPort_same, Port.noting_ca]
  induction steps generalizing s with
  | nil => rw [State.runAgenda, State.port_modPort_same, Port.noting_ca]
  | cons c rest ih =>
    have brought := brings c List.mem_cons_self
    have frame := State.recordFrame_captureStep (s := s) (p := p) brought
    have step : ((s.captureStep p c).port p).ca.gap = (s.port p).ca.gap := by
      cases c with
      | write record joinGap => exact take _ _ s unkept
      | writeGap => exact take _ _ s unkept
      | loseRun run met => exact absurd brought Bool.false_ne_true
    rw [State.runAgenda]
    split
    · rw [State.port_modPort_same, Port.noting_ca]
      exact step
    · rw [ih (fun c mem => brings c (List.mem_cons_of_mem _ mem)) (by rw [frame.own]; exact unkept), step]

end Sys2Proof.Machine
end

section
/-! SUPPORT. The meeting of a byte and of a loss run: what the freeze and the pending gap make of them, the open DATA
record, and what is left of the port. -/

namespace Sys2Proof.Machine

/-! ### Loss runs (R129, R137, R149) -/

section
variable {ca : Capture} {n : Nat} (some : 0 < n) (cause : GapCause) (sequence time : Word)
include some

/-- The first bytes of a gap give it its cause, sequence and time (R137). -/
theorem Capture.addGap_first (none : ca.gap = .none) : ca.addGap cause sequence time n = { ca with
    gap := .some { count := min n 4294967295, cause := cause, sequence := sequence, time := time } } := by
  simp [Capture.addGap, some.ne', none]

theorem Capture.addGap_more {g : PendingGap} (gap : ca.gap = .some g) : ca.addGap cause sequence time n =
    { ca with gap := .some { g with count := min (g.count + n) 4294967295 } } := by
  simp [Capture.addGap, some.ne', gap]

end

theorem LossRun.after_all {run : LossRun} {n : Nat} (all : run.count ≤ n) : run.after n = [] :=
  if_neg (Nat.not_lt.2 all)

/-- A freeze item handed or placed anew leaves the other items (R130). -/
theorem Port.handFreeze_ordinary (v : Port) (sequence now : Word) :
    ((v.handFreeze sequence now).ca.events.filter fun it => it.action ≠ .freeze)
      = v.ca.events.filter fun it => it.action ≠ .freeze := by
  simp [Port.handFreeze, Capture.placeItem, ItemAction.always, List.filter_filter]

/-- A run without a trigger, or one that no freeze attends to, is taken in whole (R149). -/
theorem Freeze.meetRun_whole {f : Freeze} {run : LossRun}
    (h : f.state = .frozen ∨ (f.state = .live ∧ run.trigger = none)) : f.meetRun run = (f, run.count, false) := by
  rcases h with frozen | ⟨live, none⟩
  · simp [Freeze.meetRun, frozen]
  · simp [Freeze.meetRun, live, none]

/-- Some of a run is taken in, the rest waits as a run (R149). -/
theorem Freeze.meetRun_taken (f : Freeze) (run : LossRun) :
    ∃ n, 0 < n ∧ run.after (f.meetRun run).2.1 = run.after n := by
  have whole : ∃ n, 0 < n ∧ run.after run.count = run.after n :=
    ⟨run.count + 1, Nat.succ_pos _, by rw [LossRun.after_all le_rfl, LossRun.after_all (Nat.le_succ _)]⟩
  unfold Freeze.meetRun
  split
  · exact whole
  · split
    · exact whole
    · next remaining =>
      split
      · exact ⟨_, Nat.pos_of_ne_zero remaining, rfl⟩
      · exact whole
  · split
    · exact whole
    · next t place trigger =>
      dsimp only
      split
      · exact ⟨place + 1 + f.postCount, by omega, rfl⟩
      · exact whole

section
variable {v : Port} {run : LossRun} {now : Word}

/-- A run that no freeze attends to joins the pending gap whole, but in mode OFF (R137). -/
theorem Port.loseRun_whole (on : v.ca.mode ≠ .off) (h : v.ca.settled = true ∨ v.freeze.state = .frozen
      ∨ (v.freeze.state = .live ∧ run.trigger = none)) :
    v.loseRun run now = { v with ca := v.ca.addGap .overrun run.sequence now run.count } := by
  unfold Port.loseRun
  rw [if_neg on]
  split
  · rfl
  · next unsettled =>
    rw [Freeze.meetRun_whole (h.resolve_left unsettled)]
    simp only [LossRun.after_all le_rfl, List.nil_append, Bool.false_eq_true, if_false]

theorem Port.loseRun_off (off : v.ca.mode = .off) : v.loseRun run now = v := if_pos off

end

/-- What is left of a port by the loss of a met run, or by its wait for a record in hand (R129, R137, R149). -/
structure Port.runLost (v : Port) (run : LossRun) (w : Port) : Prop where
  mode : w.ca.mode = v.ca.mode
  slu : w.slu = v.slu
  queue : w.queue = v.queue
  openData : w.ca.openData = v.ca.openData
  lossRuns : ∃ n, 0 < n ∧ w.ca.lossRuns = run.after n ++ v.ca.lossRuns
  whole : v.ca.mode = .off ∨ (v.freeze.state = .live ∧ run.trigger = none) → w.ca.lossRuns = v.ca.lossRuns
  ordinary : (w.ca.events.filter fun it => it.action ≠ .freeze) = v.ca.events.filter fun it => it.action ≠ .freeze

theorem Port.runLost.refl (v : Port) (run : LossRun) : v.runLost run v :=
  ⟨rfl, rfl, rfl, rfl, ⟨run.count + 1, Nat.succ_pos _, by rw [LossRun.after_all (Nat.le_succ _), List.nil_append]⟩,
    fun _ => rfl, rfl⟩

/-- The bytes of a run that the freeze takes in have joined the pending gap, and the others wait (R137, R149). -/
def Port.runJoined (v : Port) (run : LossRun) (now : Word) : Port :=
  { v with
    freeze := (v.freeze.meetRun run).1
    ca := { v.ca with
      gap := (v.ca.addGap .overrun run.sequence now (v.freeze.meetRun run).2.1).gap
      lossRuns := run.after (v.freeze.meetRun run).2.1 ++ v.ca.lossRuns } }

/-- A freeze that is entered within the run hands its item (R149, R150). -/
theorem Port.loseRun_attended {v : Port} {run : LossRun} {now : Word} (on : v.ca.mode ≠ .off)
    (unsettled : v.ca.settled ≠ true) : v.loseRun run now = v.runJoined run now
      ∨ ∃ sequence, v.loseRun run now = (v.runJoined run now).handFreeze sequence now := by
  unfold Port.loseRun
  rw [if_neg on, if_neg unsettled]
  dsimp only
  rw [Capture.addGap_own]
  split
  · exact .inr ⟨_, rfl⟩
  · exact .inl rfl

theorem Port.runLost_loseRun (v : Port) (run : LossRun) (now : Word) : v.runLost run (v.loseRun run now) := by
  by_cases off : v.ca.mode = .off
  · rw [Port.loseRun_off off]
    exact .refl v run
  have whole : v.ca.mode = .off ∨ (v.freeze.state = .live ∧ run.trigger = none) →
      (v.loseRun run now).ca.lossRuns = v.ca.lossRuns := fun h => by
    rw [Port.loseRun_whole off (.inr (.inr (h.resolve_left off))), Capture.addGap_own]
  by_cases settled : v.ca.settled = true
  · rw [Port.loseRun_whole off (.inl settled), Capture.addGap_own]
    exact ⟨rfl, rfl, rfl, rfl, (Port.runLost.refl v run).lossRuns, fun _ => rfl, rfl⟩
  · obtain ⟨n, pos, rest⟩ := v.freeze.meetRun_taken run
    have waiting : ∃ n, 0 < n ∧ (v.runJoined run now).ca.lossRuns = run.after n ++ v.ca.lossRuns :=
      ⟨n, pos, by rw [← rest]; rfl⟩
    rcases Port.loseRun_attended off settled with joined | ⟨sequence, joined⟩ <;> rw [joined] at whole ⊢
    · exact ⟨rfl, rfl, rfl, rfl, waiting, whole, rfl⟩
    · exact ⟨rfl, rfl, rfl, rfl, waiting, whole, Port.handFreeze_ordinary ..⟩

/-! ### Bytes (R120, R132, R133, R148) -/

section
variable {v : Port}

/-- The freeze of a byte leaves all of its port but the freeze and the item that it may hand (R148). -/
theorem Port.freezeByte_own (v : Port) (sequence now : Word) (trigger : Option PatternId) :
    v.freezeByte sequence now trigger = { v with
      freeze := (v.freezeByte sequence now trigger).freeze
      ca := { v.ca with
        events := (v.freezeByte sequence now trigger).ca.events
        runGrows := (v.freezeByte sequence now trigger).ca.runGrows } } := by
  unfold Port.freezeByte
  split
  · split
    · dsimp only
      split <;> rfl
    · split
      · rfl
      · dsimp only
        split <;> rfl
    all_goals rfl
  · rfl

theorem Port.freezeByte_ordinary (v : Port) (sequence now : Word) (trigger : Option PatternId) :
    ((v.freezeByte sequence now trigger).ca.events.filter fun it => it.action ≠ .freeze)
      = v.ca.events.filter fun it => it.action ≠ .freeze := by
  unfold Port.freezeByte
  split
  · split
    · dsimp only
      split
      · exact Port.handFreeze_ordinary ..
      · rfl
    · split
      · rfl
      · dsimp only
        split
        · exact Port.handFreeze_ordinary ..
        · rfl
    all_goals rfl
  · rfl

/-- Without a trigger the freeze stays in its state until its item is met (R148, log 18). -/
theorem Port.freezeByte_state (v : Port) (sequence now : Word) :
    (v.freezeByte sequence now none).freeze.state = v.freeze.state := by
  unfold Port.freezeByte
  split
  · split
    · next none => cases none
    · split
      · rfl
      · dsimp only
        split <;> rfl
    all_goals rfl
  · rfl

/-- In LIVE a byte without a trigger does nothing to the freeze (R148). -/
theorem Port.freezeByte_live (live : v.freeze.state = .live) (sequence now : Word) :
    v.freezeByte sequence now none = v := by
  simp [Port.freezeByte, live]

end

/-- The port with the front entry of its FIFO taken (R132). -/
def Port.fifoTaken (v : Port) : Port := { v with slu := { v.slu with fifo := v.slu.fifo.tail } }

section
variable {v : Port} {e : FifoEntry} {now : Word}

theorem Port.meetByte_off (off : v.ca.mode = .off) : v.meetByte e now = (v.fifoTaken, []) := by
  simp [Port.meetByte, off, Port.fifoTaken]

theorem Port.meetByte_settled (on : v.ca.mode ≠ .off) (settled : v.ca.settled = true) :
    v.meetByte e now = ({ v.fifoTaken with ca := v.ca.addGap .stopped e.sequence e.time 1 }, []) := by
  simp [Port.meetByte, on, settled, Port.fifoTaken]

theorem Port.meetByte_frozen (on : v.ca.mode ≠ .off) (unsettled : v.ca.settled = false)
    (frozen : v.freeze.state = .frozen) :
    v.meetByte e now = ({ v.fifoTaken with ca := v.ca.addGap .frozen e.sequence e.time 1 }, []) := by
  simp [Port.meetByte, on, unsettled, frozen, Port.fifoTaken]

section
variable (on : v.ca.mode ≠ .off) (unsettled : v.ca.settled = false)
include on unsettled

theorem Port.meetByte_joins (unfrozen : v.freeze.state ≠ .frozen)
    (closes : (DataRecord.add v.ca.openData e).closesAt v.slu.line e.byte = none) :
    v.meetByte e now = (({ v.fifoTaken with
      ca := { v.ca with openData := some (DataRecord.add v.ca.openData e) } } : Port).freezeByte e.sequence now
        e.note.trigger, []) := by
  simp [Port.meetByte, on, unsettled, unfrozen, closes, Port.fifoTaken]

theorem Port.meetByte_closes {cause : CloseCause} (unfrozen : v.freeze.state ≠ .frozen)
    (closes : (DataRecord.add v.ca.openData e).closesAt v.slu.line e.byte = some cause) :
    v.meetByte e now = (({ v.fifoTaken with ca := { v.ca with openData := none } } : Port).freezeByte e.sequence now
        e.note.trigger, [.write (.data (DataRecord.add v.ca.openData e) cause) true]) := by
  simp [Port.meetByte, on, unsettled, unfrozen, closes, Port.fifoTaken]

end

end

/-- What is left of a port by the meeting of a byte, and the steps that follow (R132, R148). -/
structure Port.byteMet (v : Port) (e : FifoEntry) (w : Port) (steps : List CaptureStep) : Prop where
  own : w = { v.fifoTaken with
    freeze := w.freeze
    ca := { v.ca with
      gap := w.ca.gap
      openData := w.ca.openData
      events := w.ca.events
      runGrows := w.ca.runGrows } }
  state : e.note.trigger = none → w.freeze.state = v.freeze.state
  live : e.note.trigger = none → v.freeze.state = .live → w.freeze = v.freeze
  ordinary : (w.ca.events.filter fun it => it.action ≠ .freeze) = v.ca.events.filter fun it => it.action ≠ .freeze
  brings : ∀ c ∈ steps, c.brings = true

/-- A captured byte changes the open DATA record, and then meets the freeze (R132, R148). -/
theorem Port.byteMet_freezeByte (v : Port) (e : FifoEntry) (now : Word) (openData : Option DataRecord)
    {steps : List CaptureStep} (brings : ∀ c ∈ steps, c.brings = true) :
    v.byteMet e (({ v.fifoTaken with ca := { v.ca with openData := openData } } : Port).freezeByte e.sequence now
      e.note.trigger) steps where
  own := by rw [Port.freezeByte_own]
  state none := by
    rw [none]
    exact Port.freezeByte_state ..
  live none live := by
    rw [none, Port.freezeByte_live (by exact live)]
    rfl
  ordinary := Port.freezeByte_ordinary ..
  brings := brings

theorem Port.byteMet_meetByte (v : Port) (e : FifoEntry) (now : Word) :
    v.byteMet e (v.meetByte e now).1 (v.meetByte e now).2 := by
  have no_steps : ∀ c ∈ ([] : List CaptureStep), c.brings = true := fun _ mem => nomatch mem
  by_cases off : v.ca.mode = .off
  · rw [Port.meetByte_off off]
    exact ⟨rfl, fun _ => rfl, fun _ _ => rfl, rfl, no_steps⟩
  cases settled : v.ca.settled with
  | true =>
    rw [Port.meetByte_settled off settled, Capture.addGap_own]
    exact ⟨rfl, fun _ => rfl, fun _ _ => rfl, rfl, no_steps⟩
  | false =>
    by_cases frozen : v.freeze.state = .frozen
    · rw [Port.meetByte_frozen off settled frozen, Capture.addGap_own]
      exact ⟨rfl, fun _ => rfl, fun _ _ => rfl, rfl, no_steps⟩
    · cases closes : (DataRecord.add v.ca.openData e).closesAt v.slu.line e.byte with
      | none =>
        rw [Port.meetByte_joins off settled frozen closes]
        exact v.byteMet_freezeByte e now _ no_steps
      | some cause =>
        rw [Port.meetByte_closes off settled frozen closes]
        exact v.byteMet_freezeByte e now none (List.forall_mem_singleton.2 rfl)

/-! ### The open DATA record (R120, R133, R134) -/

/-- The record that a byte opens, before the byte joins it (R133). -/
def DataRecord.openedAt (e : FifoEntry) : DataRecord :=
  { bytes := [], framing := false, parity := false, matched := false, multiMatch := false, tag := 0xFF,
    time := e.time, sequence := e.sequence, errors := 0 }

section
variable {open? : Option DataRecord} {e : FifoEntry}

theorem DataRecord.add_bytes (open? : Option DataRecord) (e : FifoEntry) :
    (DataRecord.add open? e).bytes = (open?.getD (.openedAt e)).bytes ++ [e.byte] := rfl

/-- A byte without error and match joins the record as it is (R133). -/
theorem DataRecord.add_plain (framing : e.framing = false) (parity : e.parity = false)
    (note : e.note = { count := 0, lowest := none, trigger := none }) : DataRecord.add open? e =
      { open?.getD (.openedAt e) with bytes := (open?.getD (.openedAt e)).bytes ++ [e.byte] } := by
  simp [DataRecord.add, framing, parity, note, DataRecord.openedAt]

/-- An error and a match change flags, tag and error count (R120, R133). -/
theorem DataRecord.add_noted {before : DataRecord} {lowest : PatternId} (opened : open?.getD (.openedAt e) = before)
    (note : e.note.lowest = if e.note.count = 0 then none else some lowest) : DataRecord.add open? e =
      { bytes := before.bytes ++ [e.byte]
        framing := before.framing || e.framing
        parity := before.parity || e.parity
        matched := before.matched || decide (1 ≤ e.note.count)
        multiMatch := before.multiMatch || decide (2 ≤ e.note.count)
          || (before.matched && decide (1 ≤ e.note.count))
        tag := if before.matched = true ∨ e.note.count = 0 then before.tag else BitVec.ofNat 8 lowest.val
        time := before.time
        sequence := before.sequence
        errors := before.errors + (if e.framing = true ∨ e.parity = true then 1 else 0) } := by
  subst opened
  have some : decide (e.note.count ≠ 0) = decide (1 ≤ e.note.count) := by simp [Nat.one_le_iff_ne_zero]
  simp only [DataRecord.add, note, some, DataRecord.openedAt, Bool.or_eq_true]
  congr 1
  · by_cases count : e.note.count = 0 <;> simp [count]
  · split <;> rfl

end

section
variable {r : DataRecord} {l : LineSettings} {b : Byte}

theorem DataRecord.closesAt_endCode (enabled : l.endCodeEnable = true) (code : l.endCode = b) :
    r.closesAt l b = some .endCode := by
  simp [DataRecord.closesAt, enabled, code]

section
variable (other : l.endCodeEnable = false ∨ l.endCode ≠ b)
include other

theorem LineSettings.not_endCode : ¬(l.endCodeEnable && decide (l.endCode = b)) = true := by
  rcases other with disabled | other
  · simp [disabled]
  · simp [other]

theorem DataRecord.closesAt_full (full : 240 ≤ r.bytes.length) : r.closesAt l b = some .fullLength := by
  rw [DataRecord.closesAt, if_neg (LineSettings.not_endCode other), if_pos full]

theorem DataRecord.closesAt_none (room : r.bytes.length < 240) : r.closesAt l b = none := by
  rw [DataRecord.closesAt, if_neg (LineSettings.not_endCode other), if_neg (Nat.not_le.2 room)]

end

/-- A byte that finds fewer than 239 others leaves its record open (R133). -/
theorem DataRecord.add_staysOpen {open? : Option DataRecord} {e : FifoEntry}
    (other : l.endCodeEnable = false ∨ l.endCode ≠ e.byte)
    (room : (open?.getD (.openedAt e)).bytes.length < 239) : (DataRecord.add open? e).closesAt l e.byte = none := by
  refine DataRecord.closesAt_none other ?_
  rw [DataRecord.add_bytes, List.length_append]
  exact Nat.succ_lt_succ room

/-- The 240th byte of a record closes it (R133). -/
theorem DataRecord.add_fills {open? : Option DataRecord} {e : FifoEntry}
    (other : l.endCodeEnable = false ∨ l.endCode ≠ e.byte)
    (full : 239 ≤ (open?.getD (.openedAt e)).bytes.length) :
    (DataRecord.add open? e).closesAt l e.byte = some .fullLength := by
  refine DataRecord.closesAt_full other ?_
  rw [DataRecord.add_bytes, List.length_append]
  exact Nat.succ_le_succ full

end

/-! ### The meeting of a byte (R128, R132, R134) -/

/-- Only one port may differ, and its capture mode stands. -/
structure State.modeKept (s : State) (p : PortId) (t : State) : Prop where
  only : s.onlyPort p t
  mode : (t.port p).ca.mode = (s.port p).ca.mode

section
variable {s t : State} {p : PortId}

theorem State.modeKept.modPort (h : s.modeKept p t) {f : Port → Port}
    (mode : (f (t.port p)).ca.mode = (t.port p).ca.mode) : s.modeKept p (t.modPort p f) :=
  ⟨h.only.trans (t.onlyPort_modPort p f), by rw [State.port_modPort_same, Port.noting_ca, mode, h.mode]⟩

theorem State.modeKept.takeInHand (h : s.modeKept p t) (unkept : (s.port p).ca.mode ≠ .keep)
    (record : Option CaptureRecord) (joinGap : Bool) : s.modeKept p (t.takeInHand p record joinGap) := by
  rcases State.takeInHand_unkept (by rw [h.mode]; exact unkept) record joinGap with same | ⟨unit, taken⟩
  · rwa [same]
  · rw [taken]
    exact h.modPort rfl

/-- Outside KEEP the steps of a met input reach nothing beyond the port. -/
theorem State.onlyPort_runAgenda (unkept : (s.port p).ca.mode ≠ .keep) (steps : List CaptureStep) :
    s.onlyPort p (s.runAgenda p steps) := by
  refine (State.runAgenda_keeps (P := s.modeKept p) (fun u c h => ?_) (fun u l h => h.modPort rfl) steps
    ⟨(State.onlyCapture.refl s p).onlyPort, rfl⟩).only
  cases c with
  | write record joinGap => exact h.takeInHand unkept _ _
  | writeGap => exact h.takeInHand unkept _ _
  | loseRun run met => exact h.modPort (f := fun v => v.loseRun run met) (Port.runLost_loseRun ..).mode

end

section
variable (s : State) (p : PortId)

/-- What the meeting of a byte leaves, and what it makes of FIFO, record and freeze (R132, R148). -/
structure State.byteMet (s : State) (p : PortId) (e : FifoEntry) (t : State) : Prop where
  slu : (t.port p).slu = { (s.port p).slu with fifo := (s.port p).slu.fifo.tail }
  queue : (t.port p).queue = (s.port p).queue
  pm : (t.port p).pm = (s.port p).pm
  lossRuns : (t.port p).ca.lossRuns = (s.port p).ca.lossRuns
  openData : (t.port p).ca.openData = ((s.port p).meetByte e s.partTime).1.ca.openData
  ordinary : ((t.port p).ca.events.filter fun it => it.action ≠ .freeze)
    = (s.port p).ca.events.filter fun it => it.action ≠ .freeze
  state : e.note.trigger = none → (t.port p).freeze.state = (s.port p).freeze.state
  live : e.note.trigger = none → (s.port p).freeze.state = .live → (t.port p).freeze = (s.port p).freeze
  elsewhere : s.sameElsewhere p t
  only : (s.port p).ca.mode ≠ .keep → s.onlyPort p t

theorem State.byteMet_meetInput (e : FifoEntry) : s.byteMet p e (s.meetInput p (.byte e)) := by
  obtain ⟨own, state, live, ordinary, brings⟩ := (s.port p).byteMet_meetByte e s.partTime
  have taken := s.onlyPort_modPort p fun v => (v.meetByte e s.partTime).1
  have frame := State.recordFrame_runAgenda (s := s.modPort p fun v => (v.meetByte e s.partTime).1) (p := p) brings
  have port := frame.own
  rw [State.port_modPort_same] at port
  have mode : ((s.port p).meetByte e s.partTime).1.ca.mode = (s.port p).ca.mode := by rw [own]
  rw [State.meetInput]
  refine ⟨?_, ?_, ?_, ?_, ?_, ?_, fun none => ?_, fun none isLive => ?_,
    State.sameElsewhere.trans taken.2.1 frame.elsewhere,
    fun unkept => taken.trans (State.onlyPort_runAgenda (by simpa [mode] using unkept) _)⟩ <;> rw [port]
  · rw [Port.noting_slu, own]
    rfl
  · rw [Port.noting_queue, own]
    rfl
  · rw [Port.noting_pm, own]
    rfl
  · rw [Port.noting_ca, own]
  · rw [Port.noting_ca]
  · rw [Port.noting_ca]
    exact ordinary
  · rw [Port.noting_freeze, state none]
  · rw [Port.noting_freeze, live none isLive]

variable {s p} {e : FifoEntry} {w : Port}

/-- A byte that closes no record leaves nothing to write. -/
theorem State.meetByte_ca (met : (s.port p).meetByte e s.partTime = (w, [])) (agenda : w.ca.agenda = []) :
    ((s.meetInput p (.byte e)).port p).ca = w.ca := by
  rw [State.meetInput, met, State.runAgenda, State.port_modPort_same, Port.noting_ca, State.port_modPort_same,
    Port.noting_ca, met, ← agenda]

/-- In HISTORY the record that a byte closes comes into hand (R131, R134). -/
theorem State.meetByte_record {record : CaptureRecord}
    (met : (s.port p).meetByte e s.partTime = (w, [.write record true])) (history : w.ca.mode = .history) :
    ((s.meetInput p (.byte e)).port p).ca =
      { w.ca with inHand := some (w.ca.unitWith [.record record]), agenda := [] } := by
  have taken : ((s.modPort p fun v => (v.meetByte e s.partTime).1).port p).ca = w.ca := by simp [met]
  rw [State.meetInput, met, State.runAgenda_record (by rw [taken]; exact history), taken]

section
variable (active : (s.port p).ca.mode ≠ .off) (unsettled : (s.port p).ca.settled = false)
  (live : (s.port p).freeze.state = .live) (trigger : e.note.trigger = none) (agenda : (s.port p).ca.agenda = [])
include active unsettled live trigger

theorem Port.meetByte_live_closes {cause : CloseCause}
    (closes : (DataRecord.add (s.port p).ca.openData e).closesAt (s.port p).slu.line e.byte = some cause) (now : Word) :
    (s.port p).meetByte e now = ({ (s.port p).fifoTaken with ca := { (s.port p).ca with openData := none } },
      [.write (.data (DataRecord.add (s.port p).ca.openData e) cause) true]) := by
  rw [Port.meetByte_closes active unsettled (by simp [live]) closes, trigger, Port.freezeByte_live (by exact live)]

/-- In HISTORY the record that a byte closes comes into hand (R134). -/
theorem State.meetByte_closes {cause : CloseCause} (history : (s.port p).ca.mode = .history)
    (closes : (DataRecord.add (s.port p).ca.openData e).closesAt (s.port p).slu.line e.byte = some cause) :
    ((s.meetInput p (.byte e)).port p).ca = { (s.port p).ca with
      openData := none
      inHand := some ((s.port p).ca.unitWith [.record (.data (DataRecord.add (s.port p).ca.openData e) cause)])
      agenda := [] } :=
  State.meetByte_record (Port.meetByte_live_closes active unsettled live trigger closes s.partTime) history

theorem State.meetByte_closes_openData {cause : CloseCause}
    (closes : (DataRecord.add (s.port p).ca.openData e).closesAt (s.port p).slu.line e.byte = some cause) :
    ((s.meetInput p (.byte e)).port p).ca.openData = none := by
  rw [(s.byteMet_meetInput p e).openData, Port.meetByte_live_closes active unsettled live trigger closes]

include agenda

/-- A byte that closes no record joins it (R132, R133). -/
theorem State.meetByte_joins
    (closes : (DataRecord.add (s.port p).ca.openData e).closesAt (s.port p).slu.line e.byte = none) :
    ((s.meetInput p (.byte e)).port p).ca =
      { (s.port p).ca with openData := some (DataRecord.add (s.port p).ca.openData e) } := by
  have met := Port.meetByte_joins (now := s.partTime) active unsettled (by simp [live]) closes
  rw [trigger, Port.freezeByte_live (by exact live)] at met
  exact State.meetByte_ca met agenda

end

end

/-! ### The meeting of a loss run (R128, R129, R137) -/

/-- The port with the front of its loss runs taken and no DATA record open (R129). -/
def State.runTaken (s : State) (p : PortId) : State :=
  s.modPort p fun v => { v with ca := { v.ca with lossRuns := v.ca.lossRuns.tail, openData := none } }

theorem State.runTaken_port {s : State} {p : PortId} {r : LossRun} {rest : List LossRun}
    (runs : (s.port p).ca.lossRuns = r :: rest) : (s.runTaken p).port p = { s.port p with
      ca := { (s.port p).ca with lossRuns := rest, openData := none }
      status := ((s.runTaken p).port p).status } := by
  rw [State.runTaken, State.modPort_own, runs, List.tail_cons]

section
variable {s t u w : State} {p : PortId} {r : LossRun}

theorem State.recordFrame.runLost (su : s.recordFrame p u) (lost : (u.port p).runLost r (t.port p))
    (tw : t.recordFrame p w) : (s.port p).runLost r (w.port p) := by
  obtain ⟨mode, slu, queue, openData, lossRuns, whole, ordinary⟩ := lost
  rw [su.own] at mode slu queue openData lossRuns whole ordinary
  rw [tw.own]
  exact ⟨mode, slu, queue, openData, lossRuns, whole, ordinary⟩

theorem State.runLost_last (s : State) (p : PortId) (r : LossRun) (met : Word) :
    (s.port p).runLost r ((s.runAgenda p [.loseRun r met]).port p) := by
  obtain ⟨mode, slu, queue, openData, lossRuns, whole, ordinary⟩ := (s.port p).runLost_loseRun r met
  rw [State.runAgenda_last]
  refine (State.recordFrame.refl s p).runLost (t := s.captureStep p (.loseRun r met)) ?_
    (State.recordFrame_modPort _ p)
  rw [State.captureStep, State.port_modPort_same]
  constructor <;> simpa only [Port.noting_ca, Port.noting_slu, Port.noting_queue]

theorem Port.closeData_none {v : Port} (none : v.ca.openData = none) (cause : CloseCause) :
    v.closeData cause = [] := by
  rw [Port.closeData, none]

theorem Port.closeData_some {v : Port} {d : DataRecord} (opened : v.ca.openData = some d) (cause : CloseCause) :
    v.closeData cause = [.write (.data d cause) true] := by
  rw [Port.closeData, opened]

theorem State.meetInput_run (s : State) (p : PortId) (r : LossRun) : s.meetInput p (.run r) =
    (s.runTaken p).runAgenda p ((s.port p).closeData .event ++ [.loseRun r s.partTime]) := rfl

/-- A met run is lost, at once or behind the record that it closes (log 19). -/
theorem State.runLost_meetInput (s : State) (p : PortId) (r : LossRun) :
    ((s.runTaken p).port p).runLost r ((s.meetInput p (.run r)).port p) := by
  rw [State.meetInput_run]
  cases openData : (s.port p).ca.openData with
  | none =>
    rw [Port.closeData_none openData]
    exact State.runLost_last ..
  | some d =>
    rw [Port.closeData_some openData, List.singleton_append, State.runAgenda]
    have frame := State.recordFrame_captureStep (s := s.runTaken p) (p := p) (step := .write (.data d .event) true) rfl
    dsimp only
    split
    · exact frame.runLost (.refl _ r) (State.recordFrame_modPort _ p)
    · exact frame.runLost (State.runLost_last ..) (.refl _ p)

section
variable {rest : List LossRun} (runs : (s.port p).ca.lossRuns = r :: rest)
include runs

/-- Where a record is open, its write comes into hand, and the loss waits behind it (R129, log 19). -/
theorem State.meetRun_closes {d : DataRecord} (history : (s.port p).ca.mode = .history)
    (opened : (s.port p).ca.openData = some d) :
    ((s.meetInput p (.run r)).port p).ca = { (s.port p).ca with
      lossRuns := rest
      openData := none
      inHand := some ((s.port p).ca.unitWith [.record (.data d .event)])
      agenda := [.loseRun r s.partTime] } := by
  have taken := State.runTaken_port runs
  rw [State.meetInput_run, Port.closeData_some opened, List.singleton_append,
    State.runAgenda_record (by rw [taken]; exact history), taken]
  rfl

variable (closed : (s.port p).ca.openData = none) (agenda : (s.port p).ca.agenda = [])
include closed agenda

/-- In mode OFF a met run is gone. -/
theorem State.meetRun_off (off : (s.port p).ca.mode = .off) :
    ((s.meetInput p (.run r)).port p).ca = { (s.port p).ca with lossRuns := rest } := by
  have taken := State.runTaken_port runs
  rw [State.meetInput_run, Port.closeData_none closed, List.nil_append, State.runAgenda_last, State.captureStep]
  simp only [State.port_modPort_same, Port.noting_ca]
  rw [Port.loseRun_off (by rw [taken]; exact off), taken]
  simp [closed, agenda]

/-- Where no record is open and no freeze attends to it, a met run joins the pending gap at once (R129, R137). -/
theorem State.meetRun_whole (active : (s.port p).ca.mode ≠ .off) (untriggered : (s.port p).ca.settled = true
      ∨ (s.port p).freeze.state = .frozen ∨ ((s.port p).freeze.state = .live ∧ r.trigger = none)) :
    ((s.meetInput p (.run r)).port p).ca = { (s.port p).ca with
        lossRuns := rest
        gap := ((s.port p).ca.addGap .overrun r.sequence s.partTime r.count).gap }
      ∧ ((s.meetInput p (.run r)).port p).freeze = (s.port p).freeze := by
  have taken := State.runTaken_port runs
  rw [State.meetInput_run, Port.closeData_none closed, List.nil_append, State.runAgenda_last, State.captureStep]
  simp only [State.port_modPort_same, Port.noting_ca, Port.noting_freeze]
  rw [Port.loseRun_whole (by rw [taken]; exact active) (by rw [taken]; exact untriggered), taken, Capture.addGap_own]
  rw [Capture.addGap_gap (ca := { (s.port p).ca with lossRuns := rest, openData := none }) (ca' := (s.port p).ca) rfl]
  simp [closed, agenda]

end

end

end Sys2Proof.Machine
end

section
/-! SUPPORT. The meeting of an event item, TX records, and what lost bytes and handed items do to the lists; the
statement on the order of the inputs and on what they make. -/

namespace Sys2Proof.Machine

/-! ### The meeting of an event item (R130, R134, R136, R143, R150) -/

/-- What a met item leaves to do: the open DATA record that it closes, and its own records (R134, R136). -/
def Port.itemSteps (v : Port) (it : EventItem) (now : Word) : List CaptureStep :=
  v.closeData it.closeCause ++ it.followUp v now

theorem EventItem.followUp_brings (it : EventItem) (v : Port) (now : Word) :
    ∀ c ∈ it.followUp v now, c.brings = true := by
  have marks : ∀ (l : List (MarkKind × Word)), ∀ c ∈ it.markSteps l, c.brings = true := fun l c mem => by
    obtain ⟨m, _, rfl⟩ := List.mem_map.1 mem
    rfl
  have muted : ∀ (l : List CaptureStep), (∀ c ∈ l, c.brings = true) →
      ∀ c ∈ (if v.captureMuted = true then [] else l), c.brings = true := fun l h => by
    split
    · exact fun _ mem => nomatch mem
    · exact h
  have one : ∀ c : CaptureStep, c.brings = true → ∀ x ∈ [c], x.brings = true := fun c h x mem => by
    rwa [List.mem_singleton.1 mem]
  unfold EventItem.followUp
  split <;> refine muted _ ?_
  · exact marks _
  · exact one _ rfl
  · exact one _ rfl
  · exact List.forall_mem_cons.2 ⟨rfl, marks _⟩
  · exact one _ rfl
  · refine List.forall_mem_append.2 ⟨fun c mem => ?_, one _ rfl⟩
    obtain ⟨r, _, rfl⟩ := List.mem_map.1 mem
    rfl

theorem Port.itemSteps_brings (v : Port) (it : EventItem) (now : Word) :
    ∀ c ∈ v.itemSteps it now, c.brings = true := by
  refine List.forall_mem_append.2 ⟨?_, it.followUp_brings v now⟩
  cases openData : v.ca.openData with
  | none =>
    rw [Port.closeData_none openData]
    exact fun _ mem => nomatch mem
  | some d =>
    rw [Port.closeData_some openData]
    exact fun c mem => by rw [List.mem_singleton.1 mem]; rfl

/-- Where the capture is muted an item writes nothing of its own (R136, R138). -/
theorem EventItem.followUp_muted {it : EventItem} {v : Port} (muted : v.captureMuted = true) (now : Word) :
    it.followUp v now = [] := by
  unfold EventItem.followUp
  split <;> exact if_pos muted

/-- The records that follow an item which is no freeze and no thaw, and the flag with which it closes (R130, R136). -/
def EventItem.yields (it : EventItem) (records : List CaptureRecord) (cause : CloseCause) : Prop :=
  (∃ r, it.action = .txClosed r ∧ records = [.tx r it.position] ∧ cause = .event)
    ∨ (∃ marks, it.action = .close marks ∧ cause = .event
        ∧ records = marks.map fun m => .mark m.1 m.2 it.time it.position)
    ∨ (it.action = .quiet ∧ records = [] ∧ cause = .quiet)
    ∨ (it.action = .settle ∧ records = [] ∧ cause = .event)

section
variable {it : EventItem} {records : List CaptureRecord} {cause : CloseCause}

theorem EventItem.yields.ordinary (h : it.yields records cause) : it.action ≠ .freeze := by
  rcases h with ⟨r, action, _⟩ | ⟨marks, action, _⟩ | ⟨action, _⟩ | ⟨action, _⟩ <;> simp [action]

theorem EventItem.yields.closeCause (h : it.yields records cause) : it.closeCause = cause := by
  rcases h with ⟨r, action, _, rfl⟩ | ⟨marks, action, rfl, _⟩ | ⟨action, _, rfl⟩ | ⟨action, _, rfl⟩ <;>
    simp [EventItem.closeCause, action]

/-- A quiet and a settle item are followed by the GAP of the pending gap, the others by their records (R136, R138). -/
theorem EventItem.yields.followUp (h : it.yields records cause) {v : Port} (unmuted : v.captureMuted = false)
    (now : Word) : it.followUp v now = if it.action = .quiet ∨ it.action = .settle then [.writeGap]
      else records.map fun r => .write r true := by
  rcases h with ⟨r, action, rfl, _⟩ | ⟨marks, action, _, rfl⟩ | ⟨action, _⟩ | ⟨action, _⟩ <;>
    simp [EventItem.followUp, EventItem.markSteps, action, unmuted]

theorem EventItem.yields.gap_only (h : it.yields records cause) (gap : it.action = .quiet ∨ it.action = .settle) :
    records = [] := by
  rcases h with ⟨r, action, _⟩ | ⟨marks, action, _⟩ | ⟨_, none, _⟩ | ⟨_, none, _⟩
  · simp [action] at gap
  · simp [action] at gap
  · exact none
  · exact none

end

/-- An item that is no freeze item has been taken and the open DATA record closed; a settle request has settled the
port (R130, R143). -/
structure State.itemTaken (s : State) (p : PortId) (it : EventItem) (u : State) : Prop where
  own : u.port p = { s.port p with
    ca := { (s.port p).ca with
      events := (s.port p).ca.events.tail
      openData := none
      settled := (s.port p).ca.settled || decide (it.action = .settle) }
    status := (u.port p).status }
  only : s.onlyPort p u

section
variable {s : State} {p : PortId} {it : EventItem}

/-- The port with an item taken and its open DATA record closed (R130). -/
def State.itemClosed (s : State) (p : PortId) (it : EventItem) : State :=
  s.modPort p fun v => { v with ca := { v.ca with events := v.ca.removeItem it, openData := none } }

theorem Capture.removeItem_front (ca : Capture) (ordinary : it.action ≠ .freeze) :
    ca.removeItem it = ca.events.tail := by
  simp [Capture.removeItem, EventItem.isFreeze, ordinary]

theorem Capture.removeItem_freeze (ca : Capture) (freeze : it.action = .freeze) :
    ca.removeItem it = ca.events.filter fun x => x.action ≠ .freeze := by
  simp [Capture.removeItem, EventItem.isFreeze, freeze]

theorem State.meetItem_taken (ordinary : it.action ≠ .freeze) :
    ∃ u, s.itemTaken p it u ∧ s.meetItem p it = u.runAgenda p ((s.port p).itemSteps it s.partTime)
      ∧ u.recordFrame p (s.meetItem p it) := by
  suffices h : ∃ u, s.itemTaken p it u ∧ s.meetItem p it = u.runAgenda p ((s.port p).itemSteps it s.partTime) by
    obtain ⟨u, taken, met⟩ := h
    exact ⟨u, taken, met, met ▸ State.recordFrame_runAgenda ((s.port p).itemSteps_brings it s.partTime)⟩
  have closed := s.onlyPort_modPort p fun v =>
    { v with ca := { v.ca with events := v.ca.removeItem it, openData := none } }
  by_cases settle : it.action = .settle
  · refine ⟨(s.itemClosed p it).modPort p fun v => { v with ca := { v.ca with settled := true } },
      ⟨?_, closed.trans (State.onlyPort_modPort _ p _)⟩, ?_⟩
    · rw [State.modPort_own, State.itemClosed, State.modPort_own, Capture.removeItem_front _ ordinary, settle]
      simp
    · simp only [State.meetItem, settle]
      rfl
  · refine ⟨s.itemClosed p it, ⟨?_, closed⟩, ?_⟩
    · rw [State.itemClosed, State.modPort_own, Capture.removeItem_front _ ordinary]
      simp [settle]
    · unfold State.meetItem
      dsimp only
      split
      · next action => exact absurd action settle
      · next action => exact absurd action ordinary
      all_goals rfl

/-- Where the capture is muted and no record is open, an item writes nothing (R136, R138). -/
theorem State.meetItem_muted (ordinary : it.action ≠ .freeze) (closed : (s.port p).ca.openData = none)
    (muted : (s.port p).captureMuted = true) : ((s.meetItem p it).port p).ca.inHand = (s.port p).ca.inHand
      ∧ ((s.meetItem p it).port p).ca.agenda = [] ∧ ((s.meetItem p it).port p).ca.gap = (s.port p).ca.gap := by
  obtain ⟨u, taken, met, _⟩ := State.meetItem_taken (s := s) (p := p) ordinary
  rw [met, Port.itemSteps, Port.closeData_none closed, EventItem.followUp_muted muted, List.nil_append,
    State.runAgenda, State.port_modPort_same, Port.noting_ca, taken.own]
  exact ⟨rfl, rfl, rfl⟩

section
variable {records : List CaptureRecord} {cause : CloseCause} (yield : it.yields records cause)
  (history : (s.port p).ca.mode = .history)
include yield history

theorem State.meetItem_gapKept : ((s.meetItem p it).port p).ca.gap = (s.port p).ca.gap := by
  obtain ⟨u, taken, met, _⟩ := State.meetItem_taken (s := s) (p := p) yield.ordinary
  rw [met, State.runAgenda_gapKept ((s.port p).itemSteps_brings _ _) (by rw [taken.own]; simp [history]), taken.own]

variable (unmuted : (s.port p).captureMuted = false)
include unmuted

/-- The open DATA record comes into hand, and what the item yields waits behind it (R134, R136, log 20). -/
theorem State.meetItem_closes {d : DataRecord} (opened : (s.port p).ca.openData = some d) :
    ((s.meetItem p it).port p).ca.inHand = some ((s.port p).ca.unitWith [.record (.data d cause)])
    ∧ ((s.meetItem p it).port p).ca.agenda =
      (if it.action = .quiet ∨ it.action = .settle then [.writeGap] else records.map fun r => .write r true) := by
  obtain ⟨u, taken, met, _⟩ := State.meetItem_taken (s := s) (p := p) yield.ordinary
  rw [met, Port.itemSteps, Port.closeData_some opened, List.singleton_append,
    State.runAgenda_record (by rw [taken.own]; exact history), taken.own, yield.closeCause,
    yield.followUp unmuted]
  exact ⟨rfl, rfl⟩

variable (closed : (s.port p).ca.openData = none)
include closed

/-- Where no record is open, the first record of the item comes into hand (R136). -/
theorem State.meetItem_writes {r : CaptureRecord} {more : List CaptureRecord} (some : records = r :: more) :
    ((s.meetItem p it).port p).ca.inHand = .some ((s.port p).ca.unitWith [.record r])
    ∧ ((s.meetItem p it).port p).ca.agenda = more.map fun r => .write r true := by
  obtain ⟨u, taken, met, _⟩ := State.meetItem_taken (s := s) (p := p) yield.ordinary
  rw [met, Port.itemSteps, Port.closeData_none closed, List.nil_append, yield.followUp unmuted,
    if_neg fun gap => by simpa [some] using yield.gap_only gap, some, List.map_cons,
    State.runAgenda_record (by rw [taken.own]; exact history), taken.own]
  exact ⟨rfl, rfl⟩

/-- Where no record is open, an item without records writes at most the pending gap's GAP (R138, log 20). -/
theorem State.meetItem_bare (bare : records = []) (inHand : (s.port p).ca.inHand = none) :
    ((s.meetItem p it).port p).ca.agenda = []
    ∧ ((s.meetItem p it).port p).ca.inHand = (if it.action = .quiet ∨ it.action = .settle then
        (s.port p).ca.gap.map fun g => {
          records := placeRecords (s.port p).ca.areaSize (s.port p).ca.writePosition.toNat [.gap g]
          passed := true }
      else none) := by
  obtain ⟨u, taken, met, _⟩ := State.meetItem_taken (s := s) (p := p) yield.ordinary
  rw [met, Port.itemSteps, Port.closeData_none closed, List.nil_append, yield.followUp unmuted]
  split
  · rw [State.runAgenda_gap (by rw [taken.own]; exact history) (by rw [taken.own]; exact inHand), taken.own]
    exact ⟨rfl, rfl⟩
  · rw [bare, List.map_nil, State.runAgenda, State.port_modPort_same, Port.noting_ca, taken.own]
    exact ⟨rfl, inHand⟩

end

/-- The port FROZEN by a taken freeze item, with its notice and its open TX record taken (R150, logs 18 and 40). -/
def State.itemFrozen (s : State) (p : PortId) (it : EventItem) : State :=
  ((s.itemClosed p it).modPort p fun v =>
    { v with
      ca := { v.ca with openTx := none, txTaken := v.ca.txTaken || v.ca.openTx.isSome }
      freeze := { v.freeze with state := .frozen } }).notice p .frozen

theorem State.meetItem_freeze (freeze : it.action = .freeze) :
    s.meetItem p it = (s.itemFrozen p it).runAgenda p ((s.port p).itemSteps it s.partTime) := by
  simp only [State.meetItem, freeze]
  rfl

/-- A met freeze item freezes the port, and no other item leaves the list (R150, log 18). -/
structure State.frozenBy (s : State) (p : PortId) (t : State) : Prop where
  events : (t.port p).ca.events = (s.port p).ca.events.filter fun x => x.action ≠ .freeze
  slu : (t.port p).slu = (s.port p).slu
  lossRuns : (t.port p).ca.lossRuns = (s.port p).ca.lossRuns
  state : (t.port p).freeze.state = .frozen

theorem State.frozenBy_meetItem (freeze : it.action = .freeze) : s.frozenBy p (s.meetItem p it) := by
  have frame := State.recordFrame_runAgenda (s := s.itemFrozen p it) (p := p)
    ((s.port p).itemSteps_brings it s.partTime)
  rw [State.meetItem_freeze freeze]
  constructor <;>
    rw [frame.own, State.itemFrozen, State.notice_port_same, State.modPort_own, State.itemClosed, State.modPort_own]
  rw [Capture.removeItem_freeze _ freeze]

end

/-! ### TX records (R130, R135) -/

section
variable {s : State} {p : PortId}

/-- The first item that a listening port is handed (R130). -/
theorem State.handItem_first {action : ItemAction} (listening : s.listening p = true)
    (none : (s.port p).ca.events = []) (ordinary : action.always = false) :
    ((s.handItem p action).port p).ca = { (s.port p).ca with
      events := [EventItem.mk (s.port p).slu.receiveCount s.partTime action]
      runGrows := false } := by
  rw [State.handItem_listening listening]
  simp [Capture.placeItem, ordinary, none, Capture.ordinaryItems]

theorem State.closeTxRecord_some {r : TxRecord} (opened : (s.port p).ca.openTx = some r)
    (listening : s.listening p = true) (none : (s.port p).ca.events = []) :
    ((s.closeTxRecord p).port p).ca = { (s.port p).ca with
      openTx := .none
      events := [EventItem.mk (s.port p).slu.receiveCount s.partTime (.txClosed r)]
      runGrows := false } := by
  rw [State.closeTxRecord, opened]
  dsimp only
  rw [State.handItem_first (s := s.modPort p _) listening (by simpa using none) rfl]
  simp [State.partTime]

section
variable (slot : Nat) (b : Byte) (start : Word)

/-- In OFF and while FROZEN a transmitted byte is dropped (R135). -/
theorem State.logTxByte_dropped (h : (s.port p).ca.mode = .off ∨ (s.port p).freeze.state = .frozen) :
    s.logTxByte p slot b start = s := by
  rw [State.logTxByte, if_pos (by simpa using h)]

variable (active : (s.port p).ca.mode ≠ .off) (unfrozen : (s.port p).freeze.state ≠ .frozen)
include active unfrozen

/-- The first byte of a TX record hands an item that closes the DATA record (R135). -/
theorem State.logTxByte_opens (closed : (s.port p).ca.openTx = none) (listening : s.listening p = true)
    (none : (s.port p).ca.events = []) :
    ((s.logTxByte p slot b start).port p).ca = { (s.port p).ca with
      openTx := some { slot := slot, time := start, bytes := [b] }
      events := [EventItem.mk (s.port p).slu.receiveCount s.partTime (.close [])]
      runGrows := false } := by
  rw [State.logTxByte, if_neg (by simp [active, unfrozen])]
  simp only [closed, State.port_modPort_same, Port.noting_ca]
  rw [State.handItem_first listening none rfl]

variable {r : TxRecord} (opened : (s.port p).ca.openTx = some r)
include opened

theorem State.logTxByte_joins (room : r.bytes.length < 239) : ((s.logTxByte p slot b start).port p).ca =
    { (s.port p).ca with openTx := some { r with bytes := r.bytes ++ [b] } } := by
  rw [State.logTxByte, if_neg (by simp [active, unfrozen])]
  simp only [opened]
  rw [if_neg (by simp [Config.recordCapacity]; omega), State.port_modPort_same, Port.noting_ca]

/-- The 240th byte closes its TX record (R135). -/
theorem State.logTxByte_fills (full : r.bytes.length = 239) (listening : s.listening p = true)
    (none : (s.port p).ca.events = []) :
    ((s.logTxByte p slot b start).port p).ca = { (s.port p).ca with
      openTx := .none
      events := [EventItem.mk (s.port p).slu.receiveCount s.partTime (.txClosed { r with bytes := r.bytes ++ [b] })]
      runGrows := false } := by
  rw [State.logTxByte, if_neg (by simp [active, unfrozen])]
  simp only [opened]
  rw [if_pos (by simp [Config.recordCapacity, full]),
    State.closeTxRecord_some (s := s.modPort p _) (r := { r with bytes := r.bytes ++ [b] })
      (by rw [State.port_modPort_same, Port.noting_ca]) listening (by simpa using none)]
  simp [State.partTime]

end

/-- The end of a sending whose record a freeze has taken hands one item, and nothing is left to close (log 40). -/
theorem State.closeTx_freed (freed : (s.port p).ca.txTaken = true) (closed : (s.port p).ca.openTx = none)
    (listening : s.listening p = true) (none : (s.port p).ca.events = []) :
    ((s.closeTx p).port p).ca = { (s.port p).ca with
      txTaken := false
      events := [EventItem.mk (s.port p).slu.receiveCount s.partTime (.close [])]
      runGrows := false } := by
  have handed := State.handItem_first (s := s.modPort p fun v => { v with ca := { v.ca with txTaken := false } })
    (action := .close []) listening (by simpa using none) rfl
  rw [State.closeTx, if_pos freed, State.closeTxRecord_none (by rw [handed]; simpa using closed), handed]
  simp [State.partTime]

end

/-! ### What a lost byte and a handed item do to the lists (R129, R130) -/

section
variable {ca : Capture} {sequence : Word} {trigger : Option PatternId}

/-- A lost byte that follows on the last run, with no item handed since, extends it (R129). -/
theorem Capture.loseByte_grows {front : List LossRun} {last : LossRun} (runs : ca.lossRuns = front ++ [last])
    (grows : ca.runGrows = true) (follows : last.sequence + BitVec.ofNat 32 last.count = sequence) :
    ca.loseByte sequence trigger = { ca with lossRuns := front ++ [{ last with
      count := last.count + 1
      trigger := match last.trigger with
        | some t => some t
        | none => trigger.map fun i => (i, last.count) }] } := by
  simp only [Capture.loseByte, runs, List.getLast?_concat, List.dropLast_concat]
  exact if_pos (by simp [grows, follows])

/-- Any other lost byte begins a run (R129). -/
theorem Capture.loseByte_begins (h : ca.runGrows = false ∨ ca.lossRuns = []
      ∨ (∀ front last, ca.lossRuns = front ++ [last] → last.sequence + BitVec.ofNat 32 last.count ≠ sequence)) :
    ca.loseByte sequence trigger = { ca with
      lossRuns := ca.lossRuns ++ [{ sequence := sequence, count := 1, trigger := trigger.map fun i => (i, 0) }]
      runGrows := true } := by
  unfold Capture.loseByte
  dsimp only
  split
  · next last isLast =>
    obtain ⟨front, runs⟩ := List.getLast?_eq_some_iff.1 isLast
    refine if_neg fun extended => ?_
    obtain ⟨grows, follows⟩ := Bool.and_eq_true_iff.1 extended
    rcases h with still | none | apart
    · simp [still] at grows
    · simp [none] at runs
    · exact apart front last runs (of_decide_eq_true follows)
  · next isLast => rw [List.getLast?_eq_none_iff.1 isLast, List.nil_append]

end

theorem ItemAction.always_iff (a : ItemAction) : a.always = true ↔ a = .settle ∨ a = .freeze := by
  cases a <;> simp [ItemAction.always]

section
variable {ca : Capture} {it : EventItem}

/-- Sixteen ordinary items are the most that wait (R130). -/
theorem Capture.placeItem_ordinary (settle : it.action ≠ .settle) (freeze : it.action ≠ .freeze) :
    ca.placeItem it = { ca with
      events :=
        if (ca.events.filter fun x => x.action ≠ .settle ∧ x.action ≠ .freeze).length < 16 then ca.events ++ [it]
        else ca.events
      runGrows := false } := by
  have ordinary : it.action.always ≠ true := fun h => ((ItemAction.always_iff _).1 h).elim settle freeze
  have count : ca.ordinaryItems = (ca.events.filter fun x => x.action ≠ .settle ∧ x.action ≠ .freeze).length := by
    refine congrArg List.length (List.filter_congr fun x _ => ?_)
    rw [Bool.eq_iff_iff, decide_eq_true_iff, ← not_or, ← ItemAction.always_iff]
    simp
  rw [Capture.placeItem, if_neg ordinary, count]

/-- A settle request and a freeze item take the place of an earlier one (R130). -/
theorem Capture.placeItem_always (always : it.action = .settle ∨ it.action = .freeze) : ca.placeItem it = { ca with
    events := (ca.events.filter fun x => x.action ≠ it.action) ++ [it]
    runGrows := false } := by
  rw [Capture.placeItem, if_pos ((ItemAction.always_iff _).2 always)]

end

/-- Settles O50: the outcomes of each input by the port's state, and the choice among the inputs that wait. -/
theorem captureMeetsBytesInOrder : Obligations.CaptureMeetsBytesInOrder := by
  refine ⟨fun s p e rest on inUse fifo events runs inHand agenda framing parity note => ?_,
    fun s p e rest before after lowest on inUse fifo events runs inHand agenda active unsettled live trigger lowestNote
      other opened afterEq => ?_,
    fun ca sequence trigger => ⟨fun front last lossRuns grows follows => ?_, fun h => ?_⟩,
    fun ca it => ⟨fun settle freeze => ?_, fun always => ?_⟩,
    fun s p r rest on inUse fifo events runs inHand agenda count => ?_,
    fun s p r met agenda active none count untriggered => ?_,
    fun s t p slot b start logged => ?_,
    fun s p on inUse none => ?_,
    fun s p position time action rest records cause on inUse fifo runs inHand agenda events ordinary yields => ?_,
    fun s p behind on inUse inHand agenda distance => ?_,
    fun s p h => (exec_caMeetInput p s).trans (congrArg _ (State.meetNext_none h))⟩
  · have next : (s.port p).nextInput = some (.byte e) :=
      Port.nextInput_byte fifo (by simp [events]) (by simp [events]) (by simp [runs])
    have met := s.byteMet_meetInput p e
    have trigger : e.note.trigger = none := by rw [note]
    have add := DataRecord.add_plain (open? := (s.port p).ca.openData) framing parity note
    refine ⟨_, exec_caMeetInput_met on inUse inHand agenda next,
      by rw [met.slu, fifo]; rfl, fun off => ?_, fun active settled none => ?_, fun active unsettled frozen g gap => ?_,
      fun active unsettled live other => ⟨fun closed => ?_, fun r opened room => ?_⟩,
      fun history unsettled live enabled code none r opened => ?_,
      met.pm, met.state trigger, met.queue, met.elsewhere, met.only⟩
    · exact State.meetByte_ca (w := (s.port p).fifoTaken) (Port.meetByte_off off) agenda
    · have joined := Port.meetByte_settled (e := e) (now := s.partTime) active settled
      rw [Capture.addGap_first Nat.one_pos _ _ _ none] at joined
      exact State.meetByte_ca joined agenda
    · have joined := Port.meetByte_frozen (e := e) (now := s.partTime) active unsettled frozen
      rw [Capture.addGap_more Nat.one_pos _ _ _ gap] at joined
      exact State.meetByte_ca joined agenda
    · rw [State.meetByte_joins active unsettled live trigger agenda
        (DataRecord.add_staysOpen other (by simp [closed, DataRecord.openedAt])), add, closed]
      rfl
    · rw [State.meetByte_joins active unsettled live trigger agenda
        (DataRecord.add_staysOpen other (by rwa [opened])), add, opened]
      rfl
    · rw [State.meetByte_closes (by simp [history]) unsettled live trigger history
        (DataRecord.closesAt_endCode enabled code), add, opened]
      simp [Capture.unitWith, none]
  · have next : (s.port p).nextInput = some (.byte e) :=
      Port.nextInput_byte fifo (by simp [events]) (by simp [events]) (by simp [runs])
    have met := s.byteMet_meetInput p e
    have before_eq : (s.port p).ca.openData.getD (.openedAt e) = before := by
      rcases opened with opened | ⟨closed, fresh⟩
      · rw [opened, Option.getD_some]
      · rw [closed, Option.getD_none, fresh, DataRecord.openedAt]
    have add : DataRecord.add (s.port p).ca.openData e = after :=
      (DataRecord.add_noted before_eq lowestNote).trans afterEq.symm
    refine ⟨_, exec_caMeetInput_met on inUse inHand agenda next, by rw [met.slu, fifo]; rfl, fun room => ?_,
      fun full => ?_, met.live trigger live, met.pm, met.elsewhere⟩
    · rw [State.meetByte_joins active unsettled live trigger agenda
        (DataRecord.add_staysOpen other (by rwa [before_eq])), add]
    · have closes := DataRecord.add_fills (open? := (s.port p).ca.openData) other (by rwa [before_eq])
      refine ⟨State.meetByte_closes_openData active unsettled live trigger closes, fun history => ?_⟩
      rw [State.meetByte_closes active unsettled live trigger history closes, add]
      rfl
  · exact Capture.loseByte_grows lossRuns grows follows
  · exact Capture.loseByte_begins h
  · exact Capture.placeItem_ordinary settle freeze
  · exact Capture.placeItem_always always
  · have next : (s.port p).nextInput = some (.run r) :=
      Port.nextInput_run runs (by simp [events]) (by simp [events]) (by simp [fifo])
    have lost := s.runLost_meetInput p r
    rw [State.runTaken_port runs] at lost
    refine ⟨_, exec_caMeetInput_met on inUse inHand agenda next, lost.slu, lost.openData, lost.queue,
      fun off closed => State.meetRun_off runs closed agenda off, fun active closed untriggered => ?_,
      fun d history opened => State.meetRun_closes runs history opened,
      fun unkept => (s.onlyPort_modPort p _).trans (State.onlyPort_runAgenda (by simpa using unkept) _)⟩
    obtain ⟨joined, freeze⟩ := State.meetRun_whole runs closed agenda active untriggered
    refine ⟨joined.trans ?_, freeze⟩
    cases gap : (s.port p).ca.gap with
    | none => rw [Capture.addGap_first count _ _ _ gap]
    | some g => rw [Capture.addGap_more count _ _ _ gap]
  · rw [State.resumeAgenda, agenda, State.runAgenda_last, State.captureStep]
    simp only [State.port_modPort_same, Port.noting_ca]
    rw [Port.loseRun_whole active untriggered, Capture.addGap_first count _ _ _ none]
  · subst logged
    refine ⟨State.logTxByte_dropped slot b start, fun active unfrozen => ⟨fun closed on inUse none => ?_,
      fun r opened room => ?_, fun r opened full on inUse none => ?_⟩⟩
    · exact State.logTxByte_opens slot b start active unfrozen closed (State.listening_of on inUse) none
    · exact State.logTxByte_joins slot b start active unfrozen opened room
    · exact State.logTxByte_fills slot b start active unfrozen opened full (State.listening_of on inUse) none
  · have listening := State.listening_of on inUse
    refine ⟨fun untaken closed => ?_, fun r untaken opened => ?_, fun freed closed => ?_⟩
    · rw [State.closeTx_untaken untaken, State.closeTxRecord_none closed]
    · rw [State.closeTx_untaken untaken, State.closeTxRecord_some opened listening none]
    · exact State.closeTx_freed freed closed listening none
  · have yield : (EventItem.mk position time action).yields records cause := yields
    have next : (s.port p).nextInput = some (.item (.mk position time action)) :=
      Port.nextInput_item events (by rw [events]; exact List.forall_mem_cons.2 ⟨yield.ordinary, ordinary⟩)
        (by simp [fifo]) (by simp [runs])
    obtain ⟨u, taken, met, frame⟩ := State.meetItem_taken (s := s) (p := p) yield.ordinary
    have port := frame.own
    rw [taken.own, events, List.tail_cons] at port
    refine ⟨_, exec_caMeetInput_met on inUse inHand agenda next, ?_⟩
    rw [State.meetInput]
    refine ⟨by rw [port], by rw [port], by rw [port], by rw [port]; simp [or_comm], fun closed muted => ?_,
      fun history unsettled unfrozen => ?_, by rw [port], by rw [port], fun unkept => ?_⟩
    · rw [← inHand]
      exact State.meetItem_muted yield.ordinary closed (by simpa [Port.captureMuted, or_assoc] using muted)
    · have unmuted : (s.port p).captureMuted = false := by simp [Port.captureMuted, history, unsettled, unfrozen]
      exact ⟨State.meetItem_gapKept yield history, fun d => State.meetItem_closes yield history unmuted,
        fun r more closed => State.meetItem_writes yield history unmuted closed,
        fun closed bare => State.meetItem_bare yield history unmuted closed bare inHand⟩
    · rw [met]
      exact taken.only.trans (State.onlyPort_runAgenda (by rw [taken.own]; exact unkept) _)
  · obtain rfl : behind = (s.port p).distance := funext distance
    refine ⟨_, exec_caMeetInput p s, fun waits => ?_, fun it rest events ordinary byte run => ?_,
      fun e rest fifo ordinary item run => ?_, fun r rest runs ordinary item byte => ?_⟩
    · obtain ⟨it, freeze, next⟩ := Port.nextInput_freeze waits
      rw [State.meetNext_some on inUse inHand agenda next]
      have frozen := State.frozenBy_meetItem (s := s) (p := p) freeze
      exact ⟨frozen.events, frozen.slu, frozen.lossRuns, frozen.state⟩
    · rw [State.meetNext_some on inUse inHand agenda
        (Port.nextInput_item events (by rw [events]; exact ordinary) byte run)]
      obtain ⟨u, taken, _, frame⟩ := State.meetItem_taken (s := s) (p := p) (ordinary it List.mem_cons_self)
      rw [State.meetInput, frame.own, taken.own, events]
      exact ⟨rfl, rfl, rfl⟩
    · rw [State.meetNext_some on inUse inHand agenda (Port.nextInput_byte fifo ordinary item run)]
      have met := s.byteMet_meetInput p e
      refine ⟨by rw [met.slu, fifo]; rfl, met.lossRuns, ?_⟩
      rw [met.ordinary]
      exact List.filter_eq_self.2 fun x mem => decide_eq_true (ordinary x mem)
    · rw [State.meetNext_some on inUse inHand agenda (Port.nextInput_run runs ordinary item byte)]
      have lost := s.runLost_meetInput p r
      rw [State.runTaken_port runs] at lost
      refine ⟨lost.lossRuns, lost.whole, lost.openData, lost.slu, ?_⟩
      rw [lost.ordinary]
      exact List.filter_eq_self.2 fun x mem => decide_eq_true (ordinary x mem)

end Sys2Proof.Machine
end

section
/-! SUPPORT. The issue of a status record publishes what stands; the statement on the changed flag. -/

namespace Sys2Proof.Machine

/-- The issue of a status record changes none of the published fields (R146). -/
theorem State.issueStatus_published (s : State) (p q : PortId) :
    ((s.issueStatus p).port q).published = (s.port q).published := by
  by_cases hq : q = p
  · subst hq
    simp [State.issueStatus, Port.published]
  · rw [State.issueStatus, State.port_setPort_ne _ _ hq]
    rfl

/-- Settles O60: through every command but the issue of a status record and a soft reset the flags last, so that a
changed published field has its flag set; the issue leaves the published fields, and what the watch of the drain does
behind it lets the flags last again. -/
theorem publishedChangesSetTheChangedFlag : Obligations.PublishedChangesSetTheChangedFlag := by
  intro c s t p notHard notSoft notControl ht differs
  rcases exec_flags notHard ht with lasts | ⟨q, rfl⟩ | ⟨soft | ⟨n, v, resets, control⟩, _⟩
  · exact (lasts p).noted differs
  · have watched := (State.flagsLast.refl (s.issueStatus q)).watchDrain p
    exact watched.noted (by rwa [s.issueStatus_published])
  · exact absurd soft notSoft
  · exact absurd control (notControl n v resets)

end Sys2Proof.Machine
end

section
/-! SUPPORT. Fields in a row of little-endian fields: what stands at an offset; the status record, its request and its
codes; the statement on the status writer. -/

namespace Sys2Proof.Machine

/-! ### Rows of fields (R186) -/

/-- Numbers in a row, each in a field of its size in bytes. -/
def encodeFields : List Nat → List Nat → List Byte
  | n :: sizes, v :: numbers => leBytes n v ++ encodeFields sizes numbers
  | _, _ => []

/-- A number stands at the sum of the sizes before it. -/
theorem encodeFields_at {sizes numbers : List Nat} {k n v : Nat} (size : sizes[k]? = some n)
    (number : numbers[k]? = some v) (rest : List Byte) :
    ((encodeFields sizes numbers ++ rest).drop (sizes.take k).sum).take n = leBytes n v := by
  induction sizes generalizing numbers k with
  | nil => simp at size
  | cons m sizes ih =>
    cases numbers with
    | nil => simp at number
    | cons w numbers =>
      cases k with
      | zero =>
        cases size
        cases number
        simp [encodeFields, leBytes_length]
      | succ k =>
        rw [List.take_succ_cons, List.sum_cons, encodeFields, List.append_assoc, ← List.drop_drop,
          List.drop_left' (leBytes_length m w)]
        exact ih size number

/-- A number that its field holds is read back. -/
theorem leNat_leBytes {n v : Nat} (holds : v < 256 ^ n) : leNat (leBytes n v) = v := by
  induction n generalizing v with
  | zero => simp_all [leBytes, leNat]
  | succ n ih =>
    have high : v / 256 < 256 ^ n := Nat.div_lt_of_lt_mul (by rwa [← pow_succ'])
    rw [leBytes, leNat, ih high, BitVec.toNat_ofNat]
    exact Nat.mod_add_div v 256

/-! ### The status record (R189) -/

/-- The sizes of a status record's fields in their order, but for the zero bytes at its end. -/
def StatusFields.sizes : List Nat := [4, 2, 1, 1, 1, 1, 2, 4, 1, 1, 1, 1, 1, 1, 2, 4, 4, 4, 2, 2, 2, 2, 4]

/-- The numbers of the fields. -/
def StatusFields.numbers (f : StatusFields) : List Nat :=
  [f.writePosition.toNat, f.noticeCount.toNat, f.lastNotice.code, f.presence.code, f.rateState.code, f.exchange.code,
    f.period, achievedRate f.period, f.queueDepth, f.holdOwner.elim 255 BitVec.toNat, f.freeze.code, f.guard.toNat,
    f.capture.code, f.lastWatch.pattern.toNat, (BitVec.ofInt 16 f.level).toNat, f.receiveCount.toNat,
    f.lastWatch.sequence.toNat, f.lastWatch.time.toNat, f.errors.framing, f.errors.parity, f.errors.overruns,
    f.errors.breaks, f.pendingGap]

theorem StatusFields.bytes_eq (f : StatusFields) :
    f.bytes = encodeFields StatusFields.sizes f.numbers ++ leBytes 16 0 := by
  unfold StatusFields.bytes StatusFields.sizes StatusFields.numbers
  cases f.holdOwner <;> simp only [encodeFields, List.append_assoc, List.nil_append, Option.elim]

section
variable {f : StatusFields} {n v offset : Nat}

theorem StatusFields.bytes_at (k : Nat) (size : StatusFields.sizes[k]? = some n) (number : f.numbers[k]? = some v)
    (before : (StatusFields.sizes.take k).sum = offset) : (f.bytes.drop offset).take n = leBytes n v := by
  rw [f.bytes_eq, ← before]
  exact encodeFields_at size number _

/-- A number that its field holds is read back from there. -/
theorem StatusFields.number_at (k : Nat) (holds : v < 256 ^ n) (number : f.numbers[k]? = some v := by rfl)
    (size : StatusFields.sizes[k]? = some n := by decide)
    (before : (StatusFields.sizes.take k).sum = offset := by decide) :
    leNat ((f.bytes.drop offset).take n) = v := by
  rw [f.bytes_at k size number before, leNat_leBytes holds]

/-- A word is read back from a field of its bytes. -/
theorem StatusFields.word_at (k : Nat) {w : Nat} {x : BitVec w} (number : f.numbers[k]? = some x.toNat := by rfl)
    (size : StatusFields.sizes[k]? = some n := by decide)
    (before : (StatusFields.sizes.take k).sum = offset := by decide) (holds : 2 ^ w = 256 ^ n := by norm_num) :
    leNat ((f.bytes.drop offset).take n) = x.toNat := f.number_at k (holds ▸ x.isLt) number size before

/-- A field of one byte is the byte of its number. -/
theorem StatusFields.byte_at (k : Nat) {b : Byte} (byte : BitVec.ofNat 8 v = b)
    (number : f.numbers[k]? = some v := by rfl) (size : StatusFields.sizes[k]? = some 1 := by decide)
    (before : (StatusFields.sizes.take k).sum = offset := by decide) : (f.bytes.drop offset).take 1 = [b] := by
  rw [f.bytes_at k size number before, ← byte]
  rfl

end

/-- The record ends with zero bytes. -/
theorem StatusFields.bytes_end (f : StatusFields) : f.bytes.drop 48 = leBytes 16 0 := by
  rw [f.bytes_eq]
  exact List.drop_left' rfl

/-- An achieved rate of a period in range fits in its field (R69, R70). -/
theorem achievedRate_lt {period : Nat} (low : 32 ≤ period) (high : period ≤ 61440) :
    achievedRate period < 256 ^ 4 := by
  have size : Config.referenceHz + period / 2 < 256 ^ 4 := by
    rw [Config.referenceHz]
    omega
  exact (Nat.div_le_self _ _).trans_lt size

/-! ### Requests of status writes (R143, R146) -/

theorem exec_statusWriteIssue (p : PortId) (s : State) : exec (.statusWriteIssue p) s = .next (s.requestStatus p) := rfl

section
variable {s : State} {p : PortId}

/-- A write is due in RUNNING and DRAINING on a port in use, once in a part-time value (R143, R146). -/
theorem State.statusDue_iff : s.statusDue p = true ↔
    (s.bus.control = .running ∨ s.bus.control = .draining) ∧ p.val < s.tsu.geometry.portCount
      ∧ (s.port p).status.finalIssued = false ∧ (s.port p).status.request = none
      ∧ (s.port p).status.lastWrite ≠ some s.partTime
      ∧ ((s.port p).status.changed = true ∨ (s.port p).finalDue = true) := by
  simp [State.statusDue, State.active, State.inUse, and_assoc]

theorem Port.finalDue_iff {v : Port} :
    v.finalDue = true ↔ v.ca.settled = true ∧ v.ca.inHand = none ∧ v.ca.agenda = [] := by
  simp [Port.finalDue, Capture.ready]

/-- A due write is asked for, and nothing else changes. -/
theorem State.requestStatus_due (due : s.statusDue p = true) : s.requestStatus p = s.setPort p
    { s.port p with status := { (s.port p).status with request := some (s.port p).finalDue } } := if_pos due

theorem State.requestStatus_none (undue : ¬ s.statusDue p = true) : s.requestStatus p = s := if_neg undue

/-- A replaced port leaves all beyond it. -/
theorem State.onlyPort_setPort (s : State) (p : PortId) (v : Port) : s.onlyPort p (s.setPort p v) :=
  ⟨⟨rfl, rfl, rfl, rfl, rfl, rfl, rfl, rfl, rfl⟩, fun _ hq => s.port_setPort_ne v hq, rfl⟩

end

/-! ### Codes (R108, R190) -/

/-- The task kinds with their codes (R190). -/
def TaskKind.codes : List (Nat × TaskKind) :=
  [(1, .send), (2, .exchange), (3, .brk), (4, .line), (5, .hold), (6, .release), (7, .watch), (8, .thaw), (9, .guard),
    (10, .broadcast), (16, .abort), (17, .pattern), (18, .sense)]

theorem TaskKind.ofCode_iff (n : Nat) (k : TaskKind) : TaskKind.ofCode n = some k ↔ (n, k) ∈ TaskKind.codes := by
  have known : ∀ x ∈ TaskKind.codes, TaskKind.ofCode x.1 = some x.2 := by decide
  refine ⟨fun h => ?_, known (n, k)⟩
  unfold TaskKind.ofCode at h
  split at h <;> cases h <;> decide

/-- The element kinds with their codes (R108). -/
def ElementKind.codes : List (Nat × ElementKind) := [(0, .exact), (1, .fold), (2, .any), (3, .digit), (4, .blank)]

theorem ElementKind.ofCode_iff (n : Nat) (k : ElementKind) :
    ElementKind.ofCode n = some k ↔ (n, k) ∈ ElementKind.codes := by
  have known : ∀ x ∈ ElementKind.codes, ElementKind.ofCode x.1 = some x.2 := by decide
  refine ⟨fun h => ?_, known (n, k)⟩
  unfold ElementKind.ofCode at h
  split at h <;> cases h <;> decide

/-- Settles O52: a write is asked for where `State.statusDue` says so; the record is a row of fields. -/
theorem statusWritesFollowChanges : Obligations.StatusWritesFollowChanges := by
  refine ⟨fun s p active inUse final request change once => ?_, fun s p undue => ?_, fun f => ?_, fun _ => rfl,
    rfl, rfl, rfl, TaskKind.ofCode_iff, ElementKind.ofCode_iff⟩
  · have due := State.statusDue_iff.2 ⟨active, inUse, final, request, once, change.imp_right Port.finalDue_iff.2⟩
    refine ⟨_, exec_statusWriteIssue p s, ?_, ?_⟩ <;> rw [State.requestStatus_due due]
    · rw [State.port_setPort_same, Port.finalDue, Capture.ready, Bool.and_assoc]
    · exact s.onlyPort_setPort p _
  · rw [exec_statusWriteIssue, State.requestStatus_none]
    intro due
    obtain ⟨active, inUse, final, _, once, change⟩ := State.statusDue_iff.1 due
    rcases undue with off | stopped | unused | written | ⟨unchanged, unsettled⟩ | issued
    · simp [off] at active
    · simp [stopped] at active
    · exact absurd inUse (Nat.not_lt.2 unused)
    · exact once written
    · simp [unchanged, Port.finalDue, unsettled] at change
    · simp [issued] at final
  · have first : leNat ((f.bytes.drop 0).take 4) = f.writePosition.toNat := f.word_at 0
    rw [List.drop_zero] at first
    refine ⟨f.bytes_length, first, f.word_at 1, f.byte_at 2 ?_, f.byte_at 3 ?_, f.byte_at 4 ?_, f.byte_at 5 ?_,
      fun h => f.number_at 6 (by omega), fun low high => f.number_at 7 (achievedRate_lt low high),
      fun h => f.number_at 8 (by omega), f.byte_at 9 ?_, f.byte_at 10 ?_, f.byte_at 11 ?_, f.byte_at 12 ?_,
      f.byte_at 13 ?_, fun low high => ?_, f.word_at 15, f.word_at 16, f.word_at 17,
      fun h => f.number_at 18 (by omega), fun h => f.number_at 19 (by omega), fun h => f.number_at 20 (by omega),
      fun h => f.number_at 21 (by omega), fun h => f.number_at 22 (by omega), by rw [f.bytes_end]; decide⟩
    · cases f.lastNotice <;> rfl
    · cases f.presence <;> rfl
    · cases f.rateState <;> rfl
    · cases f.exchange <;> rfl
    · cases f.holdOwner with
      | none => rfl
      | some o => exact BitVec.ofNat_toNat 8 o
    · cases f.freeze <;> rfl
    · exact BitVec.ofNat_toNat 8 f.guard
    · cases f.capture <;> rfl
    · rw [BitVec.ofNat_toNat, BitVec.setWidth_eq]
    · rw [f.word_at 14 (x := BitVec.ofInt 16 f.level), BitVec.ofNat_toNat, BitVec.setWidth_eq,
        BitVec.toInt_ofInt_eq_self (by decide) low high]

end Sys2Proof.Machine
end

section
/-! SUPPORT. The records of a unit in the area and their bytes: where each record is placed, and what its header and its
data say. -/

namespace Sys2Proof.Machine

/-! ### The place of a record (R126, R127) -/

/-- Where a record of a placed unit stands, and what a PAD fills: the space before a record that would cross the end. -/
structure UnitRecord.placedAt (size w : Nat) (records : List UnitRecord) (i : Nat) : Prop where
  within : ∀ r, records[i]? = some r → (w + ((records.take i).map UnitRecord.size).sum) % size + r.size ≤ size
  fills : ∀ n, records[i]? = some (.pad n) → (w + ((records.take i).map UnitRecord.size).sum) % size + n = size
    ∧ ∃ r, records[i + 1]? = some r ∧ n < r.size

section
variable {size w : Nat}

/-- Behind its first record a unit is placed as its rest is behind that record. -/
theorem UnitRecord.placedAt_cons {r : UnitRecord} {rest : List UnitRecord} {i : Nat}
    (h : UnitRecord.placedAt size (w + r.size) rest i) : UnitRecord.placedAt size w (r :: rest) (i + 1) := by
  have sum : w + (((r :: rest).take (i + 1)).map UnitRecord.size).sum
      = w + r.size + ((rest.take i).map UnitRecord.size).sum := by
    rw [List.take_succ_cons, List.map_cons, List.sum_cons, Nat.add_assoc]
  constructor <;> rw [sum] <;> simp only [List.getElem?_cons_succ]
  · exact h.within
  · exact h.fills

/-- A first record that is no PAD needs only to fit. -/
theorem UnitRecord.placedAt_first {r : UnitRecord} {rest : List UnitRecord} (unpadded : ∀ n, r ≠ .pad n)
    (fits : w % size + r.size ≤ size) : UnitRecord.placedAt size w (r :: rest) 0 where
  within x first := by
    obtain rfl : r = x := by simpa using first
    simpa using fits
  fills n first := absurd (by simpa using first) (unpadded n)

/-- The space before the end of the area is filled by a PAD, where the record behind it would not fit. -/
theorem UnitRecord.placedAt_pad {r : UnitRecord} {rest : List UnitRecord} (pos : 0 < size)
    (crosses : size - w % size < r.size) : UnitRecord.placedAt size w (.pad (size - w % size) :: r :: rest) 0 := by
  have fill : w % size + (size - w % size) = size := Nat.add_sub_of_le (Nat.mod_lt w pos).le
  refine ⟨fun x first => ?_, fun n first => ?_⟩
  · obtain rfl : UnitRecord.pad (size - w % size) = x := by simpa using first
    simpa [UnitRecord.size] using fill.le
  · obtain rfl : size - w % size = n := by simpa using first
    exact ⟨by simpa using fill, r, rfl, crosses⟩

end

/-- The records of a unit, none of them larger than the area, are placed by the rule (R127). -/
theorem placeRecords_placed {size : Nat} (pos : 0 < size) {rs : List UnitRecord} (fit : ∀ r ∈ rs, r.size ≤ size)
    (unpadded : ∀ r ∈ rs, ∀ n, r ≠ .pad n) (w i : Nat) : UnitRecord.placedAt size w (placeRecords size w rs) i := by
  induction rs generalizing w i with
  | nil => constructor <;> simp [placeRecords]
  | cons r rs ih =>
    obtain ⟨rFits, rsFit⟩ := List.forall_mem_cons.1 fit
    obtain ⟨rNoPad, rsNoPad⟩ := List.forall_mem_cons.1 unpadded
    have inside := Nat.mod_lt w pos
    rw [placeRecords]
    split
    · next room =>
      cases i with
      | zero => exact UnitRecord.placedAt_first rNoPad (by omega)
      | succ i => exact UnitRecord.placedAt_cons (ih rsFit rsNoPad _ i)
    · next crosses =>
      have atStart : (w + (size - w % size)) % size = 0 := by
        have whole : w + (size - w % size) = size * (w / size) + size := by
          have := Nat.div_add_mod w size
          omega
        simp [whole]
      match i with
      | 0 => exact UnitRecord.placedAt_pad pos (Nat.lt_of_not_le crosses)
      | 1 => exact UnitRecord.placedAt_cons (UnitRecord.placedAt_first rNoPad (by rw [UnitRecord.size, atStart]; omega))
      | i + 2 => exact UnitRecord.placedAt_cons (UnitRecord.placedAt_cons (ih rsFit rsNoPad _ i))

/-- Without its PADs a placed unit is the records that were given, in their order (R127). -/
theorem placeRecords_filter {keep : UnitRecord → Bool} (dropsPads : ∀ n, keep (.pad n) = false)
    (size w : Nat) {rs : List UnitRecord} (kept : ∀ r ∈ rs, keep r = true) :
    (placeRecords size w rs).filter keep = rs := by
  induction rs generalizing w with
  | nil => rfl
  | cons r rs ih =>
    obtain ⟨rKept, rsKept⟩ := List.forall_mem_cons.1 kept
    rw [placeRecords]
    split
    · rw [List.filter_cons_of_pos rKept, ih _ rsKept]
    · rw [List.filter_cons_of_neg (by simp [dropsPads]), List.filter_cons_of_pos rKept, ih _ rsKept]

/-! ### The bytes of a record (R126, R191) -/

theorem recordHeader_eq (type length : Nat) (flags tag : Byte) (time sequence : Word) (aux : Nat) :
    recordHeader type length flags tag time sequence aux = encodeFields [1, 1, 1, 1, 4, 4, 4]
      [type, length, flags.toNat, tag.toNat, time.toNat, sequence.toNat, aux] := by
  simp [recordHeader, encodeFields, leBytes]

theorem recordHeader_length (type length : Nat) (flags tag : Byte) (time sequence : Word) (aux : Nat) :
    (recordHeader type length flags tag time sequence aux).length = 16 := by
  simp [recordHeader, leBytes_length]

theorem padded_length (data : List Byte) : (padded data).length = (data.length + 15) / 16 * 16 := by
  rw [padded, List.length_append, List.length_replicate, roundUp16]
  omega

section
variable {r : UnitRecord} {now receiveCount : Word} {type length : Nat} {flags tag : Byte} {time sequence : Word}
  {aux : Nat} {data : List Byte}

/-- A header with its data, padded to the rounded size, says its fields. -/
theorem UnitRecord.says_of
    (bytes : r.bytes now receiveCount = recordHeader type length flags tag time sequence aux ++ padded data)
    (small : aux < 256 ^ 4) : r.Says now receiveCount type length flags tag time sequence aux data := by
  have behind : (r.bytes now receiveCount).drop 16 = padded data := by
    rw [bytes]
    exact List.drop_left' (recordHeader_length ..)
  have field {k n v : Nat} (size : [1, 1, 1, 1, 4, 4, 4][k]? = some n)
      (number : [type, length, flags.toNat, tag.toNat, time.toNat, sequence.toNat, aux][k]? = some v)
      (holds : v < 256 ^ n) :
      leNat (((r.bytes now receiveCount).drop ([1, 1, 1, 1, 4, 4, 4].take k).sum).take n) = v := by
    rw [bytes, recordHeader_eq, encodeFields_at size number, leNat_leBytes holds]
  refine ⟨?_, field (k := 4) rfl rfl time.isLt, field (k := 5) rfl rfl sequence.isLt, field (k := 6) rfl rfl small,
    ?_, ?_, ?_⟩
  · rw [bytes]
    rfl
  · rw [behind]
    exact List.take_left
  · rw [behind, padded, List.drop_left]
    simp
  · rw [bytes, List.length_append, recordHeader_length, padded_length]

/-- A header alone says its fields. -/
theorem UnitRecord.says_header
    (bytes : r.bytes now receiveCount = recordHeader type length flags tag time sequence aux)
    (small : aux < 256 ^ 4) : r.Says now receiveCount type length flags tag time sequence aux [] :=
  UnitRecord.says_of (by simpa [padded, roundUp16] using bytes) small

end

/-! ### The flags of a DATA record (R133, R134) -/

theorem flagBit_getLsbD (on : Bool) {bit i : Nat} (inByte : i < 8) :
    (flagBit on bit).getLsbD i = (on && decide (i = bit)) := by
  cases on with
  | false => simp [flagBit]
  | true =>
    simp only [flagBit, if_true, BitVec.getLsbD_shiftLeft, BitVec.getLsbD_one, inByte, decide_true, Bool.true_and]
    rw [Bool.eq_iff_iff]
    simp
    omega

/-- Each closing cause has a flag of its own. -/
theorem CloseCause.flag_getLsbD (c : CloseCause) {i : Nat} (inByte : i < 8) : c.flag.getLsbD i =
    match c with
    | .endCode => decide (i = 4)
    | .quiet => decide (i = 5)
    | .fullLength => decide (i = 6)
    | .event => decide (i = 7) := by
  cases c <;> simp [CloseCause.flag, flagBit_getLsbD _ inByte]

/-- The four notes of a record stand in the low half of its flags, the closing cause in the high half. -/
theorem DataRecord.flags_getLsbD (d : DataRecord) (c : CloseCause) {i : Nat} (inByte : i < 8) :
    (d.flags c).getLsbD i = (d.framing && decide (i = 0) || d.parity && decide (i = 1) || d.matched && decide (i = 2)
      || d.multiMatch && decide (i = 3) || c.flag.getLsbD i) := by
  simp only [DataRecord.flags, BitVec.getLsbD_or, flagBit_getLsbD _ inByte]

end Sys2Proof.Machine
end

section
/-! SUPPORT. The room test of a unit: what a discard leaves and what it tells, the read mark, and the unit tested again;
the statement on records, room and discards. -/

namespace Sys2Proof.Machine

/-! ### Records that come into hand (R131, R138, R139) -/

section
variable {s : State} {p : PortId}

/-- The unit of a record, behind the GAP of the pending gap where one joins it (R131, R138). -/
def Capture.recordUnit (ca : Capture) (record : CaptureRecord) (joinGap passed : Bool) : WriteUnit :=
  { records := placeRecords ca.areaSize ca.writePosition.toNat
      ((if joinGap then ca.gap.toList.map UnitRecord.gap else []) ++ [.record record])
    passed := passed }

/-- A record comes into hand by the capture mode. -/
theorem State.takeInHand_some (record : CaptureRecord) (joinGap : Bool) :
    s.takeInHand p (some record) joinGap = match (s.port p).ca.mode with
      | .off => s
      | .history => s.modPort p fun v =>
        { v with ca := { v.ca with inHand := some ((s.port p).ca.recordUnit record joinGap true) } }
      | .keep => s.testUnit p ((s.port p).ca.recordUnit record joinGap false) := by
  have nonempty : ((if joinGap then (s.port p).ca.gap.toList.map UnitRecord.gap else [])
      ++ [UnitRecord.record record]).isEmpty = false := by simp
  unfold State.takeInHand
  simp only [Option.toList_some, List.map_singleton, placeRecords_isEmpty, nonempty, Bool.false_eq_true, if_false]
  cases (s.port p).ca.mode <;> rfl

end

/-! ### Discards (R141) -/

section
variable {ca : Capture}

/-- PADs and GAPs of a discarded unit add nothing to the pending gap. -/
theorem Capture.gapOfDiscarded_filter {keep : UnitRecord → Bool} (drops : ∀ r, keep r = false → ∃ n, r = .pad n)
    (records : List UnitRecord) : ca.gapOfDiscarded (records.filter keep) = ca.gapOfDiscarded records := by
  induction records generalizing ca with
  | nil => rfl
  | cons r rest ih =>
    cases kept : keep r with
    | false =>
      obtain ⟨n, rfl⟩ := drops r kept
      rw [List.filter_cons_of_neg (by simp [kept]), ih, Capture.gapOfDiscarded]
      exact fun _ _ h => nomatch h
    | true =>
      rw [List.filter_cons_of_pos kept]
      match r with
      | .record (.data d c) => exact ih
      | .record (.tx _ _) | .record (.mark _ _ _ _) | .pad _ | .gap _ => exact ih

theorem Capture.gapOfDiscarded_gaps (gaps : List PendingGap) (records : List UnitRecord) :
    ca.gapOfDiscarded (gaps.map UnitRecord.gap ++ records) = ca.gapOfDiscarded records := by
  induction gaps with
  | nil => rfl
  | cons g rest ih => exact ih

/-- The pending gap behind the discard of a unit that holds one record, with its PADs and GAPs. -/
theorem Capture.gapOfDiscarded_unit {records : List UnitRecord} {pads : List Nat} {gaps : List PendingGap}
    {record : CaptureRecord}
    (holds : (records.filter fun r => ∀ n ∈ pads, r ≠ .pad n) = gaps.map UnitRecord.gap ++ [.record record]) :
    ca.gapOfDiscarded records = ca.gapOfDiscarded [.record record] := by
  rw [← Capture.gapOfDiscarded_gaps gaps [.record record], ← holds, Capture.gapOfDiscarded_filter]
  intro r dropped
  obtain ⟨n, _, pad⟩ : ∃ n ∈ pads, r = .pad n := by simpa using dropped
  exact ⟨n, pad⟩

end

/-- What is left by the discard of a unit: its port without it, with the bytes of its DATA record in the pending gap;
FULL, with one notice where the capture was NORMAL (R141). -/
structure State.unitDiscarded (s : State) (p : PortId) (u : WriteUnit) (t : State) : Prop where
  own : t.port p = { s.port p with
    ca := { (s.port p).ca with
      gap := ((s.port p).ca.gapOfDiscarded u.records).gap
      inHand := none
      state := if (s.port p).ca.state = .normal then .full else (s.port p).ca.state }
    status := (t.port p).status }
  entered : (s.port p).ca.state = .normal → (t.port p).status.noticeCount = (s.port p).status.noticeCount + 1
    ∧ (t.port p).status.lastNotice = .full ∧ t.attention = s.attention ||| 1#10 <<< 6
  stayed : (s.port p).ca.state ≠ .normal → (t.port p).status.noticeCount = (s.port p).status.noticeCount
    ∧ t.attention = s.attention
  elsewhere : s.sameElsewhere p t

section
variable {s t : State} {p : PortId} {u : WriteUnit}

/-- The unit in hand is dropped, with the bytes of its DATA record in the pending gap. -/
def State.unitDropped (s : State) (p : PortId) (u : WriteUnit) : State :=
  s.modPort p fun v => { v with ca := { v.ca.gapOfDiscarded u.records with inHand := none } }

theorem State.discardUnit_normal (normal : (s.port p).ca.state = .normal) : s.discardUnit p u =
    ((s.unitDropped p u).modPort p fun v => { v with ca := { v.ca with state := .full } }).notice p .full :=
  if_pos normal

theorem State.discardUnit_other (other : (s.port p).ca.state ≠ .normal) : s.discardUnit p u = s.unitDropped p u :=
  if_neg other

theorem State.unitDropped_port (s : State) (p : PortId) (u : WriteUnit) : (s.unitDropped p u).port p = { s.port p with
    ca := { (s.port p).ca with gap := ((s.port p).ca.gapOfDiscarded u.records).gap, inHand := none }
    status := ((s.unitDropped p u).port p).status } := by
  rw [State.unitDropped, State.modPort_own, Capture.gapOfDiscarded_own]

theorem State.unitDropped_noticeCount (s : State) (p : PortId) (u : WriteUnit) :
    ((s.unitDropped p u).port p).status.noticeCount = (s.port p).status.noticeCount := by
  simp [State.unitDropped]

theorem State.unitDiscarded_discardUnit (s : State) (p : PortId) (u : WriteUnit) :
    s.unitDiscarded p u (s.discardUnit p u) := by
  have elsewhere := (s.recordFrame_discardUnit p u).elsewhere
  by_cases normal : (s.port p).ca.state = .normal
  · rw [State.discardUnit_normal normal] at elsewhere ⊢
    refine ⟨?_, fun _ => ⟨?_, ?_, ?_⟩, fun other => absurd normal other, elsewhere⟩
    · rw [State.notice_port_same, State.modPort_own, s.unitDropped_port, if_pos normal]
    · simp [State.notice_port_same, s.unitDropped_noticeCount]
    · rw [State.notice_port_same]
    · rw [State.notice_attention _ p (c := .full) rfl]
      rfl
  · rw [State.discardUnit_other normal] at elsewhere ⊢
    refine ⟨?_, fun h => absurd h normal, fun _ => ⟨s.unitDropped_noticeCount p u, rfl⟩, elsewhere⟩
    rw [s.unitDropped_port, if_neg normal]

/-- An empty agenda is resumed without effect. -/
theorem State.resumeAgenda_none (none : (s.port p).ca.agenda = []) : ((s.resumeAgenda p).port p) = s.port p
    ∧ (s.resumeAgenda p).attention = s.attention ∧ s.sameElsewhere p (s.resumeAgenda p) := by
  rw [State.resumeAgenda, none, State.runAgenda]
  refine ⟨?_, rfl, fun q hq => s.port_modPort_ne _ hq⟩
  rw [State.port_modPort_same]
  conv_lhs => rw [← none]
  exact Port.noting_same rfl

/-- With nothing in the agenda, nothing follows the discard. -/
theorem State.unitDiscarded.resumeAgenda (h : s.unitDiscarded p u t) (agenda : (s.port p).ca.agenda = []) :
    s.unitDiscarded p u (t.resumeAgenda p) := by
  obtain ⟨port, attention, elsewhere⟩ := State.resumeAgenda_none (s := t) (p := p) (by rw [h.own, agenda])
  constructor
  · rw [port, h.own]
  · rw [port, attention]
    exact h.entered
  · rw [port, attention]
    exact h.stayed
  · exact State.sameElsewhere.trans h.elsewhere elsewhere

/-! ### The room test (R140, R142) -/

theorem Capture.hasRoom_iff {ca : Capture} : ca.hasRoom u = true ↔
    (ca.writePosition - ca.readMark).toNat + (u.records.map UnitRecord.size).sum ≤ ca.areaSize :=
  decide_eq_true_iff

/-- The read-mark fetch of a unit that has no room is asked for. -/
def State.markWanted (s : State) (p : PortId) (u : WriteUnit) : State :=
  s.modPort p fun v => { v with ca := { v.ca with inHand := some u, fetch := .wanted } }

/-- A unit that has room passes its first test (R140). -/
theorem State.testUnit_room (room : (s.port p).ca.hasRoom u = true) : s.testUnit p u = s.passUnit p u := if_pos room

/-- In FULL, behind a fetch at this part time, a unit without room is discarded (R142). -/
theorem State.testUnit_fetched (none : ¬ (s.port p).ca.hasRoom u = true) (full : (s.port p).ca.state = .full)
    (fetched : (s.port p).ca.lastFetch = some s.partTime) : s.testUnit p u = s.discardUnit p u := by
  rw [State.testUnit, if_neg none, if_pos (by simp [full, fetched])]

/-- Otherwise a unit without room asks for the read mark (R140, R142). -/
theorem State.testUnit_fetches (none : ¬ (s.port p).ca.hasRoom u = true)
    (h : (s.port p).ca.state ≠ .full ∨ (s.port p).ca.lastFetch ≠ some s.partTime) :
    s.testUnit p u = s.markWanted p u := by
  rw [State.testUnit, if_neg none, if_neg (by simpa [Classical.or_iff_not_imp_left] using h)]
  rfl

/-- Nothing of the port is told or moved but what concerns its units. -/
structure State.untold (s : State) (p : PortId) (t : State) : Prop where
  slu : (t.port p).slu = (s.port p).slu
  queue : (t.port p).queue = (s.port p).queue
  noticeCount : (t.port p).status.noticeCount = (s.port p).status.noticeCount
  attention : t.attention = s.attention
  elsewhere : s.sameElsewhere p t

theorem State.untold_modPort (s : State) (p : PortId) {f : Port → Port}
    (slu : (f (s.port p)).slu = (s.port p).slu := by rfl) (queue : (f (s.port p)).queue = (s.port p).queue := by rfl)
    (status : (f (s.port p)).status = (s.port p).status := by rfl) : s.untold p (s.modPort p f) :=
  ⟨by simp [slu], by simp [queue], by simp [status], rfl, fun _ hq => s.port_modPort_ne _ hq⟩

theorem State.untold_passUnit (s : State) (p : PortId) (u : WriteUnit) : s.untold p (s.passUnit p u) :=
  s.untold_modPort p

theorem State.unitDiscarded.untold (h : s.unitDiscarded p u t) (other : (s.port p).ca.state ≠ .normal) :
    s.untold p t := by
  obtain ⟨count, attention⟩ := h.stayed other
  exact ⟨by rw [h.own], by rw [h.own], count, attention, h.elsewhere⟩

/-- The first room test tells nothing: where it discards, the capture is FULL already. -/
theorem State.untold_testUnit (s : State) (p : PortId) (u : WriteUnit) : s.untold p (s.testUnit p u) := by
  unfold State.testUnit
  dsimp only
  split
  · exact s.untold_passUnit p u
  · split
    · next fetched =>
      have full : (s.port p).ca.state = .full := of_decide_eq_true (Bool.and_eq_true_iff.1 fetched).1
      exact (s.unitDiscarded_discardUnit p u).untold (by simp [full])
    · exact s.untold_modPort p

/-! ### The read mark (R140, R142) -/

/-- What the answer to a read-mark fetch leaves, or its fault: the mark taken, and FAULT raised by a fault. -/
structure State.markTaken (s : State) (p : PortId) (mark : Word) (fault : Bool) (t : State) : Prop where
  own : t.port p = { s.port p with ca := { (s.port p).ca with fetch := .idle, readMark := mark } }
  attention : t.attention = s.attention ||| if fault then 1#10 <<< 7 else 0
  elsewhere : s.sameElsewhere p t

/-- The mark that is used behind a fetch: no place of the area counts as W, and a fault leaves the mark (R140). -/
def Capture.markOf (ca : Capture) (answer : Option (List Byte)) : Word :=
  match answer with
  | none => ca.readMark
  | some b =>
    if (ca.writePosition - BitVec.ofNat 32 (leNat b)).toNat ≤ ca.areaSize then BitVec.ofNat 32 (leNat b)
    else ca.writePosition

/-- Behind the end of a fetch that is out, the unit in hand is tested again (R140, R142). -/
theorem State.readMarkEnds_retests {read : Nat} (out : (s.port p).ca.fetch = .outstanding read)
    (answer : Option (List Byte)) : ∃ t, s.readMarkEnds p read answer = t.retestUnit p
      ∧ s.markTaken p ((s.port p).ca.markOf answer) answer.isNone t := by
  unfold State.readMarkEnds
  rw [if_pos out]
  cases answer with
  | some b =>
    refine ⟨_, rfl, ?_, by simp, fun q hq => s.port_modPort_ne _ hq⟩
    rw [State.port_modPort_same]
    exact Port.noting_same rfl
  | none =>
    refine ⟨_, rfl, ?_, by simp [Cause.bit, Cause.index], fun q hq => ?_⟩
    · rw [State.raise_port, State.port_modPort_same]
      exact Port.noting_same rfl
    · rw [State.raise_port, s.port_modPort_ne _ hq]

section
variable {mark : Word} {fault : Bool} (taken : s.markTaken p mark fault t)
include taken

theorem State.markTaken.hasRoom_iff : (t.port p).ca.hasRoom u = true ↔
    ((s.port p).ca.writePosition - mark).toNat + (u.records.map UnitRecord.size).sum ≤ (s.port p).ca.areaSize := by
  rw [taken.own]
  exact Capture.hasRoom_iff

theorem State.markTaken.passUnit_port : (t.passUnit p u).port p = { s.port p with
    ca := { (s.port p).ca with
      readMark := mark, fetch := .idle, inHand := some { u with passed := true }, state := .normal }
    status := ((t.passUnit p u).port p).status } := by
  rw [State.passUnit, State.modPort_own, taken.own]

end

section
variable (inHand : (s.port p).ca.inHand = some u) (waits : u.passed = false)
include inHand waits

theorem State.retestUnit_room (room : (s.port p).ca.hasRoom u = true) : s.retestUnit p = s.passUnit p u := by
  simp [State.retestUnit, inHand, waits, room]

theorem State.retestUnit_full (none : ¬ (s.port p).ca.hasRoom u = true) :
    s.retestUnit p = (s.discardUnit p u).resumeAgenda p := by
  simp [State.retestUnit, inHand, waits, none]

end

end

/-- Settles O51: records are placed by `placeRecords_placed`, a unit passes or is left by `State.unitDiscarded`, and the
bytes of a record are its header and its padded data. -/
theorem recordsNeverCrossTheAreaEnd : Obligations.RecordsNeverCrossTheAreaEnd := by
  refine ⟨fun size w rs pos fit unpadded => ⟨?_, fun i => (placeRecords_placed pos fit unpadded w i).within,
      fun i => (placeRecords_placed pos fit unpadded w i).fills⟩,
    fun s p record joinGap => ⟨fun off => ?_, fun history => ?_, fun kept => ?_, State.takeInHand_noGap⟩,
    fun s t p u need tested needEq => ?_, fun s t p u pads old record discarded holds => ?_,
    fun s t p read need answer u mark ended out inHand waits agenda markEq needEq => ?_,
    fun now receiveCount => ⟨fun d c short errors => ⟨?_, ?_⟩, fun r sequence short slot => ?_,
      fun kind value time sequence => ?_, fun g bounded => ?_, fun n _ _ => ?_⟩⟩
  · refine placeRecords_filter (fun _ => rfl) size w fun r mem => ?_
    cases r with
    | pad n => exact absurd rfl (unpadded _ mem n)
    | gap g => rfl
    | record r => rfl
  · rw [State.takeInHand_some, off]
  · rw [State.takeInHand_some, history]
    simp [Capture.recordUnit]
  · rw [State.takeInHand_some, kept]
    rfl
  · subst tested needEq
    have frame := s.untold_testUnit p u
    have noRoom (exceeds : _ < _) := (Capture.hasRoom_iff (ca := (s.port p).ca) (u := u)).not.2 (Nat.not_le.2 exceeds)
    refine ⟨fun fits => ?_, fun exceeds => ⟨fun h => ?_, fun full fetched => ?_⟩, frame.slu, frame.queue,
      frame.noticeCount, frame.attention, frame.elsewhere⟩
    · rw [State.testUnit_room (Capture.hasRoom_iff.2 fits), State.passUnit, State.port_modPort_same, Port.noting_ca]
    · rw [State.testUnit_fetches (noRoom exceeds) h, State.markWanted,
        State.port_modPort_same, Port.noting_ca]
    · exact State.testUnit_fetched (noRoom exceeds) full fetched
  · subst discarded
    have left := s.unitDiscarded_discardUnit p u
    have gap : ((s.discardUnit p u).port p).ca.gap = ((s.port p).ca.gapOfDiscarded [.record record]).gap := by
      rw [left.own, Capture.gapOfDiscarded_unit holds]
    refine ⟨by rw [left.own], by rw [left.own], fun other => ?_, fun d c data some => ?_,
      fun normal => ⟨by rw [left.own, if_pos normal], left.entered normal⟩,
      fun full => ⟨?_, left.stayed (by simp [full])⟩, by rw [left.own], by rw [left.own], by rw [left.own],
      left.elsewhere⟩
    · rw [gap]
      cases record with
      | data d c => exact absurd rfl (other d c)
      | tx _ _ | mark _ _ _ _ => rfl
    · rw [gap, data, Capture.gapOfDiscarded, Capture.gapOfDiscarded]
      cases held : (s.port p).ca.gap with
      | none => rw [Capture.addGap_first some _ _ _ held]
      | some g => rw [Capture.addGap_more some _ _ _ held]
    · rw [left.own, if_neg (by simp [full])]
      exact full
  · obtain ⟨v, retests, taken⟩ := State.readMarkEnds_retests out answer
    obtain rfl : mark = (s.port p).ca.markOf answer := markEq
    rw [retests] at ended
    subst ended needEq
    have vInHand : (v.port p).ca.inHand = some u := by rw [taken.own, inHand]
    by_cases room : (v.port p).ca.hasRoom u = true
    · have passed := taken.passUnit_port (u := u)
      have frame := v.untold_passUnit p u
      rw [State.retestUnit_room vInHand waits room]
      refine ⟨by rw [passed], by rw [passed], fun _ => ⟨by rw [passed], ?_, frame.attention.trans taken.attention⟩,
        fun exceeds => absurd (taken.hasRoom_iff.1 room) (Nat.not_le.2 exceeds), by rw [passed], by rw [passed],
        State.sameElsewhere.trans taken.elsewhere frame.elsewhere⟩
      rw [frame.noticeCount, taken.own]
    · have left := (v.unitDiscarded_discardUnit p u).resumeAgenda (by rw [taken.own, agenda])
      have own := left.own
      have entered := left.entered
      have stayed := left.stayed
      rw [taken.own] at own entered stayed
      rw [taken.attention] at entered stayed
      rw [State.retestUnit_full vInHand waits room]
      refine ⟨by rw [own], by rw [own], fun fits => absurd (taken.hasRoom_iff.2 fits) room,
        fun _ => ⟨by rw [own], by rw [own], fun normal => ⟨by rw [own, if_pos normal], ?_⟩,
          fun full => ⟨?_, stayed (by simp [full])⟩⟩,
        by rw [own], by rw [own], State.sameElsewhere.trans taken.elsewhere left.elsewhere⟩
      · obtain ⟨count, last, attention⟩ := entered normal
        exact ⟨count, last, attention.trans (by ac_rfl)⟩
      · rw [own, if_neg (by simp [full])]
        exact full
  · exact UnitRecord.says_of rfl (by omega)
  · refine ⟨?_, ?_, ?_, ?_, ?_, ?_, ?_, ?_⟩ <;> rw [d.flags_getLsbD c (by decide), c.flag_getLsbD (by decide)]
    all_goals cases c <;> simp
  · exact UnitRecord.says_of rfl (by omega)
  · cases kind <;> exact UnitRecord.says_header rfl value.isLt
  · cases cause : g.cause <;> exact UnitRecord.says_header (by rw [UnitRecord.bytes, cause]; rfl) (by omega)
  · exact UnitRecord.says_header rfl (by decide)

end Sys2Proof.Machine
end

section
/-! SUPPORT. The freeze of a port from its trigger to its THAW: the count over bytes and loss runs, the meeting of the
freeze item and of a thaw item; the statement on the freeze. -/

namespace Sys2Proof.Machine

/-! ### The count over bytes (R148, R150) -/

/-- The count has begun for a pattern, with so many bytes left (R148, R149). -/
def Freeze.countFrom (f : Freeze) (i : PatternId) (left : Nat) : Freeze :=
  { f with state := .counting, trigger := some i, remaining := left }

section
variable (v : Port) (sequence now : Word)

/-- The freeze item stands behind the byte that ends the count (R150). -/
theorem Port.mem_handFreeze :
    EventItem.mk (sequence + 1) now .freeze ∈ (v.handFreeze sequence now).ca.events := by
  simp [Port.handFreeze, Capture.placeItem, ItemAction.always]

variable {v} (active : v.ca.mode ≠ .off) (unsettled : v.ca.settled = false)
include active unsettled

theorem Port.freezeActs_of : v.freezeActs = true := by
  simp [Port.freezeActs, active, unsettled]

/-- In LIVE a trigger starts the count, which ends at once where it is 0 (R148, R150). -/
theorem Port.freezeByte_trigger (i : PatternId) (live : v.freeze.state = .live) :
    v.freezeByte sequence now (some i) =
      if v.freeze.postCount = 0 then
        { v with freeze := v.freeze.countFrom i v.freeze.postCount }.handFreeze sequence now
      else { v with freeze := v.freeze.countFrom i v.freeze.postCount } := by
  simp [Port.freezeByte, Port.freezeActs_of active unsettled, live, Freeze.countFrom]

/-- In COUNTING a byte counts down, and the last one ends the count (R148, R150). -/
theorem Port.freezeByte_counts {n : Nat} (trigger : Option PatternId) (counting : v.freeze.state = .counting)
    (remaining : v.freeze.remaining = n + 1) : v.freezeByte sequence now trigger =
      if n = 0 then { v with freeze := { v.freeze with remaining := n } }.handFreeze sequence now
      else { v with freeze := { v.freeze with remaining := n } } := by
  simp [Port.freezeByte, Port.freezeActs_of active unsettled, counting, remaining]

end

/-! ### The count over loss runs (R149) -/

theorem Capture.addGap_gapCount {ca : Capture} (none : ca.gap = none) (cause : GapCause) (sequence time : Word)
    (n : Nat) : (ca.addGap cause sequence time n).gapCount = min n 4294967295 := by
  cases n with
  | zero => simp [Capture.addGap, Capture.gapCount, none]
  | succ n => rw [Capture.addGap_first n.succ_pos _ _ _ none, Capture.gapCount]

section
variable {f : Freeze} {run : LossRun}

section
variable (counting : f.state = .counting) (left : 0 < f.remaining)
include counting left

theorem Freeze.meetRun_counts (short : run.count < f.remaining) :
    f.meetRun run = ({ f with remaining := f.remaining - run.count }, run.count, false) := by
  simp [Freeze.meetRun, counting, left.ne', Nat.not_le.2 short]

theorem Freeze.meetRun_countEnds (enough : f.remaining ≤ run.count) :
    f.meetRun run = ({ f with remaining := 0 }, f.remaining, true) := by
  simp [Freeze.meetRun, counting, left.ne', enough]

end

section
variable {i : PatternId} {place : Nat} (live : f.state = .live) (trigger : run.trigger = some (i, place))
  (inside : place < run.count)
include live trigger inside

theorem Freeze.meetRun_starts (short : run.count < place + 1 + f.postCount) :
    f.meetRun run = (f.countFrom i (f.postCount - (run.count - (place + 1))), run.count, false) := by
  have short : ¬ f.postCount ≤ run.count - (place + 1) := by omega
  simp [Freeze.meetRun, live, trigger, short, Freeze.countFrom]

theorem Freeze.meetRun_startsAndEnds (enough : place + 1 + f.postCount ≤ run.count) :
    f.meetRun run = (f.countFrom i 0, place + 1 + f.postCount, true) := by
  have enough : f.postCount ≤ run.count - (place + 1) := by omega
  simp [Freeze.meetRun, live, trigger, enough, Freeze.countFrom]

end

end

section
variable {v : Port} {run : LossRun} (active : v.ca.mode ≠ .off) (unsettled : v.ca.settled = false)
  {f : Freeze} (now : Word)
include active unsettled

theorem Port.loseRun_eq : v.loseRun run now =
    if (v.freeze.meetRun run).2.2 then
      (v.runJoined run now).handFreeze (run.sequence + BitVec.ofNat 32 (v.freeze.meetRun run).2.1 - 1) now
    else v.runJoined run now := by
  rw [Port.loseRun, if_neg active, if_neg (by simp [unsettled])]
  dsimp only
  rw [Capture.addGap_own]
  rfl

/-- A run in which no count ends joins the pending gap whole (R137, R149). -/
theorem Port.loseRun_passes (none : v.ca.gap = none) (meet : v.freeze.meetRun run = (f, run.count, false)) :
    (v.loseRun run now).freeze = f ∧ (v.loseRun run now).ca.lossRuns = v.ca.lossRuns
      ∧ (v.loseRun run now).ca.events = v.ca.events
      ∧ (v.loseRun run now).ca.gapCount = min run.count 4294967295 := by
  rw [Port.loseRun_eq active unsettled, meet, if_neg Bool.false_ne_true, Port.runJoined, meet]
  refine ⟨rfl, ?_, rfl, Capture.addGap_gapCount none _ _ _ _⟩
  exact congrArg (· ++ _) (LossRun.after_all le_rfl)

/-- A run in which the count ends is divided: the freeze item stands at its rest (R149, R150). -/
theorem Port.loseRun_enters {n : Nat} (none : v.ca.gap = none) (meet : v.freeze.meetRun run = (f, n, true)) :
    (v.loseRun run now).freeze = f
      ∧ EventItem.mk (run.sequence + BitVec.ofNat 32 n) now .freeze ∈ (v.loseRun run now).ca.events
      ∧ (v.loseRun run now).ca.gapCount = min n 4294967295
      ∧ (v.loseRun run now).ca.lossRuns = run.after n ++ v.ca.lossRuns := by
  have handed := (v.runJoined run now).mem_handFreeze (run.sequence + BitVec.ofNat 32 n - 1) now
  rw [BitVec.sub_add_cancel] at handed
  rw [Port.loseRun_eq active unsettled, meet, if_pos rfl]
  refine ⟨?_, handed, ?_, ?_⟩ <;> simp only [Port.handFreeze, Capture.placeItem, Port.runJoined, meet]
  exact Capture.addGap_gapCount none _ _ _ _

end

/-- The rest of a divided run begins behind the bytes that the freeze has taken in (R149). -/
theorem LossRun.after_rest {run : LossRun} {n : Nat} (more : n < run.count) : ∃ rest, run.after n = [rest]
    ∧ rest.sequence = run.sequence + BitVec.ofNat 32 n ∧ rest.count = run.count - n :=
  ⟨_, if_pos more, rfl, rfl⟩

/-! ### What an agenda tells (R131, R140, R141) -/

section
variable {s t : State} {p : PortId}

theorem State.agendaFrame_runAgenda (s : State) (p : PortId) (steps : List CaptureStep) :
    s.agendaFrame p (s.runAgenda p steps) :=
  State.runAgenda_keeps (P := s.agendaFrame p) (fun t c ht => ht.trans (t.agendaFrame_captureStep p c))
    (fun t _ ht => ht.trans (t.agendaFrame_modPort p rfl)) steps (.refl s p)

theorem State.atPort_discardUnit (s : State) (p : PortId) (u : WriteUnit) : s.atPort p (s.discardUnit p u) := by
  have dropped : s.atPort p (s.unitDropped p u) := s.atPort_modPort p _ (by rfl)
  by_cases normal : (s.port p).ca.state = .normal
  · rw [State.discardUnit_normal normal]
    exact (dropped.trans (State.atPort_modPort _ p _)).trans (State.atPort_notice _ p .full)
  · rw [State.discardUnit_other normal]
    exact dropped

theorem State.atPort_takeInHand (s : State) (p : PortId) (record : Option CaptureRecord) (joinGap : Bool) :
    s.atPort p (s.takeInHand p record joinGap) := by
  unfold State.takeInHand
  extract_lets ca gap records
  split
  · exact .refl s p
  · split
    · exact .refl s p
    · exact s.atPort_modPort p _
    · unfold State.testUnit
      dsimp only
      split
      · exact s.atPort_modPort p _
      · split
        · exact s.atPort_discardUnit p _
        · exact s.atPort_modPort p _

/-- Steps that bring records clear no cause. -/
theorem State.runAgenda_attention {i : Nat} {steps : List CaptureStep} (raised : s.attention.getLsbD i = true) :
    (s.runAgenda p steps).attention.getLsbD i = true := by
  refine State.runAgenda_keeps (P := fun t => t.attention.getLsbD i = true) (fun t c h => ?_) (fun _ _ h => h)
    steps raised
  cases c with
  | write record joinGap => exact (t.atPort_takeInHand p _ _).attention i h
  | writeGap => exact (t.atPort_takeInHand p _ _).attention i h
  | loseRun run met => exact h

/-- A record waits in hand with the rest of its input behind it; no gap has been taken and nothing told. -/
structure State.recordWaits (s : State) (p : PortId) (rest : List CaptureStep) (t : State) : Prop where
  agenda : (t.port p).ca.agenda = rest
  gap : (t.port p).ca.gap = (s.port p).ca.gap
  noticeCount : (t.port p).status.noticeCount = (s.port p).status.noticeCount
  lastNotice : (t.port p).status.lastNotice = (s.port p).status.lastNotice
  attention : t.attention = s.attention

section
variable {step : CaptureStep} {rest : List CaptureStep}

/-- A step that brings a unit into hand is the last one for now (R131). -/
theorem State.runAgenda_brought {f : Capture → Capture} {u : WriteUnit}
    (brought : s.captureStep p step = s.modPort p fun v => { v with ca := f v.ca })
    (inHand : (f (s.port p).ca).inHand = some u) :
    ((s.runAgenda p (step :: rest)).port p).ca = { f (s.port p).ca with agenda := rest }
      ∧ ((f (s.port p).ca).gap = (s.port p).ca.gap → s.recordWaits p rest (s.runAgenda p (step :: rest))) := by
  rw [State.runAgenda_held (by simp [brought, inHand]), brought]
  exact ⟨by simp, fun gap => ⟨by simp, by simpa using gap, by simp, by simp, rfl⟩⟩

/-- A step that finds nothing to bring leaves the next one its place (R138). -/
theorem State.runAgenda_skips (same : s.captureStep p step = s) (inHand : (s.port p).ca.inHand = none) :
    s.runAgenda p (step :: rest) = s.runAgenda p rest := by
  rw [State.runAgenda, same, inHand]
  rfl

section
variable {record : CaptureRecord} {records : List UnitRecord}
  (placed : records = placeRecords (s.port p).ca.areaSize (s.port p).ca.writePosition.toNat
    ((s.port p).ca.gap.toList.map UnitRecord.gap ++ [.record record]))
include placed

theorem Capture.recordUnit_placed (passed : Bool) :
    (s.port p).ca.recordUnit record true passed = { records := records, passed := passed } := by
  rw [placed]
  rfl

/-- In HISTORY, and in KEEP where the record has room, it waits for its grants alone (R139, R140). -/
theorem State.runAgenda_passes (passes : (s.port p).ca.mode = .history
      ∨ ((s.port p).ca.mode = .keep ∧ (s.port p).ca.hasRoom { records := records, passed := false } = true)) :
    ((s.runAgenda p (.write record true :: rest)).port p).ca.inHand = some { records := records, passed := true }
      ∧ s.recordWaits p rest (s.runAgenda p (.write record true :: rest)) := by
  have taken : s.captureStep p (.write record true) = _ := State.takeInHand_some record true
  rcases passes with history | ⟨keep, room⟩
  · simp only [history, Capture.recordUnit_placed placed] at taken
    obtain ⟨ca, waits⟩ := State.runAgenda_brought (rest := rest)
      (f := fun ca => { ca with inHand := some { records := records, passed := true } }) taken rfl
    exact ⟨by rw [ca], waits rfl⟩
  · simp only [keep, Capture.recordUnit_placed placed, State.testUnit_room room] at taken
    obtain ⟨ca, waits⟩ := State.runAgenda_brought (rest := rest)
      (f := fun ca => { ca with inHand := some { records := records, passed := true }, state := .normal }) taken rfl
    exact ⟨by rw [ca], waits rfl⟩

/-- In KEEP a record without room asks for the read mark (R140, R142). -/
theorem State.runAgenda_fetches (keep : (s.port p).ca.mode = .keep)
    (none : ¬ (s.port p).ca.hasRoom { records := records, passed := false } = true)
    (h : (s.port p).ca.state ≠ .full ∨ (s.port p).ca.lastFetch ≠ some s.partTime) :
    ((s.runAgenda p (.write record true :: rest)).port p).ca.inHand = some { records := records, passed := false }
      ∧ ((s.runAgenda p (.write record true :: rest)).port p).ca.fetch = .wanted
      ∧ s.recordWaits p rest (s.runAgenda p (.write record true :: rest)) := by
  have taken : s.captureStep p (.write record true) = _ := State.takeInHand_some record true
  simp only [keep, Capture.recordUnit_placed placed, State.testUnit_fetches none h] at taken
  obtain ⟨ca, waits⟩ := State.runAgenda_brought (rest := rest)
    (f := fun ca => { ca with inHand := some { records := records, passed := false }, fetch := .wanted }) taken rfl
  exact ⟨by rw [ca], by rw [ca], waits rfl⟩

end

end

end

/-! ### The meeting of the freeze item (R150, R151, R176) -/

theorem CaptureMode.keep_of {mode : CaptureMode} (active : mode ≠ .off) (other : mode ≠ .history) : mode = .keep := by
  cases mode with
  | keep => rfl
  | history => exact absurd rfl other
  | off => exact absurd rfl active

/-- A freeze item that waits alone is the next input (R150). -/
theorem Port.nextInput_freezeAlone {v : Port} {it : EventItem} (freeze : it.action = .freeze)
    (events : v.ca.events = [it]) : v.nextInput = some (.item it) := by
  simp [Port.nextInput, events, EventItem.isFreeze, freeze]

/-- The records of a freeze item at a port whose capture is not muted: the open DATA record, an open TX record, and
the FROZEN mark with its pattern (R150, R151, log 38). -/
theorem Port.itemSteps_freeze {v : Port} {position : Word} {i : PatternId} (trigger : v.freeze.trigger = some i)
    (unmuted : v.captureMuted = false) (time now : Word) : v.itemSteps (.mk position time .freeze) now =
      (v.ca.openData.toList.map (fun d => CaptureRecord.data d .event)
        ++ v.ca.openTx.toList.map (fun x => CaptureRecord.tx x position)
        ++ [CaptureRecord.mark .frozen (BitVec.ofNat 32 i.val) now position]).map fun r => .write r true := by
  cases opened : v.ca.openData <;>
    simp [Port.itemSteps, Port.closeData, opened, EventItem.closeCause, EventItem.followUp, unmuted, trigger]

/-- A freeze item has been taken: the port is FROZEN with its notice and its cause, its open DATA record closed and an
open TX record taken from its sending (R150, R176, logs 18 and 40). -/
structure State.freezeTaken (s : State) (p : PortId) (u : State) : Prop where
  own : u.port p = { s.port p with
    ca := { (s.port p).ca with
      events := (s.port p).ca.events.filter fun x => x.action ≠ .freeze
      openData := none
      openTx := none
      txTaken := (s.port p).ca.txTaken || (s.port p).ca.openTx.isSome }
    freeze := { (s.port p).freeze with state := .frozen }
    status := { (s.port p).status with
      changed := true, noticeCount := (s.port p).status.noticeCount + 1, lastNotice := .frozen } }
  attention : u.attention = s.attention ||| 1#10 <<< 4
  partTime : u.partTime = s.partTime
  tsu : u.tsu = s.tsu
  elsewhere : s.sameElsewhere p u

theorem State.freezeTaken_itemFrozen (s : State) (p : PortId) {it : EventItem} (freeze : it.action = .freeze) :
    s.freezeTaken p (s.itemFrozen p it) where
  own := by
    rw [State.itemFrozen, State.notice_port_same, State.modPort_own, State.itemClosed, State.modPort_own,
      Capture.removeItem_freeze _ freeze]
    simp
  attention := by
    rw [State.itemFrozen, State.notice_attention _ p (c := .freeze) rfl]
    rfl
  partTime := by simp [State.itemFrozen, State.itemClosed, State.partTime]
  tsu := by simp [State.itemFrozen, State.itemClosed]
  elsewhere q hq := by
    rw [State.itemFrozen, State.notice_port_ne _ p _ hq, State.port_modPort_ne _ _ hq, State.itemClosed,
      State.port_modPort_ne _ _ hq]

section
variable {s u t : State} {p : PortId}

/-- The freeze comes about at the meeting, and its records follow it (log 18). -/
theorem State.meetItem_freezeTaken {position : Word} {i : PatternId} (trigger : (s.port p).freeze.trigger = some i)
    (unmuted : (s.port p).captureMuted = false) (time : Word) : ∃ u, s.freezeTaken p u
      ∧ s.meetItem p (.mk position time .freeze) = u.runAgenda p
        (((s.port p).ca.openData.toList.map (fun d => CaptureRecord.data d .event)
          ++ (s.port p).ca.openTx.toList.map (fun x => CaptureRecord.tx x position)
          ++ [CaptureRecord.mark .frozen (BitVec.ofNat 32 i.val) s.partTime position]).map fun r => .write r true) :=
  ⟨_, s.freezeTaken_itemFrozen p rfl, by
    rw [← Port.itemSteps_freeze trigger unmuted time, State.meetItem_freeze rfl]⟩

variable (taken : s.freezeTaken p u)
include taken

/-- What the first record of a met freeze item leaves where it is not discarded (R150, R176). -/
theorem State.freezeTaken.waits {rest : List CaptureStep} (waits : u.recordWaits p rest t) :
    (t.port p).ca.agenda = rest ∧ (t.port p).ca.gap = (s.port p).ca.gap
      ∧ (t.port p).status.noticeCount = (s.port p).status.noticeCount + 1
      ∧ (t.port p).status.lastNotice = .frozen ∧ t.attention = s.attention ||| 1#10 <<< 4 := by
  obtain ⟨agenda, gap, noticeCount, lastNotice, attention⟩ := waits
  rw [taken.own] at gap noticeCount lastNotice
  exact ⟨agenda, gap, noticeCount, lastNotice, attention.trans taken.attention⟩

section
variable {record : CaptureRecord} {rest : List CaptureStep} {records : List UnitRecord}
  (placed : records = placeRecords (s.port p).ca.areaSize (s.port p).ca.writePosition.toNat
    ((s.port p).ca.gap.toList.map UnitRecord.gap ++ [.record record]))
include placed

/-- In HISTORY, and where it has room, the first record of a freeze item waits for its grants (R139, R140). -/
theorem State.freezeTaken.passes (active : (s.port p).ca.mode ≠ .off) (h : (s.port p).ca.mode = .history
      ∨ (s.port p).ca.hasRoom { records := records, passed := false } = true) :
    ((u.runAgenda p (.write record true :: rest)).port p).ca.inHand = some { records := records, passed := true }
      ∧ u.recordWaits p rest (u.runAgenda p (.write record true :: rest)) := by
  refine State.runAgenda_passes (by rw [taken.own]; exact placed) ?_
  rw [taken.own]
  by_cases history : (s.port p).ca.mode = .history
  · exact .inl history
  · exact .inr ⟨CaptureMode.keep_of active history, h.resolve_left history⟩

/-- In KEEP a first record without room asks for the read mark (R140, R142). -/
theorem State.freezeTaken.fetches (keep : (s.port p).ca.mode = .keep)
    (full : ¬ (s.port p).ca.hasRoom { records := records, passed := false } = true)
    (h : (s.port p).ca.state ≠ .full ∨ (s.port p).ca.lastFetch ≠ some s.partTime) :
    ((u.runAgenda p (.write record true :: rest)).port p).ca.inHand = some { records := records, passed := false }
      ∧ ((u.runAgenda p (.write record true :: rest)).port p).ca.fetch = .wanted
      ∧ u.recordWaits p rest (u.runAgenda p (.write record true :: rest)) :=
  State.runAgenda_fetches (by rw [taken.own]; exact placed) (by rw [taken.own]; exact keep)
    (by rw [taken.own]; exact full) (by rw [taken.own, taken.partTime]; exact h)

end

end

/-! ### THAW (R152) -/

section
variable {s : State} {p : PortId}

/-- The freeze after a THAW: LIVE, with nothing counted (R152). -/
def Freeze.thawed (f : Freeze) : Freeze := { f with state := .live, remaining := 0, trigger := none }

/-- The port with its freeze returned to LIVE (R152). -/
def State.freezeThawed (s : State) (p : PortId) : State :=
  s.modPort p fun v => { v with freeze := v.freeze.thawed }

theorem State.thaw_live (live : (s.port p).freeze.state = .live) : s.thaw p = (s, 0) := by
  simp [State.thaw, live]

theorem State.thaw_counting (counting : (s.port p).freeze.state = .counting) : s.thaw p =
    ((s.freezeThawed p).modPort p fun v =>
      { v with ca := { v.ca with events := v.ca.events.filter fun x => !x.isFreeze } }, 0) := by
  simp only [State.thaw, counting]
  rfl

theorem State.thaw_frozen (frozen : (s.port p).freeze.state = .frozen) : s.thaw p =
    ((s.freezeThawed p).handItem p (.thaw (s.port p).ca.gapCount), (s.port p).ca.gapCount) := by
  simp only [State.thaw, frozen]
  rfl

/-! ### The meeting of a thaw item (R153) -/

/-- A thaw item is followed by the pending gap's GAP and the THAWED mark (R153). -/
theorem EventItem.followUp_thaw {v : Port} {position time : Word} {c : Nat} (unmuted : v.captureMuted = false)
    (now : Word) : (EventItem.mk position time (.thaw c)).followUp v now =
      [.writeGap, .write (.mark .thawed (BitVec.ofNat 32 c) time position) true] := by
  simp [EventItem.followUp, EventItem.markSteps, unmuted]

section
variable {position time : Word} {c : Nat}

section
variable (unmuted : (s.port p).captureMuted = false)
include unmuted

/-- The steps of a thaw item: the open DATA record, the pending gap's GAP, the THAWED mark (R153). -/
theorem State.meetThaw_steps : ∃ u, s.itemTaken p (.mk position time (.thaw c)) u
    ∧ s.meetItem p (.mk position time (.thaw c)) = u.runAgenda p ((s.port p).closeData .event
      ++ [.writeGap, .write (.mark .thawed (BitVec.ofNat 32 c) time position) true]) := by
  obtain ⟨u, taken, met, _⟩ := State.meetItem_taken (s := s) (p := p) (it := .mk position time (.thaw c)) (by simp)
  rw [Port.itemSteps, EventItem.followUp_thaw unmuted] at met
  exact ⟨u, taken, met⟩

variable (history : (s.port p).ca.mode = .history)
include history

/-- The open DATA record comes into hand, and GAP and THAWED wait behind it (R153). -/
theorem State.meetThaw_closes {d : DataRecord} (opened : (s.port p).ca.openData = some d) :
    ((s.meetItem p (.mk position time (.thaw c))).port p).ca.inHand =
        some ((s.port p).ca.unitWith [.record (.data d .event)])
      ∧ ((s.meetItem p (.mk position time (.thaw c))).port p).ca.agenda =
        [.writeGap, .write (.mark .thawed (BitVec.ofNat 32 c) time position) true] := by
  obtain ⟨u, taken, met⟩ := State.meetThaw_steps unmuted
  rw [met, Port.closeData_some opened, List.singleton_append,
    State.runAgenda_record (by rw [taken.own]; exact history), taken.own]
  exact ⟨rfl, rfl⟩

variable (closed : (s.port p).ca.openData = none)
include closed

/-- Where no record is open, the pending gap's GAP comes into hand, and THAWED waits behind it (R153). -/
theorem State.meetThaw_gap {g : PendingGap} (gap : (s.port p).ca.gap = some g) :
    ((s.meetItem p (.mk position time (.thaw c))).port p).ca.inHand = some {
        records := placeRecords (s.port p).ca.areaSize (s.port p).ca.writePosition.toNat [.gap g]
        passed := true }
      ∧ ((s.meetItem p (.mk position time (.thaw c))).port p).ca.agenda =
        [.write (.mark .thawed (BitVec.ofNat 32 c) time position) true] := by
  obtain ⟨u, taken, met⟩ := State.meetThaw_steps unmuted
  have brought : u.captureStep p .writeGap = _ :=
    State.takeInHand_gap (g := g) (by rw [taken.own]; exact history) (by rw [taken.own]; exact gap)
  obtain ⟨ca, _⟩ := State.runAgenda_brought (f := fun ca => { ca with inHand := _ }) brought rfl
  rw [met, Port.closeData_none closed, List.nil_append, ca, taken.own]
  exact ⟨rfl, rfl⟩

/-- With no record open and no pending gap the THAWED mark comes into hand (R153). -/
theorem State.meetThaw_mark (inHand : (s.port p).ca.inHand = none) (gap : (s.port p).ca.gap = none) :
    ((s.meetItem p (.mk position time (.thaw c))).port p).ca.inHand =
        some ((s.port p).ca.unitWith [.record (.mark .thawed (BitVec.ofNat 32 c) time position)])
      ∧ ((s.meetItem p (.mk position time (.thaw c))).port p).ca.agenda = [] := by
  obtain ⟨u, taken, met⟩ := State.meetThaw_steps unmuted
  have same : u.captureStep p .writeGap = u := State.takeInHand_noGap (by rw [taken.own]; exact gap)
  rw [met, Port.closeData_none closed, List.nil_append,
    State.runAgenda_skips same (by rw [taken.own]; exact inHand),
    State.runAgenda_record (by rw [taken.own]; exact history), taken.own]
  exact ⟨rfl, rfl⟩

end

/-- In HISTORY the pending gap stands until its GAP is issued (R138). -/
theorem State.meetThaw_gapKept (history : (s.port p).ca.mode = .history) :
    ((s.meetItem p (.mk position time (.thaw c))).port p).ca.gap = (s.port p).ca.gap := by
  obtain ⟨u, taken, met, _⟩ := State.meetItem_taken (s := s) (p := p) (it := .mk position time (.thaw c)) (by simp)
  rw [met, State.runAgenda_gapKept ((s.port p).itemSteps_brings _ _) (by rw [taken.own]; simp [history]), taken.own]

end

end

/-- Settles O55: the count by each byte and by each run, the meeting of the freeze item by the port it freezes and the
first record it brings, THAW by the state of the freeze, and the meeting of a thaw item by the records it brings. -/
theorem freezeFollowsItsTrigger : Obligations.FreezeFollowsItsTrigger := by
  refine ⟨fun v sequence now i active unsettled live => ⟨fun count => ?_, fun count => ?_,
      Port.freezeByte_live live sequence now⟩,
    fun v sequence now n i active unsettled counting remaining => ?_,
    fun v run now active unsettled none => ⟨fun counting left short => ?_, fun counting left enough => ?_,
      fun i place live trigger inside => ⟨fun short => ?_, fun enough => ?_⟩⟩,
    fun s p position time i r more records need on inUse events inHand agenda active unsettled counting trigger
      firstEq recordsEq needEq => ?_,
    fun s p => ⟨State.thaw_live, fun counting => ?_, fun frozen => ?_⟩,
    fun s p position time c rest thawed on inUse fifo runs inHand agenda events ordinary thawedEq => ?_⟩
  · rw [Port.freezeByte_trigger sequence now active unsettled i live, if_neg count.ne', Freeze.countFrom]
  · rw [Port.freezeByte_trigger sequence now active unsettled i live, if_pos count]
    exact ⟨rfl, Port.mem_handFreeze ..⟩
  · rw [Port.freezeByte_counts sequence now active unsettled i counting remaining]
    refine ⟨?_, fun more => by rw [if_neg more.ne'], fun last => ?_⟩
    · split <;> rfl
    · rw [if_pos last]
      exact Port.mem_handFreeze ..
  · exact Port.loseRun_passes active unsettled now none (Freeze.meetRun_counts counting left short)
  · obtain ⟨freeze, handed, gap, rest⟩ :=
      Port.loseRun_enters active unsettled now none (Freeze.meetRun_countEnds counting left enough)
    refine ⟨freeze, handed, gap, fun all => ?_, fun more => ?_⟩
    · rw [rest, LossRun.after_all all.ge, List.nil_append]
    · obtain ⟨run', after, sequence, count⟩ := LossRun.after_rest more
      exact ⟨run', by rw [rest, after, List.singleton_append], sequence, count⟩
  · obtain ⟨freeze, _, events, gap⟩ :=
      Port.loseRun_passes active unsettled now none (Freeze.meetRun_starts live trigger inside short)
    exact ⟨freeze, events, gap⟩
  · obtain ⟨freeze, handed, gap, _⟩ :=
      Port.loseRun_enters active unsettled now none (Freeze.meetRun_startsAndEnds live trigger inside enough)
    exact ⟨freeze, handed, gap⟩
  · have unmuted : (s.port p).captureMuted = false := by simp [Port.captureMuted, active, unsettled, counting]
    obtain ⟨u, taken, met⟩ := State.meetItem_freezeTaken (position := position) trigger unmuted time
    rw [firstEq, List.map_cons] at met
    have frame := State.recordFrame_runAgenda (s := u) (p := p)
      (steps := .write r true :: more.map fun x => .write x true) (by simp [CaptureStep.brings])
    have port := frame.own
    rw [taken.own, events] at port
    have fits : (s.port p).ca.hasRoom { records := records, passed := false } = true ↔ need ≤ (s.port p).ca.areaSize :=
      needEq ▸ Capture.hasRoom_iff
    have passes (h : (s.port p).ca.mode = .history ∨ need ≤ (s.port p).ca.areaSize) :=
      taken.passes (rest := more.map fun x => .write x true) recordsEq active (h.imp_right fits.2)
    have fetches (keep : (s.port p).ca.mode = .keep) (exceeds : (s.port p).ca.areaSize < need) :=
      taken.fetches (rest := more.map fun x => .write x true) recordsEq keep (fits.not.2 (Nat.not_le.2 exceeds))
    refine ⟨_, exec_caMeetInput_met on inUse inHand agenda (Port.nextInput_freezeAlone rfl events), ?_⟩
    rw [State.meetInput, met]
    refine ⟨by rw [port], by rw [port]; simp, by rw [port], by rw [port], by rw [port],
      State.runAgenda_attention (by simp [taken.attention]), fun h => (passes h).1, fun keep exceeds h => ?_,
      fun h => taken.waits ?_, by rw [port], by rw [port], State.sameElsewhere.trans taken.elsewhere frame.elsewhere,
      (u.agendaFrame_runAgenda p _).tsu.trans taken.tsu⟩
    · obtain ⟨waiting, wanted, _⟩ := fetches keep exceeds h
      exact ⟨waiting, wanted⟩
    · by_cases passing : (s.port p).ca.mode = .history ∨ need ≤ (s.port p).ca.areaSize
      · exact (passes passing).2
      · obtain ⟨unread, exceeds⟩ := not_or.1 passing
        obtain ⟨_, _, waits⟩ := fetches (CaptureMode.keep_of active unread) (Nat.not_le.1 exceeds)
          ((h.resolve_left unread).resolve_left exceeds)
        exact waits
  · rw [State.thaw_counting counting]
    refine ⟨rfl, by simp [State.freezeThawed, Freeze.thawed], by simp [State.freezeThawed], fun it mem => ?_⟩
    have kept : it.isFreeze = false := by
      simp only [State.port_modPort_same, Port.noting_ca, List.mem_filter] at mem
      simpa using mem.2
    exact of_decide_eq_false kept
  · rw [State.thaw_frozen frozen]
    refine ⟨rfl, by simp [State.freezeThawed, Freeze.thawed], fun on inUse events => ?_⟩
    rw [State.handItem_first (s := s.freezeThawed p) (State.listening_of on inUse) (by simpa [State.freezeThawed]) rfl]
    simp [State.freezeThawed, State.partTime]
  · have next : (s.port p).nextInput = some (.item (.mk position time (.thaw c))) :=
      Port.nextInput_item events (by rw [events]; exact List.forall_mem_cons.2 ⟨by simp, ordinary⟩)
        (by simp [fifo]) (by simp [runs])
    obtain ⟨u, taken, met, frame⟩ :=
      State.meetItem_taken (s := s) (p := p) (it := .mk position time (.thaw c)) (by simp)
    have port := frame.own
    rw [taken.own, events, List.tail_cons] at port
    subst thawedEq
    refine ⟨_, exec_caMeetInput_met on inUse inHand agenda next, ?_⟩
    rw [State.meetInput]
    refine ⟨by rw [port], by rw [port], by rw [port], fun history unsettled unfrozen => ?_, fun closed muted => ?_,
      by rw [port], State.sameElsewhere.trans taken.only.2.1 frame.elsewhere, ?_⟩
    · have unmuted : (s.port p).captureMuted = false := by simp [Port.captureMuted, history, unsettled, unfrozen]
      refine ⟨State.meetThaw_gapKept history, fun d => State.meetThaw_closes unmuted history,
        fun g closed => State.meetThaw_gap unmuted history closed, fun closed gap => ?_⟩
      obtain ⟨mark, rest⟩ :=
        State.meetThaw_mark (position := position) (time := time) (c := c) unmuted history closed inHand gap
      exact ⟨by rw [mark, Capture.unitWith, gap]; rfl, rest⟩
    · rw [← inHand]
      exact State.meetItem_muted (by simp) closed (by simpa [Port.captureMuted, or_assoc] using muted)
    · rw [met, (u.agendaFrame_runAgenda p _).tsu]
      obtain ⟨⟨_, _, _, _, _, tsu, _⟩, _⟩ := taken.only
      exact tsu

end Sys2Proof.Machine
end

section
/-! SUPPORT. What messages make of the Host Memory Engine: the messages that leave behind the front of the grant order,
what falls due at a write to an attention register, and the pieces that leave; the statements on messages, attention
registers, the configuration write and the order of the link. -/

namespace Sys2Proof.Machine

/-! ### The front of the grant order (R169, R175, log 13) -/

theorem flushMessages_eq (out sent : List LinkItem) : flushMessages out sent =
    (out.dropWhile fun i => i = .message, (out.takeWhile fun i => i = .message).reverse ++ sent) := by
  induction out generalizing sent with
  | nil => rfl
  | cons i rest ih =>
    cases i with
    | message => simp [flushMessages, ih]
    | write w => rfl
    | read tag a n => rfl

theorem Hme.flush_on {h : Hme} (on : h.busMaster = true) : h.flush = { h with
    outgoing := h.outgoing.dropWhile fun i => i = .message
    sent := (h.outgoing.takeWhile fun i => i = .message).reverse ++ h.sent } := by
  rw [Hme.flush, if_pos on, flushMessages_eq]

theorem Hme.flush_off {h : Hme} (off : h.busMaster = false) : h.flush = h := by
  rw [Hme.flush, if_neg (by simp [off])]

/-- Messages that leave have been sent before and after. -/
@[simp] theorem Hme.messages_flush (h : Hme) : h.flush.messages = h.messages := by
  cases on : h.busMaster with
  | false => rw [Hme.flush_off on]
  | true =>
    rw [Hme.flush_on on]
    have moved : ((h.outgoing.dropWhile fun i => i = .message)
        ++ ((h.outgoing.takeWhile fun i => i = .message).reverse ++ h.sent)).Perm (h.outgoing ++ h.sent) := by
      rw [← List.append_assoc]
      refine .append_right _ ((List.perm_append_comm.trans ((List.reverse_perm _).append_right _)).trans ?_)
      rw [List.takeWhile_append_dropWhile]
    exact (moved.filter _).length_eq

/-! ### What messages change of the HME -/

/-- Only messages have joined or left: the writes that wait are as many, and all but the order and what has left is as
it was. -/
structure Hme.onlyMessages (h k : Hme) : Prop where
  kept : k = { h with outgoing := k.outgoing, sent := k.sent }
  queuedWrites : k.queuedWrites = h.queuedWrites

theorem Hme.onlyMessages.refl (h : Hme) : h.onlyMessages h := ⟨rfl, rfl⟩

theorem Hme.onlyMessages.of_eq {h k : Hme} (eq : k = h) : h.onlyMessages k := eq ▸ .refl h

theorem Hme.onlyMessages.trans {h k l : Hme} (hk : h.onlyMessages k) (kl : k.onlyMessages l) : h.onlyMessages l :=
  ⟨kl.kept.trans (by rw [hk.kept]), kl.queuedWrites.trans hk.queuedWrites⟩

theorem Hme.onlyMessages.reads {h k : Hme} (hk : h.onlyMessages k) : k.reads = h.reads := by rw [hk.kept]

theorem Hme.onlyMessages_flush (h : Hme) : h.onlyMessages h.flush := by
  refine ⟨?_, h.queuedWrites_flush⟩
  unfold Hme.flush
  split <;> rfl

theorem State.onlyMessages_sendMessage (s : State) : s.hme.onlyMessages s.sendMessage.hme := by
  unfold State.sendMessage
  split
  · have placed : s.hme.onlyMessages { s.hme with outgoing := s.hme.outgoing ++ [.message] } :=
      ⟨rfl, s.hme.queuedWrites_append _⟩
    exact placed.trans (Hme.onlyMessages_flush _)
  · exact .refl _

theorem State.onlyMessages_raiseBits (s : State) (bits : BitVec 10) : s.hme.onlyMessages (s.raiseBits bits).hme := by
  rcases s.raiseBits_cases bits with h | h <;> rw [h]
  · exact .refl _
  · exact State.onlyMessages_sendMessage { s with attention := s.attention ||| bits }

theorem State.onlyMessages_raise (s : State) (c : Cause) : s.hme.onlyMessages (s.raise c).hme :=
  s.onlyMessages_raiseBits c.bit

theorem State.onlyMessages_messageIfLive (s : State) : s.hme.onlyMessages s.messageIfLive.hme := by
  unfold State.messageIfLive
  split
  · exact s.onlyMessages_sendMessage
  · exact .refl _

/-! ### The place of a message (R175) -/

theorem State.sendMessage_unable {s : State} (unable : s.canSend = false) : s.sendMessage = s :=
  if_neg (by rw [← State.canSend, unable]; exact Bool.false_ne_true)

theorem State.sendMessage_able {s : State} (able : s.canSend = true) : s.sendMessage =
    { s with hme := Hme.flush { s.hme with outgoing := s.hme.outgoing ++ [.message] } } :=
  if_pos able

/-- What stands in front of the order with the new message behind it, as far as it is messages, has left. -/
theorem State.sendMessage_sent {s : State} (able : s.canSend = true) : s.sendMessage =
    { s with hme := { s.hme with
      outgoing := (s.hme.outgoing ++ [LinkItem.message]).dropWhile fun i => i = .message
      sent := ((s.hme.outgoing ++ [LinkItem.message]).takeWhile fun i => i = .message).reverse ++ s.hme.sent } } := by
  have on : s.hme.busMaster = true := (Bool.and_eq_true_iff.1 able).1
  rw [State.sendMessage_able able, Hme.flush_on (h := { s.hme with outgoing := s.hme.outgoing ++ [.message] }) on]

/-- Settles O9: the messages at the front are the new one alone, or none where something else is in front. -/
theorem messageTakesItsPlaceInTheGrantOrder : Obligations.MessageTakesItsPlaceInTheGrantOrder := by
  refine fun s => ⟨State.sendMessage_unable, fun able empty => ?_, fun item rest able order other => ?_⟩
  · rw [State.sendMessage_sent able]
    simp [empty]
  · rw [State.sendMessage_sent able]
    simp [order, other]

/-- A message that can be sent counts as sent, wherever its place. -/
theorem State.messages_sendMessage (s : State) :
    s.sendMessage.hme.messages = s.hme.messages + if s.canSend then 1 else 0 := by
  cases able : s.canSend with
  | false => simp [State.sendMessage_unable able]
  | true =>
    rw [State.sendMessage_able able, Hme.messages_flush]
    simp [Hme.messages, Nat.add_comm, Nat.add_left_comm]

/-! ### Writes to the attention registers (R174, R175) -/

theorem exec_attentionWrite (v : Word) (s : State) : exec (.attentionWrite v) s = .next (s.writeAttention v) := rfl

theorem exec_attnEnableWrite (v : Word) (s : State) : exec (.attnEnableWrite v) s = .next (s.writeAttnEnable v) := rfl

theorem exec_attnForceWrite (v : Word) (s : State) : exec (.attnForceWrite v) s = .next (s.writeAttnForce v) := rfl

theorem State.messages_messageIfLive (s : State) : s.messageIfLive.hme.messages
    = s.hme.messages + if s.attention &&& s.attnEnable ≠ 0 ∧ s.canSend then 1 else 0 := by
  unfold State.messageIfLive State.liveSet
  split
  · next live => simp only [State.messages_sendMessage, ne_eq, live, not_false_eq_true, true_and]
  · next dead => rw [if_neg fun h => dead h.1, Nat.add_zero]

theorem State.messages_raiseBits (s : State) (bits : BitVec 10) : (s.raiseBits bits).hme.messages = s.hme.messages
    + if s.attention &&& s.attnEnable = 0 ∧ (s.attention ||| bits) &&& s.attnEnable ≠ 0 ∧ s.canSend then 1 else 0 := by
  have due : (s.liveSet = 0 && ({ s with attention := s.attention ||| bits } : State).liveSet ≠ 0) = true
      ↔ s.attention &&& s.attnEnable = 0 ∧ (s.attention ||| bits) &&& s.attnEnable ≠ 0 := by
    rw [Bool.and_eq_true_iff]
    exact and_congr decide_eq_true_iff decide_eq_true_iff
  unfold State.raiseBits
  dsimp only
  split
  · next now =>
    obtain ⟨dead, live⟩ := due.1 now
    rw [State.messages_sendMessage]
    exact congrArg (s.hme.messages + ·) (if_congr ⟨fun able => ⟨dead, live, able⟩, fun h => h.2.2⟩ rfl rfl)
  · next never => rw [if_neg fun h => never (due.2 ⟨h.1, h.2.1⟩), Nat.add_zero]

theorem Cause.getLsbD_setWidth (c : Cause) (v : Word) : (v.setWidth 10).getLsbD c.index = v.getLsbD c.index := by
  cases c <;> simp [Cause.index]

theorem State.writeAttention_getLsbD (s : State) (v : Word) (c : Cause) :
    (s.writeAttention v).attention.getLsbD c.index = (s.attention.getLsbD c.index && !v.getLsbD c.index) := by
  have inside : c.index < 10 := by cases c <;> decide
  simp [State.writeAttention, inside]

theorem State.onlyAttention_messageIfLive (s : State) : s.onlyAttention s.messageIfLive := by
  simp [State.onlyAttention]

theorem State.onlyAttention_raiseBits (s : State) (bits : BitVec 10) : s.onlyAttention (s.raiseBits bits) := by
  simp [State.onlyAttention]

/-- Settles O8: the first two writes change their register and let a message fall due; the third raises causes. -/
theorem attentionRegistersActOnTheirCauses : Obligations.AttentionRegistersActOnTheirCauses := by
  refine ⟨fun v s => ⟨_, exec_attentionWrite v s, s.writeAttention_getLsbD v, by simp, ?_⟩,
    fun v s => ⟨_, exec_attnEnableWrite v s, fun c => ?_, by simp, ?_⟩,
    fun v s => ⟨_, exec_attnForceWrite v s, fun c => ?_, s.raiseBits_attnEnable _, ?_⟩⟩
  · have link := State.onlyMessages_messageIfLive { s with attention := s.attention &&& ~~~v.setWidth 10 }
    refine ⟨?_, link.queuedWrites, link.reads, State.onlyAttention_messageIfLive _⟩
    rw [State.writeAttention, State.messageIfLive_attention, State.messageIfLive_attnEnable]
    exact State.messages_messageIfLive _
  · rw [State.writeAttnEnable, State.messageIfLive_attnEnable, c.getLsbD_setWidth]
  · have link := State.onlyMessages_messageIfLive { s with attnEnable := v.setWidth 10 }
    refine ⟨?_, link.queuedWrites, link.reads, State.onlyAttention_messageIfLive _⟩
    rw [State.writeAttnEnable, State.messageIfLive_attention, State.messageIfLive_attnEnable]
    exact State.messages_messageIfLive _
  · rw [State.writeAttnForce, State.raiseBits_attention, BitVec.getLsbD_or, c.getLsbD_setWidth]
  · have link := s.onlyMessages_raiseBits (v.setWidth 10)
    refine ⟨?_, link.queuedWrites, link.reads, s.onlyAttention_raiseBits _⟩
    rw [State.writeAttnForce, State.raiseBits_attention, State.raiseBits_attnEnable]
    exact s.messages_raiseBits _

/-! ### The configuration write (R173) -/

theorem exec_busMasterConfigChange (bm msg : Bool) (s : State) :
    exec (.busMasterConfigChange bm msg) s = .next (s.configure bm msg) := rfl

/-- Settles O31: after the settings only messages move, and only where bus mastering is enabled. -/
theorem configurationChangesOnlyTheSettings : Obligations.ConfigurationChangesOnlyTheSettings := by
  intro bm msg s
  have link : Hme.onlyMessages { s.hme with busMaster := bm, message := msg } (s.configure bm msg).hme :=
    Hme.onlyMessages_flush _
  refine ⟨_, exec_busMasterConfigChange bm msg s, by rw [link.kept], by rw [link.kept], link.reads, link.queuedWrites,
    Hme.messages_flush _, by rw [link.kept]; simp, fun off => ?_, rfl, rfl, rfl, rfl, rfl, rfl⟩
  rw [State.configure, Hme.flush_off off]
  exact ⟨rfl, rfl⟩

/-! ### The watch of a drain (R182) -/

theorem State.handSettle_link (s : State) :
    s.handSettle.hme = s.hme ∧ s.handSettle.attention = s.attention := by
  unfold State.handSettle
  dsimp only
  exact State.forPorts_keeps (P := fun u => u.hme = s.hme ∧ u.attention = s.attention)
    (fun p u hu => by simpa using hu) ⟨rfl, rfl⟩

theorem State.onlyMessages_enterStopped (s : State) : s.hme.onlyMessages s.enterStopped.hme := by
  have cleared := State.onlyMessages_raise (State.modPorts
    { s with bus := { s.bus with control := .stopped, settleHanded := false }, tsu := { s.tsu with timer := none } }
    fun _ v => { v with hold := Hold.clear, slu := { v.slu with tx := .free } }) .stopped
  rwa [State.modPorts_hme] at cleared

theorem State.onlyMessages_watchDrain (s : State) : s.hme.onlyMessages s.watchDrain.hme := by
  obtain ⟨settled, _⟩ := s.handSettle_link
  rcases s.watchDrain_cases with h | h | h | h <;> rw [h]
  · exact .refl _
  · exact .of_eq settled
  · exact s.onlyMessages_enterStopped
  · exact settled ▸ s.handSettle.onlyMessages_enterStopped

/-- The watch raises STOPPED at most, and clears no cause. -/
theorem State.watchDrain_attention_of {s : State} {i : Nat} (pending : s.attention.getLsbD i = true) :
    s.watchDrain.attention.getLsbD i = true := by
  obtain ⟨_, settled⟩ := s.handSettle_link
  rcases s.watchDrain_cases with h | h | h | h <;> rw [h]
  · exact pending
  · rw [settled, pending]
  · simp [State.enterStopped, pending]
  · simp [State.enterStopped, settled, pending]

/-! ### Pieces that leave (R169 to R171) -/

theorem exec_writePieceLeaves (s : State) : exec .writePieceLeaves s = .next s.writeLeaves.watchDrain := rfl

theorem exec_readPieceLeaves (s : State) : exec .readPieceLeaves s = .next s.readLeaves := rfl

section
variable {s : State}

/-- The front has left, and the messages right behind it. -/
theorem State.frontLeft_hme (on : s.hme.busMaster = true) (item : LinkItem) (rest : List LinkItem) :
    (s.frontLeft item rest).hme = { s.hme with
      outgoing := rest.dropWhile fun i => i = .message
      sent := (rest.takeWhile fun i => i = .message).reverse ++ item :: s.hme.sent } :=
  Hme.flush_on on

theorem State.frontLeft_queuedWrites (item : LinkItem) (rest : List LinkItem) :
    (s.frontLeft item rest).hme.queuedWrites = ({ s.hme with outgoing := rest } : Hme).queuedWrites :=
  Hme.queuedWrites_flush _

theorem State.writeLeaves_front {w : WritePiece} {rest : List LinkItem} (on : s.hme.busMaster = true)
    (order : s.hme.outgoing = .write w :: rest) : s.writeLeaves =
      if w.raisesTask then (s.frontLeft (.write w) rest).raise .task else s.frontLeft (.write w) rest := by
  simp only [State.writeLeaves, on, order, if_true]

/-- Only the oldest write may leave, and a read in front must leave first. -/
theorem State.writeLeaves_waits
    (h : s.hme.busMaster = false ∨ ∀ w rest, s.hme.outgoing ≠ .write w :: rest) : s.writeLeaves = s := by
  unfold State.writeLeaves
  split
  · next on =>
    split
    · next w rest order => exact absurd order (h.resolve_left (by simp [on]) w rest)
    all_goals rfl
  · rfl

theorem State.onlyMessages_writeLeaves {w : WritePiece} {rest : List LinkItem} (on : s.hme.busMaster = true)
    (order : s.hme.outgoing = .write w :: rest) :
    (s.frontLeft (.write w) rest).hme.onlyMessages s.writeLeaves.hme := by
  rw [State.writeLeaves_front on order]
  split
  · exact State.onlyMessages_raise _ .task
  · exact .refl _

theorem State.writeLeaves_attention {w : WritePiece} {rest : List LinkItem} (on : s.hme.busMaster = true)
    (order : s.hme.outgoing = .write w :: rest) :
    s.writeLeaves.attention = if w.raisesTask then s.attention ||| 1#10 else s.attention := by
  rw [State.writeLeaves_front on order]
  split
  · simp [Cause.bit, Cause.index]
  · rfl

/-- A write that leaves changes the attention registers and the link alone. -/
theorem State.onlyAttention_writeLeaves {w : WritePiece} {rest : List LinkItem} (on : s.hme.busMaster = true)
    (order : s.hme.outgoing = .write w :: rest) : s.onlyAttention s.writeLeaves := by
  rw [State.writeLeaves_front on order]
  split <;> simp [State.onlyAttention]

theorem State.readLeaves_front {tag : Nat} {a : Addr} {n : Nat} {rest : List LinkItem} (on : s.hme.busMaster = true)
    (order : s.hme.outgoing = .read tag a n :: rest) : s.readLeaves = { s.frontLeft (.read tag a n) rest with
      hme := { (s.frontLeft (.read tag a n) rest).hme with reads := markLeft tag (s.arm 50) s.hme.reads } } := by
  simp only [State.readLeaves, on, order, if_true, State.frontLeft, Hme.reads_flush]

theorem State.readLeaves_waits
    (h : s.hme.busMaster = false ∨ ∀ tag a n rest, s.hme.outgoing ≠ .read tag a n :: rest) : s.readLeaves = s := by
  unfold State.readLeaves
  split
  · next on =>
    split
    · next tag a n rest order => exact absurd order (h.resolve_left (by simp [on]) tag a n rest)
    all_goals rfl
  · rfl

end

theorem mem_markLeft_same {tag : Nat} {timer : Timer} {reads : List ReadEntry} {e : ReadEntry} (mem : e ∈ reads)
    (same : e.tag = tag) : { e with left := true, timer := some timer } ∈ markLeft tag timer reads :=
  List.mem_map.2 ⟨e, mem, if_pos same⟩

theorem mem_markLeft_other {tag : Nat} {timer : Timer} {reads : List ReadEntry} {e : ReadEntry} (mem : e ∈ reads)
    (other : e.tag ≠ tag) : e ∈ markLeft tag timer reads :=
  List.mem_map.2 ⟨e, mem, if_neg other⟩

/-- Settles O28: a write leaves with its cause and the drain watched, a read with its timeout armed. -/
theorem piecesLeaveInGrantOrder : Obligations.PiecesLeaveInGrantOrder := by
  refine ⟨fun s w rest on order => ?_, fun s calm waits => ?_, fun s tag a n rest on order => ?_, fun s waits => ?_⟩
  · have left := State.onlyMessages_writeLeaves on order
    have link := left.trans s.writeLeaves.onlyMessages_watchDrain
    have attention := State.writeLeaves_attention on order
    have frame := State.onlyAttention_writeLeaves on order
    refine ⟨_, exec_writePieceLeaves s, ?_, ?_, fun task => ?_, fun calm => ?_, fun calm quiet => ?_⟩
    · rw [link.queuedWrites, State.frontLeft_queuedWrites]
      simp [Hme.queuedWrites, order]
    · rw [link.reads, State.frontLeft_hme on]
    · refine State.watchDrain_attention_of ?_
      simp [attention, task]
    · obtain ⟨_, time, bus, tsu, patterns, scanner, ports, _⟩ := frame
      rw [State.watchDrain_same (bus ▸ calm)]
      exact ⟨attention, ports, tsu, bus, patterns, scanner, time⟩
    · obtain ⟨_, _, bus, _⟩ := frame
      rw [State.watchDrain_same (bus ▸ calm), State.writeLeaves_front on order, if_neg (by simp [quiet]),
        State.frontLeft_hme on]
  · rw [exec_writePieceLeaves, State.writeLeaves_waits waits, State.watchDrain_same calm]
  · refine ⟨_, exec_readPieceLeaves s, ?_⟩
    rw [State.readLeaves_front on order, State.frontLeft_hme on]
    refine ⟨fun e => mem_markLeft_same, fun e => mem_markLeft_other, List.length_map _, ?_, rfl, rfl, rfl, rfl, rfl,
      rfl, rfl⟩
    have writes := State.frontLeft_queuedWrites (s := s) (.read tag a n) rest
    rw [State.frontLeft_hme on] at writes
    exact writes.trans (by simp [Hme.queuedWrites, order])
  · rw [exec_readPieceLeaves, State.readLeaves_waits waits]

end Sys2Proof.Machine
end

section
/-! SUPPORT. The cutting of a request into pieces, piece by piece from its address on; the statement on pieces. -/

namespace Sys2Proof.Machine

/-! ### Pieces (R168) -/

theorem toNat_addrPlus_mod (a : Addr) (n : Nat) : (addrPlus a n).toNat % 1024 = (a.toNat + n) % 1024 := by
  simp only [addrPlus, BitVec.toNat_add, BitVec.toNat_ofNat]
  omega

theorem addrPlus_addrPlus (a : Addr) (m n : Nat) : addrPlus (addrPlus a m) n = addrPlus a (m + n) := by
  simp only [addrPlus, BitVec.ofNat_add, BitVec.add_assoc]

/-- The length of the first piece: to the end of the request, to the next multiple of 1024, or 512 bytes. -/
def firstPiece (a : Addr) (len : Nat) : Nat := min len (min (1024 - a.toNat % 1024) 512)

theorem cutPieces_empty (fuel : Nat) (a : Addr) : cutPieces fuel a 0 = [] := by
  cases fuel <;> rfl

theorem cutPieces_succ (fuel : Nat) (a : Addr) {len : Nat} (nonzero : len ≠ 0) : cutPieces (fuel + 1) a len =
    (a, firstPiece a len) :: cutPieces fuel (addrPlus a (firstPiece a len)) (len - firstPiece a len) :=
  if_neg nonzero

theorem firstPiece_fits (a : Addr) {len : Nat} (nonzero : len ≠ 0) :
    1 ≤ firstPiece a len ∧ firstPiece a len ≤ 512 ∧ a.toNat % 1024 + firstPiece a len ≤ 1024 := by
  unfold firstPiece
  omega

/-- A first piece that is not the whole request ends after 512 bytes or at a multiple of 1024. -/
theorem firstPiece_cut {a : Addr} {len : Nat} (more : len - firstPiece a len ≠ 0) :
    firstPiece a len = 512 ∨ (a.toNat + firstPiece a len) % 1024 = 0 := by
  unfold firstPiece at *
  omega

theorem cutPieces_fit (fuel : Nat) (a : Addr) (len : Nat) :
    ∀ x ∈ cutPieces fuel a len, 1 ≤ x.2 ∧ x.2 ≤ 512 ∧ x.1.toNat % 1024 + x.2 ≤ 1024 := by
  induction fuel generalizing a len with
  | zero => exact fun x mem => absurd mem List.not_mem_nil
  | succ fuel ih =>
    by_cases empty : len = 0
    · rw [empty, cutPieces_empty]
      exact fun x mem => absurd mem List.not_mem_nil
    · rw [cutPieces_succ fuel a empty, List.forall_mem_cons]
      exact ⟨firstPiece_fits a empty, ih _ _⟩

/-- Each piece begins where the pieces before it end. -/
theorem cutPieces_place {fuel : Nat} {a : Addr} {len i : Nat} {b : Addr} {m : Nat}
    (piece : (cutPieces fuel a len)[i]? = some (b, m)) :
    b = addrPlus a (((cutPieces fuel a len).take i).map Prod.snd).sum := by
  induction fuel generalizing a len i with
  | zero => simp [cutPieces] at piece
  | succ fuel ih =>
    by_cases empty : len = 0
    · simp [empty, cutPieces_empty] at piece
    · rw [cutPieces_succ fuel a empty] at piece ⊢
      cases i with
      | zero =>
        obtain ⟨rfl, _⟩ : a = b ∧ firstPiece a len = m := by simpa using piece
        simp [addrPlus]
      | succ i =>
        rw [List.take_succ_cons, List.map_cons, List.sum_cons, ← addrPlus_addrPlus]
        exact ih (by simpa using piece)

/-- A piece with another behind it ends after 512 bytes or at a multiple of 1024. -/
theorem cutPieces_cut {fuel : Nat} {a : Addr} {len i : Nat} {b : Addr} {m : Nat}
    (piece : (cutPieces fuel a len)[i]? = some (b, m)) (more : i + 1 < (cutPieces fuel a len).length) :
    m = 512 ∨ (b.toNat + m) % 1024 = 0 := by
  induction fuel generalizing a len i with
  | zero => simp [cutPieces] at piece
  | succ fuel ih =>
    by_cases empty : len = 0
    · simp [empty, cutPieces_empty] at piece
    · rw [cutPieces_succ fuel a empty] at piece more
      cases i with
      | zero =>
        obtain ⟨rfl, rfl⟩ : a = b ∧ firstPiece a len = m := by simpa using piece
        refine firstPiece_cut fun whole => ?_
        simp [whole, cutPieces_empty] at more
      | succ i => exact ih (by simpa using piece) (by simpa using more)

/-- A request of at most 512 bytes that no multiple of 1024 cuts is one piece. -/
theorem sum_cutPieces_uncut (fuel : Nat) {a : Addr} {len : Nat} (short : len ≤ 512)
    (uncut : a.toNat % 1024 + len ≤ 1024) : ((cutPieces (fuel + 1) a len).map Prod.snd).sum = len := by
  by_cases empty : len = 0
  · simp [empty, cutPieces_empty]
  · have whole : firstPiece a len = len := by
      unfold firstPiece
      omega
    simp [cutPieces_succ fuel a empty, whole, cutPieces_empty]

/-- A request of at most 512 bytes meets at most one multiple of 1024, so that what is behind its first piece is cut no
more. -/
theorem sum_piecesOf {a : Addr} {n : Nat} (short : n ≤ 512) : ((piecesOf a n).map Prod.snd).sum = n := by
  by_cases uncut : a.toNat % 1024 + n ≤ 1024
  · exact sum_cutPieces_uncut 3 short uncut
  · have first : firstPiece a n = 1024 - a.toNat % 1024 := by
      unfold firstPiece
      omega
    have aligned := toNat_addrPlus_mod a (1024 - a.toNat % 1024)
    rw [piecesOf, cutPieces_succ 3 a (by omega), first, List.map_cons, List.sum_cons,
      sum_cutPieces_uncut 2 (by omega) (by omega)]
    omega

/-- Settles O25: bounds, places and cuts by the cutting's induction; the whole by its two pieces at most. -/
theorem piecesCoverTheRequest : Obligations.PiecesCoverTheRequest :=
  fun a n short => ⟨sum_piecesOf short, cutPieces_fit 4 a n,
    fun _ _ _ piece => ⟨cutPieces_place piece, cutPieces_cut piece⟩⟩

end Sys2Proof.Machine
end

section
/-! SUPPORT. The arbiter: what each class holds and serves, the order of the classes, and whose turn it is after a grant;
the statement on the arbiter. -/

namespace Sys2Proof.Machine

/-! ### Ports by a pointer (R172) -/

theorem mem_portsFrom (pointer p : PortId) : p ∈ portsFrom pointer :=
  List.mem_map.2 ⟨p - pointer, List.mem_finRange _, add_sub_cancel pointer p⟩

theorem firstFrom_eq_none {pointer : PortId} {ok : PortId → Bool} :
    firstFrom pointer ok = none ↔ ∀ p, ok p = false := by
  simp [firstFrom, List.find?_eq_none, mem_portsFrom]

/-- The port that a round finds is the first from the pointer on, wrapping, that passes the test. -/
theorem firstFrom_first {pointer p : PortId} {ok : PortId → Bool} (found : firstFrom pointer ok = some p)
    (i j : Fin 24) (place : pointer + i = p) (before : j < i) : ok (pointer + j) = false := by
  rw [firstFrom, portsFrom, ← List.ofFn_eq_map, ← place,
    List.find?_ofFn_eq_some_of_injective (add_right_injective pointer)] at found
  exact Bool.eq_false_iff.2 (found.2 j before)

/-! ### What the classes hold (R167, R172) -/

section
variable {s : State} {g : Grant}

theorem State.slotWriteGrant_eq_some : s.slotWriteGrant = some g ↔
    ∃ w, s.tsu.writes.head? = some w ∧ s.writeFits w.address w.bytes.length = true ∧ .slotWrite w = g := by
  unfold State.slotWriteGrant
  cases s.tsu.writes with
  | nil => simp
  | cons w rest => simp

theorem State.slotWriteGrant_eq_none : s.slotWriteGrant = none ↔
    ∀ w, s.tsu.writes.head? = some w → s.writeFits w.address w.bytes.length = false := by
  unfold State.slotWriteGrant
  cases s.tsu.writes with
  | nil => simp
  | cons w rest => simp

theorem State.statusGrant_eq_none : s.statusGrant = none ↔ ∀ p, s.statusReady p = false :=
  Option.map_eq_none_iff.trans firstFrom_eq_none

theorem State.readGrant_eq_none {make : Requester → Addr → Nat → Grant} {request : Option (Requester × Addr × Nat)} :
    s.readGrant make request = none ↔ ∀ r a n, request = some (r, a, n) → s.readFits a n = false := by
  unfold State.readGrant
  cases request with
  | none => simp
  | some x =>
    obtain ⟨r, a, n⟩ := x
    simp

theorem State.readGrant_eq_some {make : Requester → Addr → Nat → Grant} {request : Option (Requester × Addr × Nat)} :
    s.readGrant make request = some g ↔
      ∃ r a n, request = some (r, a, n) ∧ s.readFits a n = true ∧ make r a n = g := by
  unfold State.readGrant
  cases request with
  | none => simp
  | some x =>
    obtain ⟨r, a, n⟩ := x
    simp

theorem State.classOne_eq_none : s.classOne = none ↔ ¬ s.classOneReady := by
  have both : s.classOne = none ↔ s.slotWriteGrant = none ∧ s.statusGrant = none := by
    unfold State.classOne
    split
    · exact Option.orElse_eq_none ..
    · exact (Option.orElse_eq_none ..).trans And.comm
  rw [both, State.slotWriteGrant_eq_none, State.statusGrant_eq_none]
  simp [State.classOneReady]

theorem State.classTwo_eq_none : s.classTwo = none ↔ ¬ s.classTwoReady := by
  rw [State.classTwo, Option.orElse_eq_none, State.readGrant_eq_none, State.readGrant_eq_none]
  simp [State.classTwoReady]

theorem State.classThree_eq_none : s.classThree = none ↔ ∀ p, s.readMarkReady p = false :=
  Option.map_eq_none_iff.trans firstFrom_eq_none

/-- A port whose text fetch can be granted asks for one. -/
theorem State.textReady_iff {p : PortId} :
    s.textReady p = true ↔ ∃ a n, (s.port p).textRequest = some (a, n) ∧ s.readFits a n = true := by
  unfold State.textReady
  split
  · next none => simp [none]
  · next request => simp [request]

theorem State.classFour_eq_none : s.classFour = none ↔ ∀ p, s.textReady p = false := by
  rw [State.classFour, Option.bind_eq_none_iff, ← firstFrom_eq_none (pointer := s.hme.textPointer)]
  refine ⟨fun unmade => Option.eq_none_iff_forall_ne_some.2 fun p found => ?_, fun none p found => ?_⟩
  · obtain ⟨a, n, request, _⟩ := State.textReady_iff.1 (firstFrom_ok found)
    have made := unmade p found
    simp [State.textGrant, request] at made
  · exact absurd (none.symm.trans found) nofun

theorem State.classFive_eq_none : s.classFive = none ↔ ∀ p, s.captureReady p = false :=
  Option.map_eq_none_iff.trans firstFrom_eq_none

/-! ### What each class serves (R172) -/

/-- In class 1 each gives way to the other where it was the last one served. -/
theorem State.classOne_eq_some : s.classOne = some g ↔
    s.slotWriteGrant = some g ∧ (s.hme.tsuTurn = false → s.statusGrant = none)
      ∨ s.statusGrant = some g ∧ (s.hme.tsuTurn = true → s.slotWriteGrant = none) := by
  unfold State.classOne
  cases turn : s.hme.tsuTurn with
  | true => simp [and_comm]
  | false => simp [and_comm, or_comm]

theorem State.classOne_serves (chosen : s.classOne = some g) :
    (∃ w, g = .slotWrite w ∧ s.tsu.writes.head? = some w ∧ s.writeFits w.address w.bytes.length = true
      ∧ (s.hme.tsuTurn = false → ∀ p, s.statusReady p = false))
    ∨ ∃ p, g = .status p ∧ firstFrom s.hme.statusPointer s.statusReady = some p
      ∧ (s.hme.tsuTurn = true → ∀ w, s.tsu.writes.head? = some w →
        s.writeFits w.address w.bytes.length = false) := by
  rcases State.classOne_eq_some.1 chosen with ⟨made, way⟩ | ⟨made, way⟩
  · obtain ⟨w, first, fits, rfl⟩ := State.slotWriteGrant_eq_some.1 made
    exact .inl ⟨w, rfl, first, fits, fun turn => State.statusGrant_eq_none.1 (way turn)⟩
  · obtain ⟨p, found, rfl⟩ := Option.map_eq_some_iff.1 made
    exact .inr ⟨p, rfl, found, fun turn => State.slotWriteGrant_eq_none.1 (way turn)⟩

theorem State.classTwo_serves (chosen : s.classTwo = some g) :
    (∃ r a n, g = .sweepRead r a n ∧ s.sweepRequest = some (r, a, n) ∧ s.readFits a n = true)
    ∨ ∃ r a n, g = .enableRead r a n ∧ s.enableRequest = some (r, a, n) ∧ s.readFits a n = true := by
  rcases (Option.orElse_eq_some ..).1 chosen with made | ⟨_, made⟩
  · obtain ⟨r, a, n, request, fits, eq⟩ := State.readGrant_eq_some.1 made
    exact .inl ⟨r, a, n, eq.symm, request, fits⟩
  · obtain ⟨r, a, n, request, fits, eq⟩ := State.readGrant_eq_some.1 made
    exact .inr ⟨r, a, n, eq.symm, request, fits⟩

theorem State.classThree_serves (chosen : s.classThree = some g) :
    ∃ p, g = .readMark p ∧ firstFrom s.hme.markPointer s.readMarkReady = some p :=
  let ⟨p, found, eq⟩ := Option.map_eq_some_iff.1 chosen
  ⟨p, eq.symm, found⟩

theorem State.classFour_serves (chosen : s.classFour = some g) :
    ∃ p a n, g = .text p a n ∧ firstFrom s.hme.textPointer s.textReady = some p
      ∧ (s.port p).textRequest = some (a, n) ∧ s.readFits a n = true := by
  obtain ⟨p, found, made⟩ := Option.bind_eq_some_iff.1 chosen
  obtain ⟨a, n, request, fits⟩ := State.textReady_iff.1 (firstFrom_ok found)
  refine ⟨p, a, n, ?_, found, request, fits⟩
  simpa [State.textGrant, request] using made.symm

theorem State.classFive_serves (chosen : s.classFive = some g) :
    ∃ p, g = .capture p ∧ firstFrom s.hme.capturePointer s.captureReady = some p :=
  let ⟨p, found, eq⟩ := Option.map_eq_some_iff.1 chosen
  ⟨p, eq.symm, found⟩

/-! ### The order of the classes (R172) -/

theorem State.chosenGrant_eq_some : s.chosenGrant = some g ↔
    s.classOne = some g ∨ ¬ s.classOneReady ∧ (s.classTwo = some g ∨ ¬ s.classTwoReady ∧
      (s.classThree = some g ∨ (∀ p, s.readMarkReady p = false) ∧
        (s.classFour = some g ∨ (∀ p, s.textReady p = false) ∧ s.classFive = some g))) := by
  simp only [State.chosenGrant, Option.orElse_eq_some, State.classOne_eq_none, State.classTwo_eq_none,
    State.classThree_eq_none, State.classFour_eq_none]

theorem State.chosenGrant_eq_none : s.chosenGrant = none ↔
    ¬ s.classOneReady ∧ ¬ s.classTwoReady ∧ (∀ p, s.readMarkReady p = false) ∧ (∀ p, s.textReady p = false)
      ∧ ∀ p, s.captureReady p = false := by
  simp only [State.chosenGrant, Option.orElse_eq_none, State.classOne_eq_none, State.classTwo_eq_none,
    State.classThree_eq_none, State.classFour_eq_none, State.classFive_eq_none]

theorem State.chosenGrant_classOne (ready : s.classOneReady) : ∃ g, s.classOne = some g ∧ s.chosenGrant = some g := by
  obtain ⟨g, made⟩ := Option.ne_none_iff_exists'.1 fun none => State.classOne_eq_none.1 none ready
  exact ⟨g, made, State.chosenGrant_eq_some.2 (.inl made)⟩

section
variable (one : ¬ s.classOneReady)
include one

theorem State.chosenGrant_classTwo (ready : s.classTwoReady) : ∃ g, s.classTwo = some g ∧ s.chosenGrant = some g := by
  obtain ⟨g, made⟩ := Option.ne_none_iff_exists'.1 fun none => State.classTwo_eq_none.1 none ready
  exact ⟨g, made, State.chosenGrant_eq_some.2 (.inr ⟨one, .inl made⟩)⟩

variable (two : ¬ s.classTwoReady)
include two

theorem State.chosenGrant_classThree {p : PortId} (ready : s.readMarkReady p = true) :
    ∃ g, s.classThree = some g ∧ s.chosenGrant = some g := by
  obtain ⟨g, made⟩ := Option.ne_none_iff_exists'.1 fun none =>
    Bool.false_ne_true ((State.classThree_eq_none.1 none p).symm.trans ready)
  exact ⟨g, made, State.chosenGrant_eq_some.2 (.inr ⟨one, .inr ⟨two, .inl made⟩⟩)⟩

variable (three : ∀ p, s.readMarkReady p = false)
include three

theorem State.chosenGrant_classFour {p : PortId} (ready : s.textReady p = true) :
    ∃ g, s.classFour = some g ∧ s.chosenGrant = some g := by
  obtain ⟨g, made⟩ := Option.ne_none_iff_exists'.1 fun none =>
    Bool.false_ne_true ((State.classFour_eq_none.1 none p).symm.trans ready)
  exact ⟨g, made, State.chosenGrant_eq_some.2 (.inr ⟨one, .inr ⟨two, .inr ⟨three, .inl made⟩⟩⟩)⟩

theorem State.chosenGrant_classFive (four : ∀ p, s.textReady p = false) {p : PortId}
    (ready : s.captureReady p = true) : ∃ g, s.classFive = some g ∧ s.chosenGrant = some g := by
  obtain ⟨g, made⟩ := Option.ne_none_iff_exists'.1 fun none =>
    Bool.false_ne_true ((State.classFive_eq_none.1 none p).symm.trans ready)
  exact ⟨g, made, State.chosenGrant_eq_some.2 (.inr ⟨one, .inr ⟨two, .inr ⟨three, .inr ⟨four, made⟩⟩⟩⟩)⟩

end

end

/-! ### Whose turn it is after a grant (R172) -/

/-- The HME with the turn of class 1 given to the other of the two, and the pointer of the port served moved to the port
after it. -/
def Hme.turned (h : Hme) : Grant → Hme
  | .slotWrite _ => { h with tsuTurn := false }
  | .status p => { h with statusPointer := p + 1, tsuTurn := true }
  | .sweepRead _ _ _ | .enableRead _ _ _ => h
  | .readMark p => { h with markPointer := p + 1 }
  | .text p _ _ => { h with textPointer := p + 1 }
  | .capture p => { h with capturePointer := p + 1 }

/-- The turn of class 1 and the four pointers are alike. -/
structure Hme.sameTurns (h k : Hme) : Prop where
  tsuTurn : k.tsuTurn = h.tsuTurn
  statusPointer : k.statusPointer = h.statusPointer
  markPointer : k.markPointer = h.markPointer
  textPointer : k.textPointer = h.textPointer
  capturePointer : k.capturePointer = h.capturePointer

theorem Hme.sameTurns.trans {h k l : Hme} (hk : h.sameTurns k) (kl : k.sameTurns l) : h.sameTurns l :=
  ⟨kl.tsuTurn.trans hk.tsuTurn, kl.statusPointer.trans hk.statusPointer, kl.markPointer.trans hk.markPointer,
    kl.textPointer.trans hk.textPointer, kl.capturePointer.trans hk.capturePointer⟩

theorem Hme.onlyMessages.sameTurns {h k : Hme} (hk : h.onlyMessages k) : h.sameTurns k := by
  constructor <;> rw [hk.kept]

@[simp] theorem State.sweepOn_hme (s : State) (requested : Bool) (i : Nat) : (s.sweepOn requested i).hme = s.hme := by
  obtain ⟨_, _, _, h⟩ := s.sweepOn_frame requested i
  rw [h]

@[simp] theorem State.slotWriteIssued_hme (s : State) : s.slotWriteIssued.hme = s.hme := by
  unfold State.slotWriteIssued
  dsimp only
  split
  · rfl
  · split
    · exact State.sweepOn_hme ..
    · rfl

/-! ### What an agenda does to the HME (R131, R141, R176) -/

section
variable (s : State) (p : PortId)

theorem State.onlyMessages_notice (kind : NoticeKind) : s.hme.onlyMessages (s.notice p kind).hme := by
  unfold State.notice
  dsimp only
  split
  · exact .refl _
  · exact State.onlyMessages_raise (s.modPort p _) _

theorem State.onlyMessages_discardUnit (unit : WriteUnit) : s.hme.onlyMessages (s.discardUnit p unit).hme := by
  unfold State.discardUnit
  dsimp only
  split
  · exact State.onlyMessages_notice (State.modPort (s.modPort p _) p _) p .full
  · exact .refl _

theorem State.onlyMessages_testUnit (unit : WriteUnit) : s.hme.onlyMessages (s.testUnit p unit).hme := by
  unfold State.testUnit
  dsimp only
  split
  · exact .refl _
  · split
    · exact s.onlyMessages_discardUnit p unit
    · exact .refl _

theorem State.onlyMessages_takeInHand (record : Option CaptureRecord) (joinGap : Bool) :
    s.hme.onlyMessages (s.takeInHand p record joinGap).hme := by
  unfold State.takeInHand
  extract_lets ca gap records
  split
  · exact .refl _
  · split
    · exact .refl _
    · exact .refl _
    · exact s.onlyMessages_testUnit p _

theorem State.onlyMessages_captureStep (step : CaptureStep) : s.hme.onlyMessages (s.captureStep p step).hme := by
  cases step with
  | write record joinGap => exact s.onlyMessages_takeInHand p _ _
  | writeGap => exact s.onlyMessages_takeInHand p _ _
  | loseRun run met => exact .refl _

theorem State.onlyMessages_resumeAgenda : s.hme.onlyMessages (s.resumeAgenda p).hme :=
  State.runAgenda_keeps (P := fun t => s.hme.onlyMessages t.hme)
    (fun t c ht => ht.trans (t.onlyMessages_captureStep p c)) (fun _ _ ht => ht) _ (.refl _)

end

section
variable {s : State} {p : PortId} {r : UnitRecord}

/-- A port's CA issues the first record of a unit in hand that has passed its test. -/
theorem Capture.issuable_eq_some {ca : Capture} :
    ca.issuable = some r ↔ ∃ rest, ca.inHand = some { records := r :: rest, passed := true } := by
  unfold Capture.issuable
  cases inHand : ca.inHand with
  | none => simp
  | some u =>
    obtain ⟨records, passed⟩ := u
    cases records <;> cases passed <;> simp

theorem State.captureReady_iff : s.captureReady p = true ↔ ∃ r rest,
    (s.port p).ca.inHand = some { records := r :: rest, passed := true }
      ∧ s.writeFits (s.port p).ca.recordAddress (s.recordBytes p r).length = true := by
  have issues : s.captureReady p = true ↔ ∃ r, (s.port p).ca.issuable = some r
      ∧ s.writeFits (s.port p).ca.recordAddress (s.recordBytes p r).length = true := by
    unfold State.captureReady
    split
    · next none => simp [none]
    · next issuable => simp [issuable]
  simp only [issues, Capture.issuable_eq_some, exists_and_right]

/-- The records that follow in the unit or on the agenda leave the turns. -/
theorem State.issueCapture_turns (ready : s.captureReady p = true) :
    (s.hme.turned (.capture p)).sameTurns (s.issueCapture p).hme := by
  obtain ⟨r, rest, inHand, _⟩ := State.captureReady_iff.1 ready
  have issued : (s.hme.turned (.capture p)).sameTurns (s.recordIssued p r).hme := ⟨rfl, rfl, rfl, rfl, rfl⟩
  rw [State.issueCapture_eq inHand]
  split
  · exact issued.trans ((s.recordIssued p r).onlyMessages_resumeAgenda p).sameTurns
  · exact issued

end

theorem State.carryGrant_turns {s : State} {g : Grant} (chosen : s.chosenGrant = some g) :
    (s.hme.turned g).sameTurns (s.carryGrant g).hme := by
  cases g with
  | slotWrite w =>
    rw [State.carryGrant, State.issueSlotWrite, State.slotWriteIssued_hme]
    exact ⟨rfl, rfl, rfl, rfl, rfl⟩
  | sweepRead r a n =>
    rw [State.carryGrant, State.issueSweepRead]
    split <;> exact ⟨rfl, rfl, rfl, rfl, rfl⟩
  | capture p => exact State.issueCapture_turns (State.chosenGrant_fits chosen)
  | status p => exact ⟨rfl, rfl, rfl, rfl, rfl⟩
  | enableRead r a n => exact ⟨rfl, rfl, rfl, rfl, rfl⟩
  | readMark p => exact ⟨rfl, rfl, rfl, rfl, rfl⟩
  | text p a n => exact ⟨rfl, rfl, rfl, rfl, rfl⟩

theorem State.hmeGrant_turns {s : State} {g : Grant} (chosen : s.chosenGrant = some g) :
    (s.hme.turned g).sameTurns (s.carryGrant g).watchDrain.hme :=
  (State.carryGrant_turns chosen).trans (s.carryGrant g).onlyMessages_watchDrain.sameTurns

theorem exec_softReset (s : State) : exec .softReset s = .next s.softReset := rfl

theorem exec_hardReset (s : State) : exec .hardReset s = .next s.hardReset := rfl

theorem State.softReset_turns (s : State) : Hme.reset.sameTurns s.softReset.hme := by
  have link : (Hme.reset).sameTurns { s.hme with
      outgoing := s.hme.outgoing.filter fun i => i = .message
      reads := (s.hme.reads.filter fun e => e.left && e.data.isNone).map fun e => { e with discarded := true }
      statusPointer := 0, markPointer := 0, textPointer := 0, capturePointer := 0, tsuTurn := true } :=
    ⟨rfl, rfl, rfl, rfl, rfl⟩
  exact link.trans (Hme.onlyMessages_flush _).sameTurns

theorem State.hardReset_turns (s : State) : Hme.reset.sameTurns s.hardReset.hme := ⟨rfl, rfl, rfl, rfl, rfl⟩

/-- A sweep runs in RUNNING and DRAINING, an enable in OFF and STOPPED, so that their reads never wait together. -/
theorem State.classTwo_alone {s : State}
    (active : s.bus.control = .running ∨ s.bus.control = .draining → s.bus.enabling = none)
    (rest : s.bus.control = .off ∨ s.bus.control = .stopped → s.tsu.sweep = none) :
    s.sweepRequest = none ∨ s.enableRequest = none := by
  have noSweep (none : s.tsu.sweep = none) : s.sweepRequest = Option.none := by simp [State.sweepRequest, none]
  have noEnable (none : s.bus.enabling = none) : s.enableRequest = Option.none := by simp [State.enableRequest, none]
  cases control : s.bus.control with
  | off => exact .inl (noSweep (rest (.inl control)))
  | running => exact .inr (noEnable (active (.inl control)))
  | draining => exact .inr (noEnable (active (.inr control)))
  | stopped => exact .inl (noSweep (rest (.inr control)))

/-- Settles O26: the choice by its classes, and the turns by the grant and the messages that may follow it. -/
theorem arbiterServesTheLowestClass : Obligations.ArbiterServesTheLowestClass := by
  refine ⟨fun s g chosen => ?_, fun s => State.chosenGrant_eq_none.1, fun s ready => ?_, fun s one ready => ?_,
    fun s p one two ready => ?_, fun s p one two three ready => ?_, fun s p one two three four ready => ?_,
    fun s g on chosen => ?_, fun c s reset => ?_, fun s a n => ⟨decide_eq_true_iff, decide_eq_true_iff⟩,
    fun s p => ⟨Bool.and_eq_true_iff, ?_, State.textReady_iff, State.captureReady_iff⟩,
    fun s => State.classTwo_alone⟩
  · rcases State.chosenGrant_eq_some.1 chosen with made | ⟨one, made | ⟨two, made | ⟨three, made | ⟨four, made⟩⟩⟩⟩
    · rcases State.classOne_serves made with ⟨w, rfl, first, fits, turn⟩ | ⟨p, rfl, found, turn⟩
      · exact ⟨⟨first, fits, turn⟩, by simp, by simp, by simp, by simp⟩
      · exact ⟨⟨firstFrom_ok found, turn, firstFrom_first found⟩, by simp, by simp, by simp, by simp⟩
    · rcases State.classTwo_serves made with ⟨r, a, n, rfl, waits⟩ | ⟨r, a, n, rfl, waits⟩
      · exact ⟨waits, fun _ _ => one, by simp, by simp, by simp⟩
      · exact ⟨waits, fun _ _ => one, by simp, by simp, by simp⟩
    · obtain ⟨p, rfl, found⟩ := State.classThree_serves made
      exact ⟨⟨firstFrom_ok found, firstFrom_first found⟩, fun _ _ => one, fun _ => two, by simp, by simp⟩
    · obtain ⟨p, a, n, rfl, found, request, fits⟩ := State.classFour_serves made
      exact ⟨⟨request, fits, firstFrom_first found⟩, fun _ _ => one, fun _ => two, fun _ => three, by simp⟩
    · obtain ⟨p, rfl, found⟩ := State.classFive_serves made
      exact ⟨⟨firstFrom_ok found, firstFrom_first found⟩, fun _ _ => one, fun _ => two, fun _ => three, fun _ => four⟩
  · obtain ⟨g, made, chosen⟩ := State.chosenGrant_classOne ready
    rcases State.classOne_serves made with ⟨w, rfl, _⟩ | ⟨p, rfl, _⟩
    · exact .inl ⟨w, chosen⟩
    · exact .inr ⟨p, chosen⟩
  · obtain ⟨g, made, chosen⟩ := State.chosenGrant_classTwo one ready
    rcases State.classTwo_serves made with ⟨r, a, n, rfl, _⟩ | ⟨r, a, n, rfl, _⟩
    · exact .inl ⟨r, a, n, chosen⟩
    · exact .inr ⟨r, a, n, chosen⟩
  · obtain ⟨g, made, chosen⟩ := State.chosenGrant_classThree one two ready
    obtain ⟨q, rfl, _⟩ := State.classThree_serves made
    exact ⟨q, chosen⟩
  · obtain ⟨g, made, chosen⟩ := State.chosenGrant_classFour one two three ready
    obtain ⟨q, a, n, rfl, _⟩ := State.classFour_serves made
    exact ⟨q, a, n, chosen⟩
  · obtain ⟨g, made, chosen⟩ := State.chosenGrant_classFive one two three four ready
    obtain ⟨q, rfl, _⟩ := State.classFive_serves made
    exact ⟨q, chosen⟩
  · have turns := State.hmeGrant_turns chosen
    refine ⟨_, exec_hmeGrant_chosen on chosen, turns.tsuTurn.trans ?_, turns.statusPointer.trans ?_,
      turns.markPointer.trans ?_, turns.textPointer.trans ?_, turns.capturePointer.trans ?_⟩
    all_goals cases g <;> rfl
  · rcases reset with rfl | rfl
    · have turns := s.hardReset_turns
      exact ⟨_, exec_hardReset s, turns.tsuTurn, turns.statusPointer, turns.markPointer, turns.textPointer,
        turns.capturePointer⟩
    · have turns := s.softReset_turns
      exact ⟨_, exec_softReset s, turns.tsuTurn, turns.statusPointer, turns.markPointer, turns.textPointer,
        turns.capturePointer⟩
  · rw [State.readMarkReady, Bool.and_eq_true_iff, decide_eq_true_iff]

end Sys2Proof.Machine
end

section
/-! SUPPORT. The register window: what each register reads as, which writes it takes, and the write to CONTROL; the
statements on the registers' layout, on the window and on CONTROL. -/

namespace Sys2Proof.Machine

/-! ### What the registers read as (R187) -/

theorem ControlState.code_lt (c : ControlState) : c.code < 4 := by cases c <;> decide

theorem AnchorError.code_lt (e : AnchorError) : e.code < 8 := by cases e <;> decide

theorem Tsu.sweepBit_eq (t : Tsu) : t.sweepBit = (t.pendingRequest || t.sweep.any fun w => w.requested) := by
  cases sweep : t.sweep <;> simp [Tsu.sweepBit, sweep]

section
variable (s : State)

/-- The fields of STATUS do not overlap: the control state, the anchor error and the sweep, and no bit above. -/
theorem State.readStatus_toNat : (s.readRegister .status).toNat =
    s.bus.control.code + 16 * s.bus.anchorError.code + 256 * s.tsu.sweep.isSome.toNat := by
  have control := s.bus.control.code_lt
  have error := s.bus.anchorError.code_lt
  cases running : s.tsu.sweep.isSome <;>
    simp only [State.readRegister, State.statusWord, running, if_true, Bool.false_eq_true, if_false,
      BitVec.toNat_ofNat, Bool.toNat_true, Bool.toNat_false] <;> omega

theorem State.readStatus_control : ((s.readRegister .status).extractLsb' 0 2).toNat = s.bus.control.code := by
  have control := s.bus.control.code_lt
  rw [BitVec.extractLsb'_toNat, State.readStatus_toNat]
  omega

theorem State.readStatus_error : ((s.readRegister .status).extractLsb' 4 4).toNat = s.bus.anchorError.code := by
  have control := s.bus.control.code_lt
  have error := s.bus.anchorError.code_lt
  rw [BitVec.extractLsb'_toNat, State.readStatus_toNat, Nat.shiftRight_eq_div_pow]
  omega

theorem State.readStatus_sweep : (s.readRegister .status).getLsbD 8 = s.tsu.sweep.isSome := by
  have control := s.bus.control.code_lt
  have error := s.bus.anchorError.code_lt
  rw [← BitVec.testBit_toNat, State.readStatus_toNat, Nat.testBit_eq_decide_div_mod_eq]
  cases s.tsu.sweep.isSome
  · exact decide_eq_false (by rw [Bool.toNat_false]; omega)
  · exact decide_eq_true (by rw [Bool.toNat_true]; omega)

/-- The bits that STATUS does not have read as 0. -/
theorem State.readStatus_unused : (s.readRegister .status).extractLsb' 2 2 = 0
    ∧ (s.readRegister .status).extractLsb' 9 23 = 0 := by
  have control := s.bus.control.code_lt
  have error := s.bus.anchorError.code_lt
  have running := s.tsu.sweep.isSome.toNat_le
  constructor <;> apply BitVec.eq_of_toNat_eq <;>
    rw [BitVec.extractLsb'_toNat, State.readStatus_toNat, Nat.shiftRight_eq_div_pow] <;> simp <;> omega

theorem State.readControl_bit (i : Nat) : (s.readRegister .control).getLsbD i =
    (i == 2 && (s.tsu.pendingRequest || s.tsu.sweep.any fun w => w.requested)) := by
  have four : (4#32).getLsbD i = (i == 2) := by
    rw [show 4#32 = BitVec.twoPow 32 2 by decide, BitVec.getLsbD_twoPow]
    by_cases h : i = 2
    · subst h; rfl
    · simp [h, Ne.symm h]
  rw [← Tsu.sweepBit_eq]
  cases bit : s.tsu.sweepBit <;> simp [State.readRegister, bit, four]

/-- The bits that CONTROL does not have, or that only request, read as 0. -/
theorem State.readControl_unused : (s.readRegister .control).extractLsb' 0 2 = 0
    ∧ (s.readRegister .control).extractLsb' 3 29 = 0 := by
  unfold State.readRegister
  dsimp only
  split <;> decide

end

/-- A register of causes has no bit above the ten. -/
theorem causes_unused (causes : BitVec 10) : (causes.setWidth 32).extractLsb' 10 22 = 0 := by
  apply BitVec.eq_of_getLsbD_eq
  intro i _
  simp

theorem causes_bit (causes : BitVec 10) (c : Cause) :
    (causes.setWidth 32).getLsbD c.index = causes.getLsbD c.index := by
  cases c <;> simp [Cause.index]

/-- The fields of IDENT (R187). -/
theorem ident_fields : (0x18124C7A#32).extractLsb' 0 12 = 0xC7A ∧ (0x18124C7A#32).extractLsb' 12 8 = 0x24
    ∧ (0x18124C7A#32).extractLsb' 20 4 = 1 ∧ (0x18124C7A#32).extractLsb' 24 8 = 24 := by decide

/-- Settles O5: STATUS by its number, CONTROL by its one bit, the registers of causes by their ten. -/
theorem registersReadByTheirLayout : Obligations.RegistersReadByTheirLayout :=
  ⟨rfl, rfl, rfl, rfl, fun s => ⟨rfl, ident_fields, s.readControl_bit, s.readStatus_control,
    s.readStatus_unused.1, s.readStatus_error, s.readStatus_sweep, s.readStatus_unused.2, rfl, rfl,
    fun c => ⟨causes_bit _ c, causes_bit _ c⟩, causes_unused _, causes_unused _, rfl⟩⟩

/-! ### Writes and narrow reads (R185) -/

theorem exec_registerWrite (r : Register) (n : Nat) (v : Word) (s : State) :
    exec (.registerWrite r n v) s = .next (s.writeRegister r n v) := rfl

theorem State.writeRegister_narrow {n : Nat} (narrow : n < 4) (r : Register) (v : Word) (s : State) :
    s.writeRegister r n v = s := if_pos narrow

/-- ENABLE and the anchor registers act in OFF and in STOPPED (R177, R185). -/
theorem State.atRest_iff (s : State) : s.atRest = true ↔ s.bus.control = .off ∨ s.bus.control = .stopped := by
  simp [State.atRest]

theorem State.not_atRest {s : State} (active : s.bus.control = .running ∨ s.bus.control = .draining) :
    s.atRest = false := by
  rcases active with h | h <;> simp [State.atRest, h]

theorem setWidth_of_low {v w : Word} (same : v.extractLsb' 0 10 = w.extractLsb' 0 10) :
    v.setWidth 10 = w.setWidth 10 := by
  rwa [BitVec.setWidth_eq_extractLsb' (by decide), BitVec.setWidth_eq_extractLsb' (by decide)]

/-- CONTROL acts by its four low bits alone. -/
theorem State.writeControl_low {v w : Word} (same : v.extractLsb' 0 4 = w.extractLsb' 0 4) (s : State) :
    s.writeControl v = s.writeControl w := by
  have bit {i : Nat} (inside : i < 4) : v.getLsbD i = w.getLsbD i := by
    simpa [inside] using congrArg (fun b => b.getLsbD i) same
  simp only [State.writeControl, bit (i := 0) (by decide), bit (i := 1) (by decide), bit (i := 2) (by decide),
    bit (i := 3) (by decide)]

theorem leBytes_getElem? {n i : Nat} (inside : i < n) (v : Nat) :
    (leBytes n v)[i]? = some (BitVec.ofNat 8 (v / 256 ^ i)) := by
  induction n generalizing i v with
  | zero => omega
  | succ n ih =>
    cases i with
    | zero => simp [leBytes]
    | succ i => rw [leBytes, List.getElem?_cons_succ, ih (by omega), Nat.div_div_eq_div_mul, ← pow_succ']

/-- A narrow read gives the bytes that it names (R185). -/
theorem State.readNarrow_byte (s : State) (r : Register) {first n i : Nat} (fits : first + n ≤ 4) (inside : i < n) :
    (s.readNarrow r first n)[i]? = some ((s.readRegister r).extractLsb' (8 * (first + i)) 8) := by
  rw [State.readNarrow, List.getElem?_take_of_lt inside, List.getElem?_drop, leBytes_getElem? (by omega)]
  congr 1
  apply BitVec.eq_of_toNat_eq
  rw [BitVec.toNat_ofNat, BitVec.extractLsb'_toNat, Nat.shiftRight_eq_div_pow, pow_mul]
  rfl

theorem State.readNarrow_length (s : State) (r : Register) {first n : Nat} (fits : first + n ≤ 4) :
    (s.readNarrow r first n).length = n := by
  simp [State.readNarrow, leBytes_length]
  omega

/-- Settles O6: each register's write is its own rule, and what a register does not have is read by no rule. -/
theorem windowTakesWritesByItsRules : Obligations.WindowTakesWritesByItsRules := by
  refine ⟨fun r n v s narrow => ?_, fun v s => ⟨rfl, rfl⟩, fun v s rest => ?_, fun v s active => ?_,
    fun v s => ⟨rfl, rfl, rfl⟩, fun v w s same => ?_, fun v w s same => ?_, fun s => ?_,
    fun r first n s fits => ⟨s.readNarrow_length r fits, fun i => s.readNarrow_byte r fits⟩⟩
  · rw [exec_registerWrite, State.writeRegister_narrow narrow]
  · exact ⟨congrArg _ (if_pos (s.atRest_iff.2 rest)), congrArg _ (if_pos (s.atRest_iff.2 rest))⟩
  · have busy : ¬ s.atRest = true := by simp [State.not_atRest active]
    exact ⟨congrArg _ (if_neg busy), congrArg _ (if_neg busy)⟩
  · rw [exec_attentionWrite, exec_attentionWrite, exec_attnEnableWrite, exec_attnEnableWrite, exec_attnForceWrite,
      exec_attnForceWrite, State.writeAttention, State.writeAttnEnable, State.writeAttnForce, setWidth_of_low same]
    exact ⟨rfl, rfl, rfl⟩
  · exact congrArg _ (s.writeControl_low same)
  · exact ⟨s.readControl_unused.1, s.readControl_unused.2, s.readStatus_unused.1, s.readStatus_unused.2,
      causes_unused _, causes_unused _, causes_unused _⟩

/-! ### CONTROL (R177) -/

theorem exec_enable (s : State) : exec .enable s = .next s.enableCommand := rfl

theorem State.writeControl_softReset {v : Word} (reset : v.getLsbD 3 = true) (s : State) :
    s.writeControl v = s.softReset := if_pos reset

/-- ENABLE begins in OFF or STOPPED, where no enable is in progress (R177, R178). -/
theorem State.enableCommand_begins {s : State} (rest : s.bus.control = .off ∨ s.bus.control = .stopped)
    (none : s.bus.enabling = none) : s.enableCommand =
      if addrAligned s.bus.anchorAddress 4096 then s.enableAt s.bus.anchorAddress .headerWanted
      else s.failEnable .align :=
  if_pos (by rw [s.atRest_iff.2 rest, none]; rfl)

theorem State.enableCommand_ignored {s : State} (h : s.atRest = false ∨ s.bus.enabling.isSome = true) :
    s.enableCommand = s := by
  rcases h with h | h
  · simp [State.enableCommand, h]
  · simp [State.enableCommand, Option.isNone_eq_false_iff.2 h]

theorem State.enableCommand_aligned {s : State} (rest : s.bus.control = .off ∨ s.bus.control = .stopped)
    (none : s.bus.enabling = none) (aligned : (s.bus.anchorHi ++ s.bus.anchorLo).toNat % 4096 = 0) :
    s.enableCommand = s.enableAt (s.bus.anchorHi ++ s.bus.anchorLo) .headerWanted := by
  rw [State.enableCommand_begins rest none]
  exact if_pos (decide_eq_true aligned)

theorem State.enableCommand_misaligned {s : State} (rest : s.bus.control = .off ∨ s.bus.control = .stopped)
    (none : s.bus.enabling = none) (misaligned : (s.bus.anchorHi ++ s.bus.anchorLo).toNat % 4096 ≠ 0) :
    s.enableCommand = s.failEnable .align := by
  rw [State.enableCommand_begins rest none]
  exact if_neg fun aligned => misaligned (of_decide_eq_true aligned)

@[simp] theorem State.failEnable_bus (s : State) (code : AnchorError) :
    (s.failEnable code).bus = { s.bus with anchorError := code, enabling := none } := by
  rw [State.failEnable, State.raise_bus]

/-- An ENABLE, whatever becomes of it, leaves the control state (R178). -/
theorem State.enableCommand_control (s : State) : s.enableCommand.bus.control = s.bus.control := by
  unfold State.enableCommand
  split
  · split
    · rfl
    · rw [State.failEnable_bus]
  · rfl

theorem State.stopCommand_ignored {s : State} (h : s.bus.control ≠ .running) : s.stopCommand = s := if_neg h

/-- Settles O7: the write is its bits in turn; what ENABLE, STOP and the resets do is said by their own lemmas. -/
theorem controlWriteActsByItsBits : Obligations.ControlWriteActsByItsBits := by
  refine ⟨fun v s reset => congrArg _ (s.writeControl_softReset reset), fun v s t u w noReset enable stop sweep => ?_,
    fun s h => ?_, fun s rest none aligned => ?_, fun s h => congrArg _ (State.stopCommand_ignored h),
    fun s running => ?_, fun s => ⟨_, exec_enable s, s.enableCommand_control⟩,
    fun s => ⟨_, exec_hardReset s, rfl, rfl, rfl, rfl⟩, fun s => ⟨_, exec_softReset s, rfl, rfl, rfl, rfl⟩⟩
  · have landed {bit : Bool} {x y z : State}
        (h : (if bit then (.next x : Host.Outcome State Fault Refusal) else .next y) = .next z) :
        (if bit then x else y) = z := by
      cases bit <;> exact Host.Outcome.next.inj h
    have write : s.writeControl v = w := by
      unfold State.writeControl
      dsimp only
      rw [if_neg (ne_true_of_eq_false noReset), landed enable, landed stop, landed sweep]
    exact congrArg _ write
  · rcases h with h | h | h
    · exact congrArg _ (State.enableCommand_ignored (.inl (State.not_atRest (.inl h))))
    · exact congrArg _ (State.enableCommand_ignored (.inl (State.not_atRest (.inr h))))
    · exact congrArg _ (State.enableCommand_ignored (.inr h))
  · exact ⟨_, exec_enable s, by rw [State.enableCommand_aligned rest none aligned]; rfl⟩
  · obtain ⟨t, stopped, control, waits, _⟩ := stopDrainsUnstartedEntries s running
    exact ⟨t, stopped, control, waits⟩

end Sys2Proof.Machine
end

section
/-! SUPPORT. The two resets, block by block: what a hard reset brings back, and what a soft reset keeps of the link and
of each port; the statements on both. -/

namespace Sys2Proof.Machine

/-! ### The hard reset (R184) -/

theorem State.hardReset_port (s : State) (p : PortId) :
    s.hardReset.port p = (s.port p).afterHardReset (s.freeLevel p) := by
  simp [State.hardReset, State.port]

theorem State.hardReset_patterns (s : State) (i : PatternId) : s.hardReset.patterns[i] = none := by
  simp [State.hardReset, State.reset]

/-- Settles O10: every block at its reset value, but for what the hard reset carries over of an enable. -/
theorem hardResetGivesTheResetValues : Obligations.HardResetGivesTheResetValues := by
  refine fun s => ⟨_, exec_hardReset s, rfl, rfl, rfl, rfl, rfl, s.hardReset_patterns, rfl, rfl, rfl, ?_⟩
  rintro p mark level
  have now : (s.port p).slu.levelNow (s.freeLevel p) = mark := by
    rw [level, Slu.levelNow]
    rfl
  rw [s.hardReset_port p, Port.afterHardReset, now]
  rfl

/-! ### The soft reset of the link (R173) -/

section
variable (h : Hme)

/-- The HME after a soft reset, but for the messages that may leave with it. -/
theorem Hme.onlyMessages_afterReset : ({ h with
    outgoing := h.outgoing.filter fun i => i = .message
    reads := (h.reads.filter fun e => e.left && e.data.isNone).map fun e => { e with discarded := true }
    statusPointer := 0, markPointer := 0, textPointer := 0, capturePointer := 0
    tsuTurn := true } : Hme).onlyMessages h.afterReset :=
  Hme.onlyMessages_flush _

theorem Hme.afterReset_reads : h.afterReset.reads =
    (h.reads.filter fun e => e.left && e.data.isNone).map fun e => { e with discarded := true } :=
  h.onlyMessages_afterReset.reads

theorem Hme.afterReset_enables :
    h.afterReset.busMaster = h.busMaster ∧ h.afterReset.message = h.message := by
  rw [h.onlyMessages_afterReset.kept]
  exact ⟨rfl, rfl⟩

/-- No write that waits outlives a soft reset. -/
theorem Hme.afterReset_queuedWrites : h.afterReset.queuedWrites = 0 := by
  rw [h.onlyMessages_afterReset.queuedWrites]
  simp only [Hme.queuedWrites, List.length_eq_zero_iff, List.filter_eq_nil_iff, List.mem_filter, decide_eq_true_eq]
  rintro i ⟨_, rfl⟩
  exact Bool.false_ne_true

/-- What stays in the read table has left and is discarded. -/
theorem Hme.afterReset_discarded {e : ReadEntry} (mem : e ∈ h.afterReset.reads) :
    e.left = true ∧ e.discarded = true := by
  rw [h.afterReset_reads, List.mem_map] at mem
  obtain ⟨x, kept, rfl⟩ := mem
  have left := (Bool.and_eq_true_iff.1 (List.mem_filter.1 kept).2).1
  exact ⟨left, rfl⟩

/-- A piece on the link that has not been answered keeps its entry. -/
theorem Hme.afterReset_keeps {e : ReadEntry} (mem : e ∈ h.reads) (left : e.left = true) (unanswered : e.data = none) :
    { e with discarded := true } ∈ h.afterReset.reads := by
  rw [h.afterReset_reads]
  exact List.mem_map.2 ⟨e, List.mem_filter.2 ⟨mem, by rw [left, unanswered]; rfl⟩, rfl⟩

end

/-! ### The soft reset of a port (R183) -/

theorem State.softReset_port (s : State) (p : PortId) :
    s.softReset.port p = (s.port p).afterReset (s.freeLevel p) := by
  simp [State.softReset, State.port]

section
variable {v : Port} (free : Bool)

/-- In FIXED mode the receiver looks for a start edge at once (R93, R106). -/
theorem Port.afterReset_fixed (fixed : v.slu.line.mode = .fixed) : (v.afterReset free).rf.state = .fixed
    ∧ (v.afterReset free).slu.rx = if (v.afterReset free).slu.lineMark then .hunting else .arming := by
  simp [Port.afterReset, Slu.afterReset, fixed, RateFinder.afterReset, RateFinder.fix, receiverAt]

/-- In AUTO mode the port seeks its rate and decodes nothing (R93, R106). -/
theorem Port.afterReset_auto (auto : v.slu.line.mode = .auto) : (v.afterReset free).rf.state = .seeking
    ∧ (v.afterReset free).slu.rx = .notDecoding := by
  simp [Port.afterReset, Slu.afterReset, auto, RateFinder.afterReset, RateFinder.seek]

end

/-- Either way the Rate Finder begins anew (R106). -/
theorem RateFinder.afterReset_anew (r : RateFinder) (mode : LineMode) : (r.afterReset mode).attempts = 0
    ∧ (r.afterReset mode).samples = [] ∧ (r.afterReset mode).interval = none
    ∧ (r.afterReset mode).verifySeen = 0 ∧ (r.afterReset mode).verifyFraming = 0 := by
  cases mode <;> exact ⟨rfl, rfl, rfl, rfl, rfl⟩

theorem PortMatch.afterReset_eligible (m : PortMatch) (i : PatternId) : m.afterReset.eligible[i] = 0 := by
  simp [PortMatch.afterReset, PortMatch.resetProgress]

/-- Settles O11: the link by the lemmas on its reset, each port by its record after the reset. -/
theorem softResetKeepsWhatItsRulesKeep : Obligations.SoftResetKeepsWhatItsRulesKeep := by
  intro s
  obtain ⟨turn, status, mark, text, capture⟩ := s.softReset_turns
  obtain ⟨busMaster, message⟩ := s.hme.afterReset_enables
  refine ⟨_, exec_softReset s, rfl, rfl, rfl, rfl, rfl, rfl, rfl, rfl, s.hme.afterReset_queuedWrites,
    fun e => s.hme.afterReset_discarded, fun e => s.hme.afterReset_keeps,
    ⟨status, mark, text, capture, turn⟩, busMaster, message, fun p => ?_⟩
  rw [s.softReset_port p]
  exact ⟨⟨rfl, rfl, rfl, rfl⟩, ⟨rfl, rfl, rfl, rfl, rfl, rfl, rfl, rfl, rfl⟩, Port.afterReset_fixed _,
    Port.afterReset_auto _, (s.port p).rf.afterReset_anew _,
    ⟨rfl, rfl, rfl, rfl, (s.port p).pm.afterReset_eligible, rfl⟩,
    ⟨rfl, rfl, rfl, rfl, rfl, rfl, rfl, rfl, rfl, rfl, rfl, rfl, rfl, rfl⟩, rfl, rfl, rfl, rfl, rfl, rfl⟩

end Sys2Proof.Machine
end

section
/-! SUPPORT. The enable and its checks: a check that fails, the fields of the anchor header and of the descriptors; the
statements on the beginning of an enable and on its checks. -/

namespace Sys2Proof.Machine

/-! ### A failed check (R178) -/

theorem State.failEnable_attention (s : State) (code : AnchorError) :
    (s.failEnable code).attention = s.attention ||| 1#10 <<< 8 := by
  rw [State.failEnable, State.raise_attention]
  rfl

theorem State.onlyMessages_failEnable (s : State) (code : AnchorError) :
    s.hme.onlyMessages (s.failEnable code).hme :=
  State.onlyMessages_raise { s with bus := { s.bus with anchorError := code, enabling := none } } .anchor

theorem State.enableFailed_failEnable (s : State) (code : AnchorError) : s.enableFailed code (s.failEnable code) :=
  ⟨s.failEnable_bus code, s.failEnable_attention code, s.failEnable_ports code, s.failEnable_tsu code,
    s.failEnable_scanner code, s.failEnable_patterns code⟩

/-- Settles O14: an aligned anchor is latched for the header read; any other fails the first check. -/
theorem enableBeginsWithTheAlignmentCheck : Obligations.EnableBeginsWithTheAlignmentCheck := by
  refine fun s rest none => ⟨fun aligned => ?_, fun misaligned => ?_⟩
  · rw [exec_enable, State.enableCommand_aligned rest none aligned]
    rfl
  · have link := s.onlyMessages_failEnable .align
    rw [exec_enable, State.enableCommand_misaligned rest none misaligned]
    exact ⟨_, rfl, by rw [State.failEnable_bus, ← none], s.failEnable_attention _, s.failEnable_attnEnable _,
      s.failEnable_ports _, s.failEnable_tsu _, s.failEnable_scanner _, s.failEnable_patterns _, s.failEnable_time _,
      link.queuedWrites, link.reads⟩

/-! ### The anchor header (R178, R188) -/

theorem addrAligned_field (b : List Byte) (offset n : Nat) :
    addrAligned (BitVec.ofNat 64 (field b offset 8)) n = decide (field b offset 8 % n = 0) := by
  rw [addrAligned, toNat_ofNat_field b offset 8 64 (by decide)]

/-- Checks 3 to 7 on the bytes of a header. -/
theorem AnchorHeader.check_parse (b : List Byte) : (AnchorHeader.parse b).check =
    if leNat (b.take 4) ≠ 0x57430001 then some .tag
    else if leNat ((b.drop 4).take 2) ≠ 1 then some .version
    else if leNat ((b.drop 6).take 1) = 0 ∨ 24 < leNat ((b.drop 6).take 1) then some .ports
    else if leNat ((b.drop 8).take 2) < 16 ∨ 128 < leNat ((b.drop 8).take 2)
        ∨ leNat ((b.drop 8).take 2) % 16 ≠ 0 then some .slots
    else if leNat ((b.drop 16).take 8) % 4096 ≠ 0 then some .align
    else none := by
  have tag : BitVec.ofNat 32 (field b 0 4) = 0x57430001 ↔ leNat (b.take 4) = 0x57430001 := by
    rw [← BitVec.toNat_inj, toNat_ofNat_field b 0 4 32 (by decide)]
    rfl
  have table : addrAligned (BitVec.ofNat 64 (field b 16 8)) 4096 = true ↔ leNat ((b.drop 16).take 8) % 4096 = 0 := by
    rw [addrAligned_field, decide_eq_true_iff]
    rfl
  unfold AnchorHeader.check AnchorHeader.parse
  refine if_congr (not_congr tag) rfl (if_congr Iff.rfl rfl (if_congr ?_ rfl (if_congr ?_ rfl
    (if_congr (not_congr table) rfl rfl))))
  · change ¬(1 ≤ leNat ((b.drop 6).take 1) ∧ leNat ((b.drop 6).take 1) ≤ 24) ↔ _
    omega
  · change ¬(16 ≤ leNat ((b.drop 8).take 2) ∧ leNat ((b.drop 8).take 2) ≤ 128
      ∧ leNat ((b.drop 8).take 2) % 16 = 0) ↔ _
    omega

theorem State.anchorArrives_fails {b : List Byte} {code : AnchorError}
    (fails : (AnchorHeader.parse b).check = some code) (s : State) (a : Addr) :
    s.anchorArrives a b = s.failEnable code := by
  rw [State.anchorArrives, fails]

theorem State.anchorArrives_passes {b : List Byte} (passes : (AnchorHeader.parse b).check = none) (s : State)
    (a : Addr) : s.anchorArrives a b = s.enableAt a (.descriptorsWanted (AnchorHeader.parse b)) := by
  rw [State.anchorArrives, passes]

/-! ### The descriptors (R178, R188) -/

/-- Check 9 on the bytes of one descriptor. -/
theorem Descriptor.ok_parse (b : List Byte) (n : Nat) : (Descriptor.parse b n).ok = true
    ↔ 12 ≤ leNat ((b.drop (16 * n + 8)).take 1) ∧ leNat ((b.drop (16 * n + 8)).take 1) ≤ 20
      ∧ leNat ((b.drop (16 * n)).take 8) % 2 ^ leNat ((b.drop (16 * n + 8)).take 1) = 0 := by
  unfold Descriptor.ok Descriptor.parse
  rw [addrAligned_field, Bool.and_eq_true, Bool.and_eq_true, decide_eq_true_iff, decide_eq_true_iff,
    decide_eq_true_iff, and_assoc]
  rfl

theorem descriptorsOk_iff (h : AnchorHeader) (b : List Byte) : descriptorsOk h b = true
    ↔ ∀ n, n < h.portCount → 12 ≤ leNat ((b.drop (16 * n + 8)).take 1)
      ∧ leNat ((b.drop (16 * n + 8)).take 1) ≤ 20
      ∧ leNat ((b.drop (16 * n)).take 8) % 2 ^ leNat ((b.drop (16 * n + 8)).take 1) = 0 := by
  simp only [descriptorsOk, List.all_eq_true, List.mem_range, Descriptor.ok_parse]

/-! ### The reads of an enable (R178) -/

section
variable {s : State} {a : Addr} {r : Nat}

theorem State.enableReadEnds_header (b : List Byte)
    (enabling : s.bus.enabling = some { anchor := a, stage := .headerOut r }) :
    s.enableReadEnds r (some b) = s.anchorArrives a b ∧ s.enableReadEnds r none = s.failEnable .readFault := by
  simp [State.enableReadEnds, enabling]

theorem State.enableReadEnds_descriptors {h : AnchorHeader} (b : List Byte)
    (enabling : s.bus.enabling = some { anchor := a, stage := .descriptorsOut h r }) :
    s.enableReadEnds r (some b) = s.descriptorsArrive a h b
      ∧ s.enableReadEnds r none = s.failEnable .readFault := by
  simp [State.enableReadEnds, enabling]

end

/-- Settles O15: the checks on the bytes of header and descriptors, and the failed check where one of them fails. -/
theorem anchorHeaderChecksAreMadeInOrder : Obligations.AnchorHeaderChecksAreMadeInOrder := by
  refine ⟨fun s a b => ⟨fun code fails => ?_, ?_⟩, fun s a r b enabling => ?_, fun s a h r b enabling => ?_⟩
  · rw [State.anchorArrives_fails ((AnchorHeader.check_parse b).trans fails)]
    exact s.enableFailed_failEnable code
  · rintro ⟨tag, version, somePort, ports, someSlot, slots, sixteens, table⟩
    have passes : (AnchorHeader.parse b).check = none := by
      rw [AnchorHeader.check_parse, if_neg (not_not.2 tag), if_neg (not_not.2 version), if_neg (by omega),
        if_neg (by omega), if_neg (not_not.2 table)]
    exact ⟨AnchorHeader.parse b, State.anchorArrives_passes passes s a, rfl, rfl, rfl, rfl⟩
  · obtain ⟨answered, faulted⟩ := State.enableReadEnds_header b enabling
    exact ⟨answered, faulted ▸ s.enableFailed_failEnable .readFault⟩
  · obtain ⟨answered, faulted⟩ := State.enableReadEnds_descriptors b enabling
    refine ⟨faulted ▸ s.enableFailed_failEnable .readFault, fun ⟨n, inUse, wrong⟩ => ?_, fun right => ?_⟩
    · have fails : ¬ descriptorsOk h b = true := fun ok => by
        obtain ⟨low, high, divides⟩ := (descriptorsOk_iff h b).1 ok n inUse
        omega
      rw [answered, State.descriptorsArrive, if_neg fails]
      exact s.enableFailed_failEnable .capture
    · rw [answered, State.descriptorsArrive, if_pos ((descriptorsOk_iff h b).2 right)]

end Sys2Proof.Machine
end

section
/-! SUPPORT. What a successful enable hands over: the ports that it takes into use and those that it leaves unused, the
ENABLED mark and what comes into hand with it, and the sweep that may start; the statement on the hand-over. -/

namespace Sys2Proof.Machine

/-! ### The ENABLED mark (R144, R154) -/

/-- What the ENABLED mark makes of a port: only what its Capture Assembler has in hand, still to do and to fetch. -/
structure Port.markedFrom (v w : Port) (now : Word) : Prop where
  kept : w = { v with ca := { v.ca with inHand := w.ca.inHand, agenda := w.ca.agenda, fetch := w.ca.fetch } }
  muted : v.captureMuted = true → w.ca.inHand = v.ca.inHand ∧ w.ca.agenda = []
  unmuted : v.captureMuted = false → v.ca.writePosition = 0 → v.ca.readMark = 0 → 16 ≤ v.ca.areaSize →
    w.ca.inHand = some { records := [.record (.mark .enabled 0 now v.slu.receiveCount)], passed := true }
      ∧ w.ca.agenda = [.writeGap]

/-- The mark is held back or the capture state is NORMAL, so that no unit is discarded for it (R141, R154). -/
def Port.markable (v : Port) : Prop := v.captureMuted = true ∨ v.ca.state = .normal

theorem Port.markedFrom.captureMuted {v w : Port} {now : Word} (h : v.markedFrom w now) :
    w.captureMuted = v.captureMuted := by
  rw [h.kept]
  rfl

theorem Port.markedFrom.markable {v w : Port} {now : Word} (h : v.markedFrom w now) (ready : v.markable) :
    w.markable := by
  have state : w.ca.state = v.ca.state := by rw [h.kept]
  rw [Port.markable, h.captureMuted, state]
  exact ready

section
variable {s : State} {p : PortId}

theorem State.modPort_unpublished {f : Port → Port} (same : (f (s.port p)).published = (s.port p).published) :
    (s.modPort p f).port p = f (s.port p) := by
  rw [State.port_modPort_same, Port.noting_same same]

/-- A record at the start of an empty area stands there alone, and has room (R127, R140). -/
theorem Capture.recordUnit_start {ca : Capture} {record : CaptureRecord} (start : ca.writePosition = 0)
    (fits : record.size ≤ ca.areaSize) (passed : Bool) :
    ca.recordUnit record false passed = { records := [.record record], passed := passed } := by
  have space : (UnitRecord.record record).size ≤ ca.areaSize - ca.writePosition.toNat % ca.areaSize := by
    have zero : ca.writePosition.toNat = 0 := by rw [start]; rfl
    rw [zero, Nat.zero_mod]
    exact fits
  simp only [Capture.recordUnit, Bool.false_eq_true, if_false, List.nil_append, placeRecords, if_pos space]

theorem Capture.hasRoom_start {ca : Capture} {record : CaptureRecord} (start : ca.writePosition = 0)
    (read : ca.readMark = 0) (fits : record.size ≤ ca.areaSize) (passed : Bool) :
    ca.hasRoom { records := [.record record], passed := passed } = true := by
  simpa [Capture.hasRoom, Capture.unread, WriteUnit.advance, UnitRecord.size, start, read] using fits

/-- In NORMAL a record comes into hand, at the start of its area past its room test. -/
theorem State.takeInHand_normal (unmuted : (s.port p).ca.mode ≠ .off) (normal : (s.port p).ca.state = .normal)
    (record : CaptureRecord) : ∃ unit fetch, s.onlyCapture p (s.takeInHand p (some record) false)
      ∧ (s.takeInHand p (some record) false).port p = { s.port p with ca := { (s.port p).ca with
          inHand := some unit, fetch := fetch } }
      ∧ ((s.port p).ca.writePosition = 0 → (s.port p).ca.readMark = 0 → record.size ≤ (s.port p).ca.areaSize →
        unit = { records := [.record record], passed := true }) := by
  rw [State.takeInHand_some]
  cases mode : (s.port p).ca.mode with
  | off => exact absurd mode unmuted
  | history =>
    refine ⟨_, _, s.onlyCapture_modPort p _, State.modPort_unpublished rfl, fun start _ fits => ?_⟩
    exact Capture.recordUnit_start start fits true
  | keep =>
    dsimp only
    by_cases room : (s.port p).ca.hasRoom ((s.port p).ca.recordUnit record false false) = true
    · rw [State.testUnit_room room]
      refine ⟨{ (s.port p).ca.recordUnit record false false with passed := true }, (s.port p).ca.fetch,
        s.onlyCapture_modPort p _, ?_, fun start _ fits => ?_⟩
      · rw [State.passUnit, State.modPort_unpublished (by rw [Port.published, Port.published, normal]), normal]
      · rw [Capture.recordUnit_start start fits]
    · rw [State.testUnit_fetches room (.inl (by rw [normal]; decide))]
      refine ⟨_, _, s.onlyCapture_modPort p _, State.modPort_unpublished rfl, fun start read fits => ?_⟩
      rw [Capture.recordUnit_start start fits, Capture.hasRoom_start start read fits] at room
      exact absurd rfl room

/-- The mark reaches its port's Capture Assembler alone. -/
theorem State.markEnabled_marks (ready : (s.port p).markable) :
    s.onlyCapture p (s.markEnabled p) ∧ (s.port p).markedFrom ((s.markEnabled p).port p) s.partTime := by
  unfold State.markEnabled
  dsimp only
  cases muted : (s.port p).captureMuted with
  | true =>
    refine ⟨s.onlyCapture_modPort p _, ?_⟩
    rw [if_pos rfl, State.runAgenda, State.modPort_unpublished rfl]
    exact ⟨rfl, fun _ => ⟨rfl, rfl⟩, fun unmuted => absurd (muted.symm.trans unmuted) (by decide)⟩
  | false =>
    have normal : (s.port p).ca.state = .normal := ready.resolve_left (by simp [muted])
    have on : (s.port p).ca.mode ≠ .off := fun off => by simp [Port.captureMuted, off] at muted
    obtain ⟨unit, fetch, only, port, start⟩ :=
      State.takeInHand_normal on normal (.mark .enabled 0 s.partTime (s.port p).slu.receiveCount)
    rw [if_neg Bool.false_ne_true, State.runAgenda_held (by
      rw [State.captureStep, port]; rfl)]
    refine ⟨only.trans (State.onlyCapture_modPort _ p _), ?_⟩
    rw [State.modPort_unpublished rfl, State.captureStep, port]
    refine ⟨rfl, fun isMuted => absurd (muted.symm.trans isMuted) (by decide), fun _ written read fits => ?_⟩
    exact ⟨congrArg some (start written read fits), rfl⟩

end

/-! ### The marks of all ports -/

/-- The mark of a port, where it is in use. -/
def State.markInUse (s : State) (p : PortId) : State := if s.inUse p then s.markEnabled p else s

/-- The marks of all ports in use. -/
@[irreducible] def State.allMarked (s : State) : State := s.forPorts fun p u => u.markInUse p

/-- Where every port in use can take its mark, only the ports may differ, and every port in use still can. -/
structure State.markReady (s u : State) : Prop where
  beside : u = { s with ports := u.ports }
  ready : ∀ q, s.inUse q = true → (u.port q).markable

section
variable {s u : State}

theorem State.markReady.inUse (h : s.markReady u) (q : PortId) : u.inUse q = s.inUse q := by rw [h.beside]; rfl

theorem State.markReady.partTime (h : s.markReady u) : u.partTime = s.partTime := by rw [h.beside]; rfl

/-- The mark of a port in use leaves the others as they are, and itself ready. -/
theorem State.markReady.markEnabled (h : s.markReady u) {q : PortId} (inUse : s.inUse q = true) :
    s.markReady (u.markEnabled q) := by
  obtain ⟨only, marked⟩ := State.markEnabled_marks (h.ready q inUse)
  refine ⟨only.beside.trans (by rw [h.beside]), fun p used => ?_⟩
  by_cases same : p = q
  · subst same
    exact marked.markable (h.ready p used)
  · rw [only.elsewhere p same]
    exact h.ready p used

theorem State.markReady.markInUse (h : s.markReady u) (q : PortId) : s.markReady (u.markInUse q) := by
  unfold State.markInUse
  split
  · next used => exact h.markEnabled ((h.inUse q).symm.trans used)
  · exact h

theorem State.allMarked_ready (h : s.markReady s) : s.markReady s.allMarked := by
  unfold State.allMarked
  exact State.forPorts_keeps (P := s.markReady) (fun q u hu => hu.markInUse q) h

theorem State.markInUse_elsewhere (u : State) (q : PortId) : u.sameElsewhere q (u.markInUse q) := by
  unfold State.markInUse
  split
  · exact (State.agendaFrame_runAgenda u q _).elsewhere
  · exact fun _ _ => rfl

/-- Each port in use has its mark; the others are as they were. -/
theorem State.allMarked_port (h : s.markReady s) (p : PortId) :
    (s.inUse p = true → (s.port p).markedFrom (s.allMarked.port p) s.partTime)
      ∧ (s.inUse p = false → s.allMarked.port p = s.port p) := by
  unfold State.allMarked
  refine State.forPorts_at (p := p) (I := s.markReady) (Q := fun u =>
    (s.inUse p = true → (s.port p).markedFrom (u.port p) s.partTime) ∧ (s.inUse p = false → u.port p = s.port p))
    (fun q u => u.markInUse_elsewhere q) h (fun q u hu => hu.markInUse q) (fun u hu port => ?_) (fun q u other hu => ?_)
  · rw [State.markInUse, hu.inUse p]
    refine ⟨fun used => ?_, fun unused => ?_⟩
    · rw [if_pos used, ← port, ← hu.partTime]
      exact (State.markEnabled_marks (hu.ready p used)).2
    · rw [if_neg (by simp [unused]), port]
  · rw [u.markInUse_elsewhere q p other.symm]
    exact hu

end

/-! ### The ports at an enable (R144, R146, R154, R165, R180) -/

theorem Port.noting_flagged {old new : Port} (flagged : new.status.changed = true) : old.noting new = new := by
  unfold Port.noting
  split
  · rfl
  · rw [← flagged]

section
variable {v : Port} {d : Descriptor} (heard : Bool)

/-- In mode OFF the capture is silent, the pending gap is gone, and the freeze is LIVE. -/
theorem Port.enterUse_off (off : CaptureMode.ofCode d.modeCode = .off) : (v.enterUse d heard).captureMuted = true
    ∧ (v.enterUse d heard).ca.state = .off ∧ (v.enterUse d heard).ca.gap = none
    ∧ (v.enterUse d heard).freeze = { v.freeze with state := .live, remaining := 0, trigger := none } := by
  simp [Port.enterUse, Capture.takeUp, Freeze.atEnable, Port.captureMuted, off]

/-- In any other mode gap and freeze stand, and only a FROZEN freeze holds the mark back. -/
theorem Port.enterUse_on (on : CaptureMode.ofCode d.modeCode ≠ .off) :
    (v.enterUse d heard).captureMuted = decide (v.freeze.state = .frozen)
    ∧ (v.enterUse d heard).ca.state = .normal ∧ (v.enterUse d heard).ca.gap = v.ca.gap
    ∧ (v.enterUse d heard).freeze = v.freeze := by
  simp [Port.enterUse, Capture.takeUp, Freeze.atEnable, Port.captureMuted, on]

theorem Port.enterUse_markable : (v.enterUse d heard).markable := by
  by_cases off : CaptureMode.ofCode d.modeCode = .off
  · exact .inl (Port.enterUse_off heard off).1
  · exact .inr (Port.enterUse_on heard off).2.1

theorem Port.enterUse_rateState : (v.enterUse d heard).rf.state = v.rf.state := by
  cases heard <;> rfl

end

theorem CaptureMode.ofCode_off {n : Nat} (h : 1 < n) : CaptureMode.ofCode n = .off := by
  obtain ⟨m, rfl⟩ := Nat.exists_eq_add_of_le' h
  rfl

theorem CaptureMode.ofCode_on {n : Nat} (h : n ≤ 1) : CaptureMode.ofCode n ≠ .off := by
  rcases Nat.le_one_iff_eq_zero_or_eq_one.1 h with rfl | rfl <;> decide

section
variable (s : State) (a : Addr) (h : AnchorHeader) (d : List Byte)

/-- The part with the new geometry, its ports in use or left unused, before any mark. -/
def State.portsTaken : State := (s.latchEnable a h).modPorts (s.portsAtEnable h d)

theorem State.succeedEnable_eq : s.succeedEnable a h d = (s.portsTaken a h d).allMarked.startSweeping := by
  unfold State.succeedEnable State.allMarked
  rfl

variable {s a h d} {p : PortId}

theorem State.portsTaken_used (used : p.val < h.portCount) :
    (s.portsTaken a h d).port p = (s.port p).enterUse (Descriptor.parse d p.val) (s.listening p) := by
  have port : (s.latchEnable a h).port p = s.port p := rfl
  rw [State.portsTaken, State.port_modPorts, port, State.portsAtEnable, if_pos used]
  exact Port.noting_flagged rfl

theorem State.portsTaken_unused (unused : h.portCount ≤ p.val) :
    (s.portsTaken a h d).port p = (s.port p).noting (s.port p).leaveUse := by
  have port : (s.latchEnable a h).port p = s.port p := rfl
  rw [State.portsTaken, State.port_modPorts, port, State.portsAtEnable, if_neg (Nat.not_lt.2 unused)]

theorem State.portsTaken_inUse (q : PortId) : (s.portsTaken a h d).inUse q = decide (q.val < h.portCount) := rfl

/-- Every port in use can take its mark. -/
theorem State.portsTaken_ready : (s.portsTaken a h d).markReady (s.portsTaken a h d) := by
  refine ⟨rfl, fun q used => ?_⟩
  rw [State.portsTaken_inUse, decide_eq_true_iff] at used
  rw [State.portsTaken_used used]
  exact Port.enterUse_markable _

end

/-! ### The sweep at an enable (R5, R179) -/

section
variable {s : State}

theorem State.startSweep_requested (s : State) : s.startSweep true = s.beginSweep true := by
  cases scan : s.tsu.scanFrom 0 with
  | none => exact State.startSweep_requested_of_none scan
  | some k => exact State.startSweep_of_some true scan

theorem State.startSweeping_frame (s : State) : ∃ sweep timer pending, s.startSweeping = { s with tsu := { s.tsu with
    sweep := sweep, timer := timer, pendingRequest := pending } } := by
  unfold State.startSweeping
  split
  · rw [State.startSweep_requested]
    obtain ⟨sweep, timer, pending, begun⟩ := s.sweepIdle.beginSweep_frame true
    exact ⟨sweep, timer, pending, begun⟩
  · exact ⟨_, _, _, rfl⟩

theorem State.startSweeping_port (s : State) (p : PortId) : s.startSweeping.port p = s.port p := by
  obtain ⟨_, _, _, moved⟩ := s.startSweeping_frame
  rw [moved]
  rfl

/-- With no request pending no sweep starts, and in RUNNING the timer is armed with a period that is not 0. -/
theorem State.startSweeping_idle (none : s.tsu.pendingRequest = false) : s.startSweeping.tsu.sweep = Option.none
    ∧ (s.bus.control = .running → s.tsu.geometry.sweepPeriod ≠ 0 →
      s.startSweeping.tsu.timer = some (s.arm s.tsu.geometry.sweepPeriod)) := by
  rw [State.startSweeping, if_neg (ne_true_of_eq_false none)]
  exact ⟨rfl, fun running period => if_pos (by simp [running, period])⟩

/-- A pending request starts a sweep at the first slot that is not in flight. -/
theorem State.startSweeping_pending {k : Nat} (pending : s.tsu.pendingRequest = true)
    (inTable : k < s.tsu.geometry.slotCount) (free : k ∉ s.tsu.inFlight) (passed : ∀ j, j < k → j ∈ s.tsu.inFlight) :
    s.startSweeping.tsu.sweep = some { requested := true, index := k, stage := .headerWanted }
      ∧ s.startSweeping.tsu.pendingRequest = false ∧ s.startSweeping.tsu.timer = none := by
  have scan : s.sweepIdle.tsu.scanFrom 0 = some k :=
    Tsu.scanFrom_first (Nat.zero_le k) inTable free fun j _ => passed j
  rw [State.startSweeping, if_pos pending, State.startSweep_requested, State.beginSweep_of_some true scan]
  exact ⟨rfl, rfl, rfl⟩

end

/-! ### The hand-over (R165, R179) -/

theorem Scanner.sweepBelow_eq (c : Scanner) (n : Nat) : c.sweepBelow n =
    match c.sweep with | none => none | some w => if w.port < n then some w else none := by
  unfold Scanner.sweepBelow
  cases c.sweep with
  | none => rfl
  | some w => simp [Option.filter]

section
variable {s : State} {a : Addr} {h : AnchorHeader} {d : List Byte}

theorem State.succeedEnable_beside : ∃ ports sweep timer pending, s.succeedEnable a h d =
    { s.latchEnable a h with
      ports := ports
      tsu := { s.tsu with geometry := h.geometry, sweep := sweep, timer := timer, pendingRequest := pending } } := by
  obtain ⟨sweep, timer, pending, moved⟩ := (s.portsTaken a h d).allMarked.startSweeping_frame
  refine ⟨(s.portsTaken a h d).allMarked.ports, sweep, timer, pending, ?_⟩
  rw [State.succeedEnable_eq, moved, (State.allMarked_ready State.portsTaken_ready).beside]
  rfl

/-- A port in use is taken up and marked. -/
theorem State.succeedEnable_used {p : PortId} (used : p.val < h.portCount) :
    ((s.port p).enterUse (Descriptor.parse d p.val) (s.listening p)).markedFrom
      ((s.succeedEnable a h d).port p) s.partTime := by
  have marked := (State.allMarked_port (State.portsTaken_ready (s := s) (a := a) (h := h) (d := d)) p).1
    (by rw [State.portsTaken_inUse, decide_eq_true_iff]; exact used)
  rw [State.portsTaken_used used] at marked
  rw [State.succeedEnable_eq, State.startSweeping_port]
  exact marked

theorem State.succeedEnable_unused {p : PortId} (unused : h.portCount ≤ p.val) :
    (s.succeedEnable a h d).port p = (s.port p).noting (s.port p).leaveUse := by
  rw [State.succeedEnable_eq, State.startSweeping_port, (State.allMarked_port State.portsTaken_ready p).2
    (by rw [State.portsTaken_inUse, decide_eq_false_iff_not]; omega), State.portsTaken_unused unused]

end

/-- Settles O16: the shared blocks by the hand-over, each port by the mark that it takes or by its leaving use. -/
theorem enableHandsEachBlockItsValues : Obligations.EnableHandsEachBlockItsValues := by
  rintro s _ a h d _ rfl
  have marks := State.allMarked_ready (State.portsTaken_ready (s := s) (a := a) (h := h) (d := d))
  have tsu : (s.portsTaken a h d).allMarked.tsu = { s.tsu with geometry := h.geometry } := by rw [marks.beside]; rfl
  obtain ⟨ports, sweep, timer, pending, beside⟩ := State.succeedEnable_beside (s := s) (a := a) (h := h) (d := d)
  refine ⟨by rw [beside]; rfl, by rw [beside]; rfl, ?_, by rw [beside]; rfl, by rw [beside]; rfl, by rw [beside]; rfl,
    by rw [beside]; rfl, by rw [beside]; rfl, fun none => ?_, fun k request inTable free passed => ?_,
    fun p used => ?_, fun p unused => ?_⟩
  · rw [beside]
    exact congrArg (fun sweep => { s.scanner with scanPorts := h.portCount, sweep := sweep })
      (s.scanner.sweepBelow_eq h.portCount)
  · obtain ⟨idle, armed⟩ := State.startSweeping_idle (s := (s.portsTaken a h d).allMarked) (by rw [tsu]; exact none)
    rw [State.succeedEnable_eq]
    refine ⟨idle, fun period => ?_⟩
    rw [armed (by rw [marks.beside]; rfl) (by rw [tsu]; change min h.sweepPeriod 1000 ≠ 0; omega), marks.beside]
    rfl
  · rw [State.succeedEnable_eq]
    exact State.startSweeping_pending (by rw [tsu]; exact request) (by rw [tsu]; exact inTable)
      (by rw [tsu]; exact free) (by rw [tsu]; exact passed)
  · have marked := State.succeedEnable_used (s := s) (a := a) (d := d) used
    generalize (s.succeedEnable a h d).port p = w at marked ⊢
    obtain ⟨kept, muted, unmuted⟩ := marked
    rw [kept]
    refine ⟨rfl, rfl, rfl, rfl, rfl, rfl, rfl, rfl, rfl, rfl, rfl, rfl, rfl, rfl, rfl, rfl,
      Port.enterUse_rateState (d := Descriptor.parse d p.val) _, fun code => ?_, fun code => ?_⟩
    · obtain ⟨silent, state, gap, freeze⟩ := Port.enterUse_off (v := s.port p) (d := Descriptor.parse d p.val)
        (s.listening p) (CaptureMode.ofCode_off code)
      exact ⟨state, (muted silent).1, gap, freeze⟩
    · obtain ⟨silent, state, gap, freeze⟩ := Port.enterUse_on (v := s.port p) (d := Descriptor.parse d p.val)
        (s.listening p) (CaptureMode.ofCode_on code)
      refine ⟨state, gap, freeze, fun frozen => ?_, fun live size => ?_⟩
      · exact muted (by rw [silent, frozen]; rfl)
      · refine unmuted (by rw [silent]; exact decide_eq_false live) rfl rfl ?_
        exact (by decide : 16 ≤ 2 ^ 12).trans (Nat.pow_le_pow_right (by decide) size)
  · rw [State.succeedEnable_unused unused]
    rcases Port.noting_eq (s.port p) (s.port p).leaveUse with noted | noted <;> rw [noted] <;>
      exact ⟨rfl, rfl, rfl, rfl, rfl, rfl, rfl, rfl, rfl, rfl, rfl⟩

end Sys2Proof.Machine
end

section
/-! SUPPORT. The settle point and the entry to STOPPED; the statement on them. -/

namespace Sys2Proof.Machine

/-! ### The conditions of the drain (R182) -/

section
variable {s : State}

theorem State.queuesEmpty_iff : s.queuesEmpty = true ↔ ∀ p, (s.port p).queue = [] := by
  simp [State.queuesEmpty]

theorem State.allSettled_iff :
    s.allSettled = true ↔ ∀ p : PortId, p.val < s.tsu.geometry.portCount → (s.port p).status.finalIssued = true := by
  simp [State.allSettled, State.inUse, imp_iff_not_or]

theorem State.drainDone_iff : s.drainDone = true ↔ (∀ p, (s.port p).queue = [])
    ∧ (∀ p : PortId, p.val < s.tsu.geometry.portCount → (s.port p).status.finalIssued = true)
    ∧ s.tsu.sweep = none ∧ s.tsu.completions = [] ∧ s.tsu.writes = [] ∧ s.hme.queuedWrites = 0 := by
  simp only [State.drainDone, Bool.and_eq_true, State.queuesEmpty_iff, State.allSettled_iff, Option.isNone_iff_eq_none,
    List.isEmpty_iff, decide_eq_true_eq, and_assoc]

/-! ### The settle point (R143, R182) -/

theorem State.watchSettle_handed (handed : s.bus.settleHanded = true) : s.watchSettle = s := by
  simp [State.watchSettle, handed]

theorem State.watchSettle_point (empty : ∀ p, (s.port p).queue = []) (unhanded : s.bus.settleHanded = false) :
    s.watchSettle = s.handSettle := by
  simp [State.watchSettle, State.queuesEmpty_iff.2 empty, unhanded]

theorem State.handSettle_bus (s : State) : s.handSettle.bus = { s.bus with settleHanded := true } := by
  unfold State.handSettle
  dsimp only
  rw [State.forPorts_keeps (P := fun u => u.bus = s.bus) (fun p u hu => by simpa using hu) rfl]

theorem State.onlyCaptures_handSettle (s : State) : s.onlyCaptures s.handSettle :=
  (s.onlyCaptures_forPorts_handItem .settle).withBus _

/-- The settle request is the only one of its port, and it changes nothing that is published. -/
theorem State.handSettle_listening {p : PortId} (listening : s.listening p = true) :
    s.handSettle.port p = { s.port p with ca := { (s.port p).ca with
      events := ((s.port p).ca.events.filter fun it => it.action ≠ .settle)
        ++ [EventItem.mk (s.port p).slu.receiveCount s.partTime .settle]
      runGrows := false } } := by
  rw [State.handSettle_port, State.handItem_listening listening, State.port_modPort_same]
  exact Port.noting_same rfl

theorem State.handSettle_deaf {p : PortId} (deaf : s.listening p = false) : s.handSettle.port p = s.port p := by
  rw [State.handSettle_port, State.handItem_deaf deaf]

/-- A drain that waits for a final status write passes its settle point and waits on (R182). -/
theorem State.watchDrain_settles {p : PortId} (draining : s.bus.control = .draining)
    (unhanded : s.bus.settleHanded = false) (empty : ∀ q, (s.port q).queue = [])
    (inUse : p.val < s.tsu.geometry.portCount) (unissued : (s.port p).status.finalIssued = false) :
    s.watchDrain = s.handSettle := by
  have waits : s.watchSettle.drainDone = false :=
    State.drainDone_waits (p := p) (by rw [State.inUse, State.watchSettle_tsu]; exact decide_eq_true inUse)
      (by rw [State.watchSettle_finalIssued, unissued])
  rw [State.watchDrain_draining draining, waits, if_neg Bool.false_ne_true, State.watchSettle_point empty unhanded]

/-! ### The entry to STOPPED (R182) -/

/-- Behind the settle point the watch is for the entry to STOPPED alone. -/
theorem State.watchDrain_handed (draining : s.bus.control = .draining) (handed : s.bus.settleHanded = true) :
    s.watchDrain = if s.drainDone then s.enterStopped else s := by
  rw [State.watchDrain_draining draining, State.watchSettle_handed handed]

theorem State.enterStopped_attention (s : State) : s.enterStopped.attention = s.attention ||| 1#10 <<< 9 := by
  rw [State.enterStopped, State.raise_attention, State.modPorts_attention]
  rfl

end

/-- Settles O18: the watch by the settle point passed or not; the drain that is done enters STOPPED. -/
theorem stoppedIsEnteredWhenTheDrainIsDone : Obligations.StoppedIsEnteredWhenTheDrainIsDone := by
  refine ⟨fun s draining handed => ⟨fun empty issued sweep completions writes queued => ?_, fun h => ?_⟩,
    fun s draining unhanded => ⟨fun ⟨p, queued⟩ => ?_, fun empty ⟨p, inUse, unissued⟩ => ?_⟩,
    fun s => State.watchDrain_same⟩
  · have done := State.drainDone_iff.2 ⟨empty, issued, sweep, completions, writes, queued⟩
    rw [State.watchDrain_handed draining handed, if_pos done]
    refine ⟨s.enterStopped_control, s.enterStopped_attention, by rw [State.enterStopped_tsu], fun p => ?_⟩
    simp [Hold.clear]
  · have waits : ¬ s.drainDone = true := by
      rw [State.drainDone_iff]
      rintro ⟨empty, issued, sweep, completions, writes, queued⟩
      rcases h with ⟨p, h⟩ | ⟨p, inUse, h⟩ | h | h | h | h
      · exact h (empty p)
      · exact Bool.false_ne_true (h.symm.trans (issued p inUse))
      · exact h sweep
      · exact h completions
      · exact h writes
      · exact h queued
    rw [State.watchDrain_handed draining handed, if_neg waits]
  · obtain ⟨e, rest, queue⟩ := List.exists_cons_of_ne_nil queued
    exact State.watchDrain_queued queue
  · rw [State.watchDrain_settles draining unhanded empty inUse unissued]
    have same := s.onlyCaptures_handSettle
    refine ⟨s.handSettle_bus, fun q inUse => ?_, fun q unused => ?_, same.tsu, same.hme, same.attention⟩
    · exact State.handSettle_listening (State.listening_of (by simp [draining]) inUse)
    · exact State.handSettle_deaf (by simp [State.listening, State.inUse, unused])

end Sys2Proof.Machine
end

section
/-! SUPPORT. The statement that no command stops the part. -/

namespace Sys2Proof.Machine

/-- Settles O1, by cases on the command: the meaning that each arm of the dispatch names is the next state of a
function on states, so the state after the command is read off that meaning. -/
theorem everyCommandAnswersANextState : Obligations.EveryCommandAnswersANextState := by
  intro c s
  cases c <;> exact ⟨_, rfl⟩

end Sys2Proof.Machine
end
